-- ==== Sys2Proof/Word.lean ====
section
/-! DEFINITION. The native word of the part and its plainest arithmetic (00_scope.md R4, R5; 02_register_pages.md R26). -/
namespace Sys2Proof

/-- A slot value: 48 bits (R26). -/
abbrev Word := BitVec 48

/-- A byte of a frame, an item or an image. -/
abbrev Byte := BitVec 8

/-- Bits `lo + w - 1` to `lo` of a number. -/
def field (x lo w : Nat) : Nat := x / 2 ^ lo % 2 ^ w

/-- A number with bits `lo + w - 1` to `lo` replaced. -/
def setField (x lo w v : Nat) : Nat :=
  x % 2 ^ lo + v % 2 ^ w * 2 ^ lo + x / 2 ^ (lo + w) * 2 ^ (lo + w)

/-- A `w`-bit pattern read as two's complement (R5). -/
def signed (w x : Nat) : Int := if x % 2 ^ w < 2 ^ (w - 1) then (x % 2 ^ w : Nat) else (x % 2 ^ w : Nat) - (2 ^ w : Nat)

/-- The `w`-bit two's complement pattern of an integer. -/
def unsigned (w : Nat) (i : Int) : Nat := (i % (2 ^ w : Nat)).toNat

/-- A count held in `w` bits that stops at its largest value. -/
def saturate (w n : Nat) : Nat := min n (2 ^ w - 1)

/-- A signed value held in `w` bits that stops at its limits, as its bit pattern. -/
def saturateSigned (w : Nat) (i : Int) : Nat :=
  unsigned w (max (-(2 ^ (w - 1) : Nat)) (min i ((2 ^ (w - 1) : Nat) - 1)))

end Sys2Proof
end

