-- ==== Sys2Proof/Syntax.lean ====
section
/-! DEFINITION. The commands of the block: one constructor per row of spec/opcode_table.json, with the operands its rule
reads. Measured values, received frames and verdicts of checks over keys the part alone holds come as operands. -/
namespace Sys2Proof

/-- The two masters (02_register_pages.md). -/
inductive Master where
  | host
  | mgmt
deriving DecidableEq, Repr

/-- Index of a master: 0 host, 1 management port. -/
def Master.ix : Master → Nat
  | .host => 0
  | .mgmt => 1

/-- Where a login comes from (R564). -/
inductive Origin where
  | host
  | mgmt
  | field
deriving DecidableEq, Repr

/-- The two partitions (01_hub_and_module.md). -/
inductive Partition where
  | a
  | b
deriving DecidableEq, Repr

/-- The two safety channels (R283). -/
inductive Channel where
  | x
  | y
deriving DecidableEq, Repr

/-- The three ways an open request is handled (R297). -/
inductive OpenKind where
  | normal
  | forced
  | trip
deriving DecidableEq, Repr

/-- A record as a block submits it to the granary (R342, R345): the granary adds number, time, flags and checks. -/
structure Submission where
  /-- block code, 0xFE for a partition -/
  source : Nat
  cls : Nat
  code : Nat
  inst : Nat
  /-- the ACTOR byte -/
  actor : Nat
  /-- how many records the entry takes, 1 to 16 (R346) -/
  parts : Nat
  /-- payload bytes, byte 0 least significant -/
  payload : Nat
deriving DecidableEq, Repr

/-- The PTP messages the part handles (R85). -/
inductive PtpKind where
  | sync
  | followUp
  | delayReq
  | delayResp
  | pdelayReq
  | pdelayResp
  | pdelayRespFollowUp
  | announce
deriving DecidableEq, Repr

/-- A PTP message at a port (R82, R85). Times are in units of 2^-16 ns. -/
structure PtpMsg where
  kind : PtpKind
  domain : Nat
  /-- 0 IEEE 802.3, 1 UDP over IPv4, 2 UDP over IPv6 -/
  transport : Nat
  twoStep : Bool
  /-- instant of the MAC boundary in the current command cycle, ns; even, as the counter is -/
  dt : Nat
  /-- ns before it at which the request that a delay or peer-delay response answers left; even -/
  request : Nat
  /-- sourcePortIdentity -/
  sender : Nat
  /-- originTimestamp, preciseOriginTimestamp, receiveTimestamp or responseOriginTimestamp -/
  stamp : Int
  /-- requestReceiptTimestamp of a peer-delay response -/
  receipt : Int
  /-- correctionField -/
  correction : Int
  /-- of an Announce: grandmasterPriority1 -/
  prio1 : Nat
  /-- grandmasterClockQuality: clockClass, clockAccuracy, offsetScaledLogVariance, 32 bits -/
  quality : Nat
  /-- grandmasterPriority2 -/
  prio2 : Nat
  /-- grandmasterIdentity -/
  gm : Nat
  /-- stepsRemoved -/
  steps : Nat
deriving DecidableEq, Repr

/-- What a decoded vehicle request asks (R230, R235, R237, R240, R242): the kinds the engine or the partition acts on. -/
inductive V2gKind where
  | sessionSetup
  /-- PaymentServiceSelection, ServiceSelection, PaymentDetails or AuthorizationSetup -/
  | service
  /-- Authorization; true with a contract (Plug & Charge) -/
  | authorization (contract : Bool)
  | chargeParameterDiscovery
  | cableCheck
  | preCharge
  /-- PowerDelivery with ChargeProgress Start -/
  | powerStart
  /-- PowerDelivery with ChargeProgress Standby (ISO 15118-20) -/
  | powerStandby
  /-- PowerDelivery with ChargeProgress Stop -/
  | powerStop
  /-- CurrentDemand, ChargingStatus, DC_ChargeLoop or AC_ChargeLoop -/
  | powerLoop
  | sessionStop
  /-- a service (true) or a message of the standard that the part does not support -/
  | unsupported (service : Bool)
  /-- any other message of the standard -/
  | other
deriving DecidableEq, Repr

/-- A vehicle request as the engine receives it (R233). -/
structure V2gReq where
  kind : V2gKind
  /-- message index in the standard's message set (R347) -/
  msg : Nat
  /-- bytes of the EXI document -/
  len : Nat
  /-- the EXI document decodes -/
  decodes : Bool
  /-- the request is in sequence for the standard -/
  inSequence : Bool
  /-- vehicle's maximum power, W; 0 where it states none -/
  evP : Nat
  /-- vehicle's maximum voltage, V -/
  evV : Nat
  /-- vehicle's maximum current, 0.1 A; per phase in AC -/
  evI : Nat
  /-- target voltage, 10 mV -/
  vT : Nat
  /-- target current, 10 mA -/
  iT : Nat
  /-- state of charge, % -/
  soc : Nat
  /-- contract identifier, 40 bytes of ASCII, byte 0 least significant -/
  emaid : Nat
deriving DecidableEq, Repr

/-- A TLS record or TCP segment as the modem brings it (R227, R234). -/
structure TlsRec where
  /-- it authenticates, and it is no alert -/
  ok : Bool
  /-- its bytes -/
  len : Nat
  /-- it completes the handshake -/
  finished : Bool
  /-- the modem's frames for it, in order: for each block how many of its transmissions failed their check -/
  frames : List (List Nat)
deriving DecidableEq, Repr

/-- What the leading partition hands to the engine for a request (R233, R234). -/
structure PartRes where
  /-- response code in the standard's set -/
  code : Nat
  /-- bytes of the response as the engine sends it -/
  len : Nat
  /-- the partition's application context for the session from here on -/
  ctx : Nat
deriving DecidableEq, Repr

/-- A contract certificate chain and the signature over the challenge, as the engine finds them (R242). -/
structure CertChain where
  /-- the certificates are well formed -/
  formed : Bool
  /-- the leaf and its sub-CAs -/
  count : Nat
  /-- key store slot of the root at which it ends; none for an unknown root -/
  root : Option Nat
  /-- every signature of the chain verifies, and the one over the challenge does -/
  signed : Bool
  challenge : Bool
  /-- validity of each certificate: first and last second of corrected time -/
  periods : List (Nat × Nat)
deriving DecidableEq, Repr

/-- A main-path sample of one input as the bitstream gives it (R101, R115). -/
structure InSample where
  input : Nat
  /-- the level of MDATn, oldest first from bit 0: of N steps a bit period, bit N x j + r is the level r steps after the MCLK edge
  625 x n - 3760 + j; N is 16 in CLOCKED mode, and the 2.5 ns steps of a bit period in MANCHESTER mode -/
  line : Nat
deriving DecidableEq, Repr

/-- What a block asks of a key (R412, R413, R419). -/
inductive KeyUse where
  /-- derive a child under a label and a context, with the child's type as an ALG of R434, and its USAGE -/
  | derive (label context : List Byte) (alg usage : Nat)
  | sign
  | verify
  | wrap
  | encrypt
  | agree
  /-- a MAC with an HMAC key -/
  | mac
deriving DecidableEq, Repr

/-- A request to the key store (R411, R419, R420). -/
structure KeyReq where
  /-- number that the requester gives the operation -/
  id : Nat
  /-- priority class of R420, 1 to 5 -/
  cls : Nat
  handle : Nat
  use : KeyUse
deriving DecidableEq, Repr

/-- A card that a poll finds (R446, R449). -/
structure Card where
  typeB : Bool
  /-- UID or PUPI, 4 to 10 bytes, byte 0 first -/
  uid : List Byte
  /-- it declares ISO/IEC 14443-4 and was activated to it (R445) -/
  activated : Bool
deriving DecidableEq, Repr

/-- The result of the card profile (R448). -/
inductive CardVerdict where
  | ok
  | fail
  | noProfile
deriving DecidableEq, Repr

/-- An Ethernet frame at a port (R476 to R479). Addresses are 48-bit numbers, first byte most significant. -/
structure EthFrame where
  dst : Nat
  src : Nat
  /-- priority code point of its IEEE 802.1Q tag -/
  pcp : Option Nat
  ethType : Nat
  /-- bytes, tags and check included -/
  len : Nat
  /-- its frame check is right -/
  sound : Bool
  /-- a PTP message: an event message or another -/
  ptp : Option Bool
deriving DecidableEq, Repr

/-- A bale as it arrives (R458): its index, its CRC-32C, and its bytes; zeros fill it up to 65 536 bytes. -/
structure Bale where
  index : Nat
  crc : Nat
  data : List Byte
deriving DecidableEq, Repr

/-- How the loading of a new image ends (R463, R465, R469). -/
inductive LoadResult where
  | ok
  /-- the whole-image signature checked by the loader fails -/
  | badSignature
  /-- self-test, lockstep or supervision fails -/
  | failed
deriving DecidableEq, Repr

/-- One constructor per row of spec/opcode_table.json, in the table's order but that the rows
without operands stand last, so that compiled code can run every row up to them. -/
inductive Instr where
  /-- COMMAND_CYCLE_BOUNDARY (R44): At each 1 µs boundary the device settles every write of the ending cycle, commits accepted work and publishes sets. -/
  | commandCycleBoundary (idle : Nat)
  /-- REGISTER_WRITE (R47): A write to a writable slot that has no row of its own is checked, arbitrated and committed at the boundary. -/
  | registerWrite (m : Master) (addr : Nat) (width : Nat) (guard : BitVec 16) (value : BitVec 48)
  /-- TOKEN_WRITE (R41): A master writes xxx_TOKEN, which arms its next command on that group without a record or an epoch change. -/
  | tokenWrite (m : Master) (addr : Nat) (guard : BitVec 16) (token : BitVec 48)
  /-- PAGE_EVT_FORCE (R27): Writing 1 to PAGE_EVT_FORCE raises the event bit as if the event had occurred. -/
  | pageEvtForce (m : Master) (page : Nat) (guard : BitVec 16) (value : BitVec 48)
  /-- PAGE_READ_STALL (R36): A read of a page that the same master wrote in the current cycle stalls until the boundary has committed. -/
  | pageReadStall (m : Master) (addr : Nat) (len : Nat) (dt : Nat)
  /-- TAKE (R48): SYS_SNAP_CTL TAKE freezes every marked page for the master at the next boundary, or is refused with TOO_MANY. -/
  | take (m : Master) (guard : BitVec 16)
  /-- RELEASE (R50): SYS_SNAP_CTL RELEASE releases the master's snapshot. -/
  | release_ (m : Master) (guard : BitVec 16)
  /-- CLEAR_SET (R52): SYS_SNAP_CTL CLEAR_SET clears INCLUDE on every page for the master. -/
  | clearSet (m : Master) (guard : BitVec 16)
  /-- SNAPSHOT_EXPIRED (R50): The hold limit of a snapshot ends, so the snapshot is released and EXPIRED is set. -/
  | snapshotExpired (m : Master)
  /-- LOGIN (R61): SYS_AUTH_REQ LOGIN verifies the signature over the challenge against the role credential and grants or refuses the role. -/
  | login (m : Master) (guard : BitVec 16) (role : Fin 8) (sigValid : Bool)
  /-- LOGOUT (R61): SYS_AUTH_REQ LOGOUT returns the master to GUEST and journals the logout. -/
  | logout (m : Master) (guard : BitVec 16)
  /-- ROLE_SESSION_EXPIRY (R60): A privileged role session ends after 30 min without an accepted write from its master. -/
  | roleSessionExpiry (m : Master)
  /-- LOGIN_BLOCK_END (R60): The 60 s block on logins that followed three failed logins ends. -/
  | loginBlockEnd (o : Origin)
  /-- DEVICE_RESET (R529): The SYS command DEVICE_RESET starts a device reset at its committing boundary. -/
  | deviceReset (m : Master) (guard : BitVec 16) (arg : BitVec 40)
  /-- PARTITION_RESET (R512): The SYS command PARTITION_RESET resets the named partition as a takeover, or is refused. -/
  | partitionReset (m : Master) (guard : BitVec 16) (arg : BitVec 40)
  /-- MGMT_READ_FRAME (R55): A management-port read frame is checked and answered with a status and the slots read. -/
  | mgmtReadFrame (frame : List Byte) (dt : Nat) (clocked : Bool)
  /-- MGMT_WRITE_FRAME (R55): A management-port write frame is checked and carries one slot write to the boundary. -/
  | mgmtWriteFrame (frame : List Byte) (clocked : Bool)
  /-- TIM_NOW_CAPTURE (R70): A read covering TIM_NOW_SEC captures corrected time and the counter when it enters FAB. -/
  | timNowCapture (m : Master) (dt : Nat)
  /-- STEP_TO (R73): STEP_TO sets the offset so that corrected time equals the parameter, or aligns the next PPS second. -/
  | stepTo (m : Master) (guard : BitVec 16) (arg : BitVec 40)
  /-- STEP_BY (R73): STEP_BY adds the signed parameter to the offset as a step. -/
  | stepBy (m : Master) (guard : BitVec 16) (arg : BitVec 40)
  /-- SLEW_BY (R73): SLEW_BY adds a slew term to the rate until the parameter has been accumulated. -/
  | slewBy (m : Master) (guard : BitVec 16) (arg : BitVec 40)
  /-- SET_RATE (R73): SET_RATE sets a new base rate and rebases the offset for continuity. -/
  | setRate (m : Master) (guard : BitVec 16) (arg : BitVec 40)
  /-- SET_UTC (R73): SET_UTC sets the UTC offset and the leap announcement. -/
  | setUtc (m : Master) (guard : BitVec 16) (arg : BitVec 40)
  /-- TIM_MODE_WRITE (R79): A write of MODE in TIM_MODE changes the discipline mode and the clock state. -/
  | timModeWrite (m : Master) (guard : BitVec 16) (value : BitVec 48)
  /-- SERVO_UPDATE (R80): A valid PTP or PPS measurement updates the servo, which steps or slews and may change the clock state. -/
  | servoUpdate
  /-- ANNOUNCE_TIMEOUT (R79): The announce receipt timeout expires with no other qualified master, so the clock enters HOLDOVER. -/
  | announceTimeout
  /-- PTP_MESSAGE_RECEIVED (R85): A PTP message reaches the ordinary clock, which stamps it and updates delay and offset measurement. -/
  | ptpMessageReceived (port : Fin 4) (msg : PtpMsg)
  /-- ANNOUNCE_EVALUATION (R88): The best master clock algorithm evaluates announces and reselects the slave port. -/
  | announceEvaluation
  /-- TRANSPARENT_CLOCK_FORWARD (R86): A forwarded event message gets its residence-time correction, or is discarded above 1 ms. -/
  | transparentClockForward (ingress : Nat) (egress : Nat) (msg : PtpMsg) (residence : Nat)
  /-- PPS_IN_EDGE (R89): An active PPS_IN edge is stamped and accepted within its window, or is counted and ignored. -/
  | ppsInEdge (dt : Nat) (falling : Bool)
  /-- PPS_OUT_PULSE (R90): PPS_OUT rises at every corrected-time second and stays high for WIDTH. -/
  | ppsOutPulse (dt : Nat) (high : Bool)
  /-- MAIN_SAMPLE (R101): At each main-path window end the winnower forms, calibrates, tags and stamps a sample, and the metering points accumulate it. -/
  | mainSample (freq : Fin 5) (n : Nat) (dt : Nat) (samples : List InSample)
  /-- FAST_SAMPLE (R103): At each fast-path window end a fast sample is formed, calibrated and compared with PK_LIM. -/
  | fastSample (input : Fin 256) (m : Nat) (dt : Nat) (line : Nat)
  /-- PEAK_CLOSE (R189): After 16 consecutive valid fast samples below the hysteresis level, the PEAK event closes. -/
  | peakClose (input : Fin 256)
  /-- OVERCURRENT_DECISION (R292): A fast-path over-current decision reaches the safety channels and trips the stalls that use the input, or the whole hub. -/
  | overcurrentDecision (input : Fin 256)
  /-- INPUT_STUCK (R114): An input's bitstream shows STUCK_RUN identical bits, so the input enters STUCK. -/
  | inputStuck (input : Fin 256) (run : Nat)
  /-- STUCK_CLEARED (R114): The first differing bit clears STUCK, and qualification begins. -/
  | stuckCleared (input : Fin 256)
  /-- MANCHESTER_LOCK (R100): A Manchester input locks after 64 consecutive valid bits. -/
  | manchesterLock (input : Fin 256) (dly : Nat)
  /-- LOCK_LOST (R115): Sixty-four consecutive code violations set LOCK_LOST, and the input re-locks and restarts. -/
  | lockLost (input : Fin 256)
  /-- MCLK_FAULT (R116): An MCLK readback differs at 4 consecutive edges, setting FAULT and CLK_FAULT on its inputs. -/
  | mclkFault (k : Fin 16)
  /-- MCLK_FAULT_CLEAR (R116): After 64 consecutive good edges an MCLK fault clears. -/
  | mclkFaultClear (k : Fin 16)
  /-- QUALIFICATION_COMPLETE (R117): An input has run free of faults for QUAL × 10 ms and leaves its fault condition. -/
  | qualificationComplete (input : Fin 256)
  /-- INPUT_READMIT (R118): The MET_WIN command READMIT starts qualification of a latched-out or taken-out input. -/
  | inputReadmit (m : Master) (guard : BitVec 16) (arg : BitVec 40)
  /-- INPUT_TAKE_OUT (R118): The MET_WIN command TAKE_OUT removes an input from service as if it had failed. -/
  | inputTakeOut (m : Master) (guard : BitVec 16) (arg : BitVec 40)
  /-- SEALED_WRITE (R110): A METROLOGY write to a sealed field under the open seal is journalled and may restart the inputs it touches. -/
  | sealedWrite (m : Master) (addr : Nat) (guard : BitVec 16) (value : BitVec 48)
  /-- SETTLEMENT_END (R137): At the end of a settlement period the net energy is added to one direction and its tariff register. -/
  | settlementEnd (mp : Fin 64)
  /-- ANALYSIS_WINDOW_END (R140): At the end of each 200 ms window f1, reactive energy, harmonics and RMS are evaluated. -/
  | analysisWindowEnd (mp : Fin 64)
  /-- SAVE_COMPLETE (R146): A save completes, or fails with SAVE_FAILED and is retried. -/
  | saveComplete (ok : Bool)
  /-- SAVE_NOW (R153): SAVE_NOW starts a save at the next publication instant. -/
  | saveNow (m : Master) (guard : BitVec 16) (arg : BitVec 40)
  /-- SEAL_OPEN (R149): SEAL_OPEN opens the metrology seal and increments SEAL_CNT. -/
  | sealOpen (m : Master) (guard : BitVec 16) (arg : BitVec 40)
  /-- SEAL_CLOSE (R151): SEAL_CLOSE closes the seal and journals CAL_DIGEST with SEAL_CNT. -/
  | sealClose (m : Master) (guard : BitVec 16) (arg : BitVec 40)
  /-- BALANCE_FRAME_RECEIVED (R165): A neighbour balance frame is checked and accepted as a remote term, or is discarded. -/
  | balanceFrameReceived (frame : List Byte)
  /-- BALANCE_PERIOD_END (R161): A balance period is evaluated against its bound, which may raise or clear an alarm. -/
  | balancePeriodEnd (g : Fin 8)
  /-- SET_LIMIT (R173): SET_LIMIT sets the hub import limit and margin. -/
  | setLimit (m : Master) (guard : BitVec 16) (arg : BitVec 40)
  /-- RELEASE_PAUSE (R172): RELEASE_PAUSE ends a stall's hard pause. -/
  | releasePause (m : Master) (guard : BitVec 16) (arg : BitVec 40)
  /-- HALF_CYCLE_END (R183): At each half-cycle boundary the RMS is evaluated and sag, swell and interruption detectors open or close events. -/
  | halfCycleEnd (mp : Fin 64)
  /-- PQ_INVALID_TIMEOUT (R188): A selected channel with only invalid half-cycles for 1 s closes open events as UNCERTAIN. -/
  | pqInvalidTimeout (mp : Fin 64)
  /-- PILOT_CLASS_ACCEPTED (R209): Three agreeing pilot classifications accept a class, which acts on the stall mode. -/
  | pilotClassAccepted (stall : Fin 32) (hi : Int) (lo : Int)
  /-- PILOT_INVALID_TIMEOUT (R209): No pilot class is accepted for 1 s, so the pilot is treated as INVALID. -/
  | pilotInvalidTimeout (stall : Fin 32)
  /-- DIODE_FAULT (R210): Three periods with the low plateau above −10.5 V take the stall to SAFE_DIODE. -/
  | diodeFault (stall : Fin 32) (lo : Int)
  /-- PP_CODE_ACCEPTED (R213): Ten equal proximity readings accept a code, which acts on the stall. -/
  | ppCodeAccepted (stall : Fin 32) (ohms : Nat)
  /-- PP_TIMEOUT (R212): No proximity code is accepted within 1 s, giving INVALID. -/
  | ppTimeout (stall : Fin 32)
  /-- OVERDRAW (R211): An excess lasting OVERDRAW_S seconds takes the stall to ENDING with cause OVERDRAW. -/
  | overdraw (stall : Fin 32)
  /-- PILOT_B_WITHDRAW (R209): Ten ms after pilot B is accepted in AC, the enables still held are withdrawn. -/
  | pilotBWithdraw (stall : Fin 32)
  /-- PILOT_DUTY_APPLY (R205): A new pilot duty takes effect at the first period that begins 10 µs after its boundary. -/
  | pilotDutyApply (stall : Fin 32)
  /-- STALL_ENABLE (R200): A write of EN in STL_CFG takes a stall between DISABLED and IDLE. -/
  | stallEnable (m : Master) (stall : Fin 32) (guard : BitVec 16) (value : BitVec 48)
  /-- STALL_ON (R216): The stall command ON authorises, lifts the command pause or starts a new session. -/
  | stallOn (m : Master) (stall : Fin 32) (guard : BitVec 16) (arg : BitVec 40)
  /-- STALL_LIMIT (R216): The stall command LIMIT caps the session's demand. -/
  | stallLimit (m : Master) (stall : Fin 32) (guard : BitVec 16) (arg : BitVec 40)
  /-- STALL_PAUSE (R216): The stall command PAUSE raises the command pause cause. -/
  | stallPause (m : Master) (stall : Fin 32) (guard : BitVec 16) (arg : BitVec 40)
  /-- STALL_OFF (R216): The stall command OFF ends the session or refuses the authorisation. -/
  | stallOff (m : Master) (stall : Fin 32) (guard : BitVec 16) (arg : BitVec 40)
  /-- STALL_TAKE_OUT (R216): The stall command TAKE_OUT takes the stall out of service or sets OOS_PENDING. -/
  | stallTakeOut (m : Master) (stall : Fin 32) (guard : BitVec 16) (arg : BitVec 40)
  /-- STALL_RETURN (R216): The stall command RETURN returns from OUT_OF_SERVICE or requests a return from SAFE. -/
  | stallReturn (m : Master) (stall : Fin 32) (guard : BitVec 16) (arg : BitVec 40)
  /-- IDLE_PROOF (R199): The contactor feedback of the stall reads open for 20 ms, so the stall may enter IDLE, or else it enters SAFE_WELDED. -/
  | idleProof (stall : Fin 32) (held : Bool)
  /-- SAFE_CAUSE_CLEARED (R202): An AUTO safe cause clears, such as pilot A held for 1 s, and the leading partition requests a return. -/
  | safeCauseCleared (stall : Fin 32)
  /-- INS_SW_TOGGLE (R214): INS_SWn changes level at a 10 ms grid instant during the cable check or delivery. -/
  | insSwToggle (stall : Fin 32)
  /-- CABLE_CHECK_STARTED (R214): The leading partition reports that the cable check has started. -/
  | cableCheckStarted (p : Partition) (stall : Fin 32)
  /-- CABLE_CHECK_ENDED (R214): The leading partition reports that the cable check has ended. -/
  | cableCheckEnded (p : Partition) (stall : Fin 32)
  /-- POWER_DELIVERY_STARTED (R240): The leading partition reports that power delivery has started, so the DC stall enters DELIVERING. -/
  | powerDeliveryStarted (p : Partition) (stall : Fin 32)
  /-- CM_SLAC_PARAM_REQ (R228): A stall engine answers CM_SLAC_PARAM.REQ and starts attenuation characterisation. -/
  | cmSlacParamReq (stall : Fin 32) (runId : Nat) (atten : Nat)
  /-- CM_SLAC_MATCH_REQ (R229): A match request is confirmed with a fresh network key, or is refused as crosstalk. -/
  | cmSlacMatchReq (stall : Fin 32) (runId : Nat) (evccid : Nat)
  /-- SLAC_TIMEOUT (R228): No match completes within SLAC_INIT_S, so the link attempt fails. -/
  | slacTimeout (stall : Fin 32)
  /-- SDP_REQUEST (R230): The engine answers an SDP request on UDP port 15118. -/
  | sdpRequest (stall : Fin 32) (tls : Bool)
  /-- SDP_TIMEOUT (R232): No SDP request arrives within 20 s of the match, so HLC fails. -/
  | sdpTimeout (stall : Fin 32)
  /-- SUPPORTED_APP_PROTOCOL_REQ (R230): The engine picks the application protocol from the vehicle's list, or fails HLC. -/
  | supportedAppProtocolReq (stall : Fin 32) (offers : List (Nat × Nat))
  /-- TLS_RECORD_RECEIVED (R234): The engine receives a TLS record or TCP segment and writes a checkpoint into both partitions. -/
  | tlsRecordReceived (stall : Fin 32) (r : TlsRec)
  /-- V2G_REQUEST (R233): A decoded vehicle request is handed to the leading partition, and the step is journalled. -/
  | v2gRequest (stall : Fin 32) (req : V2gReq)
  /-- PARTITION_RESPONSE (R233): The leading partition returns a response, and the engine encodes and sends it. -/
  | partitionResponse (p : Partition) (stall : Fin 32) (r : PartRes)
  /-- CERT_VERIFY_COMPLETE (R242): Contract chain verification ends with a CERT_RESULT. -/
  | certVerifyComplete (stall : Fin 32) (chain : CertChain)
  /-- AUTH_DEADLINE (R244): No answer arrives within the deadline, so the leading partition applies DEFAULT_AUTH. -/
  | authDeadline (stall : Fin 32)
  /-- STOP_GRACE_EXPIRY (R241): After STOP_GRACE the partition requests the contactors open regardless. -/
  | stopGraceExpiry (stall : Fin 32)
  /-- TCP_TIMEOUT (R247): TCP gives up after 60 s without acknowledgement, so the stall enters ENDING with LINK_LOST. -/
  | tcpTimeout (stall : Fin 32) (retx : Nat)
  /-- SEQUENCE_TIMEOUT (R247): No request arrives for 60 s, so the stall enters ENDING with VEHICLE_SILENT. -/
  | sequenceTimeout (stall : Fin 32)
  /-- MODEM_FRONT_END_FAULT (R247): A modem fails its self-test or loses its receive path, so the stall enters SAFE_FRONT_END. -/
  | modemFrontEndFault (stall : Fin 32)
  /-- ENGINE_RELOAD (R248): After a VHS restart each engine reloads its last checkpoint, or sends its stall to SAFE. -/
  | engineReload (stall : Fin 32) (ok : Bool)
  /-- SUPERVISION_SIGNAL (R245): Each partition signals its supervision every 1 ms. -/
  | supervisionSignal (p : Partition)
  /-- PARTITION_FAILURE (R245): A partition fails by lockstep error, reset or three missed signals, and is fenced for takeover. -/
  | partitionFailure (p : Partition) (cause : Nat)
  /-- TAKEOVER (R245): The shadow loads its checkpoints, answers pending requests, flips LEADER and clears TAKEOVER stall by stall. -/
  | takeover (stall : Fin 32)
  /-- DRV_ON (R255): The bank command ON sets DEMAND of a FREE output. -/
  | drvOn (m : Master) (bank : Fin 8) (guard : BitVec 16) (arg : BitVec 40)
  /-- DRV_OFF (R255): The bank command OFF clears DEMAND of a FREE output. -/
  | drvOff (m : Master) (bank : Fin 8) (guard : BitVec 16) (arg : BitVec 40)
  /-- REENABLE (R272): REENABLE clears an output's latches and restores RETRIES_LEFT, or is refused. -/
  | reenable (m : Master) (bank : Fin 8) (guard : BitVec 16) (arg : BitVec 40)
  /-- CURRENT_MEASUREMENT (R260): Every 10 µs each output measures its current, voltage and junction temperature. -/
  | currentMeasurement (out : Fin 64) (ma : Int) (mv10 : Int) (tj : Int)
  /-- SHORT (R261): An output stays in current limit for SHORT_T, so it turns off and SHORT is set. `us`: time in the limit. -/
  | shortCircuit (out : Fin 64) (us : Nat)
  /-- OPEN_LOAD (R261): A conducting output below 10 mA for 100 ms sets OPEN_LOAD. -/
  | openLoad (out : Fin 64)
  /-- FUSE_MODEL_UPDATE (R262): Every 100 µs the wire model updates and may trip the output. -/
  | fuseModelUpdate (out : Fin 64)
  /-- THERMAL_SHUTDOWN (R271): The switch cell reaches its shutdown threshold, so the output turns off and THERMAL_LATCH is set. -/
  | thermalShutdown (out : Fin 64)
  /-- RETRY (R270): A FREE output retries after RETRY_DELAY following a SHORT. -/
  | retry (out : Fin 64)
  /-- RETRIES_RESTORE (R270): After 60 s of conduction without a SHORT, RETRIES_LEFT is restored. -/
  | retriesRestore (out : Fin 64)
  /-- CLAMP_EVENT (R266): An inductive turn-off is clamped, and its energy is measured, which may set CLAMP_HOT. -/
  | clampEvent (out : Fin 64) (uj : Nat) (inPwmOff : Bool)
  /-- CLAMP_HOT_END (R266): CLAMP_HOT clears by itself after 10 s. -/
  | clampHotEnd (out : Fin 64)
  /-- PULL_IN_END (R267): After PULL_MS a COIL_ECON output changes to hold PWM. -/
  | pullInEnd (out : Fin 64)
  /-- VAUX_CONDITION (R256): A bank's VAUX mean enters UV, LOW, HIGH, OV or REVERSE. -/
  | vauxCondition (bank : Fin 8) (mv : Int)
  /-- VAUX_CONDITION_RELEASE (R256): After 10 ms of stable values past its release level, a bank condition ends. -/
  | vauxConditionRelease (bank : Fin 8) (mv : Int)
  /-- BANK_SHED (R257): Every 10 ms of BANK_OVER, the highest conducting FREE output is shed. -/
  | bankShed (bank : Fin 8)
  /-- GND_LOSS (R274): Loss of GND_DRVb turns off every output of the bank. -/
  | gndLoss (bank : Fin 8)
  /-- GND_RESTORED (R274): The bank resumes once its ground has been present for 10 ms. -/
  | gndRestored (bank : Fin 8)
  /-- TRIP_IN_CHANGE (R288): A trip input pin changes level and acts on TRIP_OUT and, without a filter, on its scope. -/
  | tripInChange (k : Fin 16) (high : Bool)
  /-- TRIP_FILTER_EXPIRY (R288): A pin asserted continuously for FILTER µs becomes a logical assertion. -/
  | tripFilterExpiry (k : Fin 16)
  /-- CHATTER (R289): A pin that changes more than 10 times in 1 s enters CHATTER. -/
  | chatter (k : Fin 16)
  /-- CHATTER_END (R289): A chattering pin stable for 1 s leaves CHATTER. -/
  | chatterEnd (k : Fin 16)
  /-- TRIP_OUT_HOLD_END (R290): MIN_MS after its last source has gone, TRIP_OUT deasserts. -/
  | tripOutHoldEnd (j : Fin 8)
  /-- CHANNEL_EXCHANGE (R285): Every 100 µs the channels exchange their verdicts and set CRC. -/
  | channelExchange (verdictsDiffer : Bool)
  /-- CHANNEL_LOSS (R285): A lockstep error or oscillator deviation loses a channel and enters the common safe state. -/
  | channelLoss (c : Channel) (osc : Bool)
  /-- SAFETY_FEED_RECORD (R291): Every 10 ms each channel receives a feed record and evaluates currents and residual current. `seq`: the
  sequence number it arrives with. -/
  | safetyFeedRecord (seq : Nat)
  /-- RESIDUAL_CURRENT_TRIP (R294): A residual-current count reaches its limit, and the stall trips. -/
  | residualCurrentTrip (stall : Fin 32) (dc : Bool)
  /-- CLOSE_REQUEST (R295): The leading partition requests a close, which the island accepts by enabling both contactors. -/
  | closeRequest (p : Partition) (stall : Fin 32) (causeSeq : Nat)
  /-- OPEN_REQUEST (R297): A normal, forced or trip open request withdraws the contactor enables. -/
  | openRequest (p : Partition) (stall : Fin 32) (kind : OpenKind) (causeSeq : Nat)
  /-- FB_CHANGE (R296): A feedback input changes and is supervised against FB_FILT, which may confirm the stall open. -/
  | fbChange (fb : Fin 64) (open_ : Bool)
  /-- FB_CLOSE_TIMEOUT (R296): CLOSE_MS expires without every FB closed, so the stall trips with FB_NOT_CLOSED. -/
  | fbCloseTimeout (stall : Fin 32)
  /-- FB_OPEN_TIMEOUT (R296): OPEN_MS expires without every FB open, so the stall trips with FB_NOT_OPEN. -/
  | fbOpenTimeout (stall : Fin 32)
  /-- DRIVE_FAULT (R296): A drive readback disagrees with its gate state, so the stall trips with DRIVE_FAULT. -/
  | driveFault (out : Fin 64)
  /-- DARK_PULSE_DUE (R298): At its due instant one channel withdraws an output's enable for TP_WIDTH. -/
  | darkPulseDue (out : Fin 64)
  /-- DARK_PULSE_RETRY (R299): A postponed dark pulse is retried every 10 ms, or is dropped. -/
  | darkPulseRetry (out : Fin 64)
  /-- DARK_PULSE_END (R300): The pulse ends, and its verdict passes or fails the output. -/
  | darkPulseEnd (out : Fin 64) (passed : Bool)
  /-- PROOF_TEST (R301): A due stall idle for 60 s runs the contactor proof test. -/
  | proofTest (stall : Fin 32)
  /-- PROOF_OVERDUE (R302): A stall without a passed test for PROOF_H + 24 h sets PROOF_OVERDUE. -/
  | proofOverdue (stall : Fin 32)
  /-- SAFETY_RELEASE (R305): After its sources clear and 100 ms of agreement, the island releases a trip or a common cause. -/
  | safetyRelease (target : Option Nat)
  /-- SAFETY_SET_ACTIVATE (R311): SAF ACTIVATE copies the staged safety set into both channels, or is refused. -/
  | safetySetActivate (m : Master) (guard : BitVec 16) (arg : BitVec 40)
  /-- DISCARD (R311): DISCARD restores the staged set from the active one. -/
  | discard (m : Master) (guard : BitVec 16) (arg : BitVec 40)
  /-- ACK_TRIP (R288): ACK_TRIP releases a latched trip input. -/
  | ackTrip (m : Master) (guard : BitVec 16) (arg : BitVec 40)
  /-- PROOF_NOW (R301): PROOF_NOW starts a proof test on an idle stall. -/
  | proofNow (m : Master) (guard : BitVec 16) (arg : BitVec 40)
  /-- RELEASE_OUT (R300): RELEASE_OUT releases an output held after a failed dark pulse. -/
  | releaseOut (m : Master) (guard : BitVec 16) (arg : BitVec 40)
  /-- SAFETY_LINK_TRANSMIT (R307): Every TX_PERIOD the island sends its trip frame on E0 and E1. -/
  | safetyLinkTransmit (same : Bool)
  /-- SAFETY_LINK_COPY (R308): A received safety-link copy is checked, paired and acts on the logical trip inputs. -/
  | safetyLinkCopy (port : Fin 4) (frame : List Byte)
  /-- PAIR_TIMEOUT (R308): A copy without a partner within 2 ms counts as a late or lost copy. -/
  | pairTimeout (peer : Fin 4)
  /-- SAFETY_LINK_WATCHDOG (R310): No accepted SEQ from a peer for WD_MS asserts its RX_MASK bits. -/
  | safetyLinkWatchdog (peer : Fin 4) (path : Option Nat)
  /-- PUSH (R324): A host write to PUSH appends bytes to the current item of a queue. -/
  | push (q : Fin 64) (bytes : List Byte)
  /-- PUSH_END (R324): A host write to PUSH_END appends bytes and ends the item. -/
  | pushEnd (q : Fin 64) (bytes : List Byte)
  /-- POP (R328): A POP read takes visible words with their tags, or stalls if none is visible. -/
  | pop (q : Fin 64) (units : Nat)
  /-- POP_STALL_END (R329): A stalled POP read completes when a word becomes visible or after STALL_LIM. -/
  | popStallEnd (q : Fin 64)
  /-- FLUSH (R332): The queue command FLUSH discards the contents and the packer at its boundary. -/
  | flush (m : Master) (q : Fin 64) (guard : BitVec 16) (arg : BitVec 40)
  /-- MAX_RESET (R337): MAX_RESET sets MAX_LEVEL to LEVEL. -/
  | maxReset (m : Master) (q : Fin 64) (guard : BitVec 16) (arg : BitVec 40)
  /-- QUEUE_ENABLE (R321): A write of EN in QUE_CFG enables a queue after its checks, or flushes it on 0. -/
  | queueEnable (m : Master) (q : Fin 64) (guard : BitVec 16) (value : BitVec 48)
  /-- IRQ_AGE_EXPIRY (R334): The oldest visible word has waited IRQ_AGE µs, so the queue's MSI-X vector is sent. -/
  | irqAgeExpiry (q : Fin 64)
  /-- RECORD_SUBMIT (R342): A block submits a record, which the granary numbers and makes durable in the staging buffer. -/
  | recordSubmit (rec : Submission)
  /-- JNL_ACK_WRITE (R355): A write to JNL_ACK advances the acknowledge pointer and frees space. -/
  | jnlAckWrite (m : Master) (guard : BitVec 16) (value : BitVec 48)
  /-- JOURNAL_WINDOW_READ (R352): A read of the journal window returns the records from JNL_WIN_BASE. -/
  | journalWindowRead (m : Master) (off : Nat) (len : Nat)
  /-- SCRUB_PASS (R361): Once per 24 h the granary scrubs every stored record and journals SCRUB_CORRECTED. -/
  | scrubPass (corrected : Nat)
  /-- RING_REBUILT (R358): A returning partition has rebuilt its ring to JNL_DURABLE and is readmitted as shadow. -/
  | ringRebuilt (p : Partition)
  /-- SUPPLY_LOSS_COMMIT (R370): VIN below 11.0 V for 2 µs commits a supply loss, which opens every contactor and starts gleaning. -/
  | supplyLossCommit (mv : Nat)
  /-- GLEANING_END (R375): Gleaning ends, and the device drains records, writes the final capture and the RTC, then GLEAN_COMPLETE. -/
  | gleaningEnd (complete : Bool) (meanMw : BitVec 16)
  /-- VIN_LOW (R521): VIN between 11.0 and 11.4 V raises VIN_LOW only. -/
  | vinLow (mv : Nat)
  /-- DEMAND_INTERVAL_END (R393): A demand interval ends, its record is journalled and maxima are raised. -/
  | demandIntervalEnd (mp : Fin 64)
  /-- BIL_BT_CAPTURE (R403): A read of BIL_BT_SEC captures billing time when it enters FAB. -/
  | bilBtCapture (m : Master) (dt : Nat)
  /-- SESSION_CLOSE (R395): A stall leaving ENDING or entering SAFE makes BIL compose the signed session record. -/
  | sessionClose (stall : Fin 32)
  /-- RECORD_RELEASE (R399): Once its BILLING entry is durable, a signed record is released and reported to STL. -/
  | recordRelease (recNum : Nat) (signed_ : Bool)
  /-- SIGN_READING (R396): SIGN_READING produces a reading record at the next publication instant. -/
  | signReading (m : Master) (guard : BitVec 16) (arg : BitVec 40)
  /-- DROP_PENDING (R391): DROP_PENDING removes the pending calendar. -/
  | dropPending (m : Master) (guard : BitVec 16) (arg : BitVec 40)
  /-- DEMAND_RESET (R393): DEMAND_RESET journals and clears a metering point's eight maxima. -/
  | demandReset (m : Master) (guard : BitVec 16) (arg : BitVec 40)
  /-- KEY_OPERATION (R419): A block asks the key store to use a key by handle, and the engine runs the operation. -/
  | keyOperation (req : KeyReq)
  /-- KEY_OPERATION_COMPLETE (R420): An engine operation completes and delivers its result, or fails STALE. -/
  | keyOperationComplete (id : Nat)
  /-- IMPORT (R416): IMPORT decrypts the staged blob on-die into a stored slot. -/
  | import_ (m : Master) (guard : BitVec 16) (arg : BitVec 40) (ok : Bool)
  /-- GENERATE (R431): GENERATE creates a private key on-die in a slot. -/
  | generate (m : Master) (guard : BitVec 16) (arg : BitVec 40)
  /-- INVALIDATE (R417): INVALIDATE increments a key's generation and clears its descendants. -/
  | invalidate (m : Master) (guard : BitVec 16) (arg : BitVec 40)
  /-- ERASE (R417): ERASE invalidates a slot and clears both copies in MRAM. -/
  | erase (m : Master) (guard : BitVec 16) (arg : BitVec 40)
  /-- EXPORT_PUBLIC (R431): EXPORT_PUBLIC writes a public key or meter-key certificate to the staging window. -/
  | exportPublic (m : Master) (guard : BitVec 16) (arg : BitVec 40)
  /-- EXPORT_CSR (R431): EXPORT_CSR writes a PKCS #10 request for IDENTITY to the staging window. -/
  | exportCsr (m : Master) (guard : BitVec 16) (arg : BitVec 40)
  /-- ZEROISE (R427): ZEROISE acts as a tamper event with cause COMMAND. -/
  | zeroise (m : Master) (guard : BitVec 16) (arg : BitVec 40)
  /-- RECOMMISSION (R427): RECOMMISSION programs the next seed row and forms new keys. -/
  | recommission (m : Master) (guard : BitVec 16) (arg : BitVec 40)
  /-- TAMPER_EVENT (R423): A tamper source's filter completes, destroying the seed and clearing keys within 10 µs. -/
  | tamperEvent (src : Nat)
  /-- VBAT_LOW (R422): VBAT falls below 2.2 V with VIN absent, setting VBAT_LOW. -/
  | vbatLow (mv : Nat)
  /-- FIELD_ENTRY (R435): A field reaches the tag, which draws a fresh UID and answers. -/
  | fieldEntry (strength : Nat)
  /-- HARVEST_SWITCH (R436): Field strength crosses 3 or 2.5 A/m, switching HARV_OUT on or off. -/
  | harvestSwitch (strength : Nat)
  /-- SELECT (R439): The field APDU SELECT selects the Salfoin application. -/
  | select (cla : Nat) (ins : Nat) (p1 : Nat) (p2 : Nat) (aid : List Byte)
  /-- FIELD_READ (R439): The field APDU READ returns bytes of field memory. -/
  | fieldRead (off : Nat) (le : Nat)
  /-- FIELD_WRITE (R439): The field APDU WRITE writes durably to the FIELD area. -/
  | fieldWrite (off : Nat) (bytes : List Byte)
  /-- AUTHENTICATE (R441): AUTHENTICATE grants OPERATOR or SERVICE to the field on a valid signature. -/
  | authenticate (p1 : Nat) (p2 : Nat) (len : Nat) (sigValid : Bool)
  /-- S_WTX (R440): The tag sends S(WTX) whenever a response cannot leave within FWT. -/
  | sWtx (waitUs : Nat)
  /-- READ_PAGE (R443): READ_PAGE requests a copy of a field-memory page into the host window. -/
  | readPage (m : Master) (guard : BitVec 16) (arg : BitVec 40)
  /-- WRITE_PAGE (R443): WRITE_PAGE requests a write of the host window to a HOST-area page. -/
  | writePage (m : Master) (guard : BitVec 16) (arg : BitVec 40)
  /-- PAGE_OPERATION_BEGIN (R444): A waiting host page operation begins in a gap between field transactions and completes within 1 ms. -/
  | pageOperationBegin (dt : Nat) (reach : Bool)
  /-- PAGE_OPERATION_TIMEOUT (R444): A host page operation not begun within 5 ms ends BUSY. -/
  | pageOperationTimeout (m : Master)
  /-- READER_POLL (R446): Every POLL_MS a reader polls, resolves cards and journals presentations and removals. -/
  | readerPoll (c : Fin 2) (cards : List Card) (collisions : Nat) (antFault : Bool)
  /-- CARD_AUTH (R448): The reader proves an activated card under the card profile and reports the result. -/
  | cardAuth (c : Fin 2) (result : CardVerdict)
  /-- OFFER (R461): OFFER opens, resumes or preempts an update offer for a kind. -/
  | offer (m : Master) (guard : BitVec 16) (arg : BitVec 40)
  /-- FETCH (R459): FETCH reads one bale from host memory. -/
  | fetch (m : Master) (guard : BitVec 16) (arg : BitVec 40)
  /-- FETCH_COMPLETE (R459): A fetch read completes and delivers its bale, or counts a bale failure. -/
  | fetchComplete (kind : Fin 6) (fetched : Nat) (ok : Bool) (bale : Bale)
  /-- PIECE_FRAME (R460): A management-port piece frame delivers 1 KiB of a bale. -/
  | pieceFrame (frame : List Byte)
  /-- BALE_STORED (R458): A bale with a matching CRC is stored and its bitmap bit set. -/
  | baleStored (kind : Fin 6) (bale : Bale)
  /-- WITHDRAW (R462): WITHDRAW ends an offer before activation and discards its bales. -/
  | withdraw (m : Master) (guard : BitVec 16) (arg : BitVec 40)
  /-- VERIFY_COMPLETE (R463): The whole-image signature check ends, leading to READY or FAILED. -/
  | verifyComplete (kind : Fin 6) (ok : Bool)
  /-- UPD_ACTIVATE (R465): UPD ACTIVATE brings a ready image into force by its kind's sequence. -/
  | updActivate (m : Master) (guard : BitVec 16) (arg : BitVec 40) (ok : Bool)
  /-- ACTIVATION_COMPLETE (R465): The activation sequence completes, and the offer enters TRIAL. -/
  | activationComplete (kind : Fin 6) (res : LoadResult)
  /-- DEFERRED_CONFIG_APPLY (R467): A stall with deferred GENERAL fields takes them on reaching an idle mode. -/
  | deferredConfigApply (stall : Fin 32)
  /-- CONFIRM (R462): CONFIRM ends the trial and starts mirroring, raising the SVN in force. -/
  | confirm (m : Master) (guard : BitVec 16) (arg : BitVec 40)
  /-- TRIAL_EXPIRY (R462): With AUTO_CONFIRM, TRIAL_S without failure confirms the image. -/
  | trialExpiry (kind : Fin 6)
  /-- REVERT (R469): REVERT triggers a fallback to the image in force. -/
  | revert (m : Master) (guard : BitVec 16) (arg : BitVec 40)
  /-- TRIAL_FAILURE (R469): A trial failure of the new image triggers fallback. -/
  | trialFailure (kind : Fin 6)
  /-- MIRRORING_COMPLETE (R462): The copy into the first bank completes, and MIRRORED is set. -/
  | mirroringComplete (kind : Fin 6)
  /-- OFFER_EXPIRY (R462): An offer expires 90 days of billing time after its OFFER. -/
  | offerExpiry (kind : Fin 6)
  /-- RELAY_MESSAGE (R471): A relay OFFER, PIECE, NEED or DONE message is received and handled. -/
  | relayMessage (port : Fin 2) (msg : List Byte)
  /-- RELAY_OFFER_REPEAT (R471): Without NEED for 600 s, the relaying device repeats OFFER. -/
  | relayOfferRepeat (kind : Fin 6) (down : Fin 4)
  /-- FRAME_RECEIVED (R477): An Ethernet frame is received, learnt and forwarded or taken by port I. -/
  | frameReceived (port : Fin 4) (f : EthFrame)
  /-- PORT_LINK_UP (R480): An SGMII link comes up in full duplex, and the port starts QUALIFYING. -/
  | portLinkUp (port : Fin 4) (speed : Fin 3) (full : Bool)
  /-- PORT_LINK_DOWN (R481): Loss of sync, link down or excess errors take the port DOWN or LATCHED. -/
  | portLinkDown (port : Fin 4)
  /-- PORT_QUALIFIED (R480): After QUAL_MS the port enters UP and carries traffic. -/
  | portQualified (port : Fin 4)
  /-- PORT_ENABLE (R480): A write of EN in NET_P_CFG takes a port DISABLED or DOWN. -/
  | portEnable (m : Master) (port : Fin 4) (guard : BitVec 16) (value : BitVec 48)
  /-- PORT_READMIT (R480): The NET command READMIT takes a LATCHED or TAKEN_OUT port to DOWN. -/
  | portReadmit (m : Master) (guard : BitVec 16) (arg : BitVec 40)
  /-- PORT_TAKE_OUT (R480): The NET command TAKE_OUT takes a port TAKEN_OUT. -/
  | portTakeOut (m : Master) (guard : BitVec 16) (arg : BitVec 40)
  /-- FLUSH_TABLE (R485): FLUSH_TABLE empties the address table. -/
  | flushTable (m : Master) (guard : BitVec 16) (arg : BitVec 40)
  /-- ZERO_CROSSING (R489): A rising zero crossing on a ZX input is filtered and stamped. -/
  | zeroCrossing (z : Fin 3) (dt : Nat)
  /-- ZX_LOST (R489): A ZX input without a rising crossing for 40 ms is ZX_LOST. -/
  | zxLost (z : Fin 3)
  /-- BEACON_DUE (R497): After each BCN_PERIOD a port queues a beacon at its next reference crossing. -/
  | beaconDue (port : Fin 2)
  /-- BEACON_ABANDONED (R497): A beacon not started within 20 ms is abandoned. -/
  | beaconAbandoned (port : Fin 2)
  /-- LINK_FRAME_RECEIVED (R491): A mains-link frame is received, checked and delivered, a beacon making an observation. -/
  | linkFrameReceived (port : Fin 2) (frame : List Byte) (dt : Nat) (attenDb : Nat)
  /-- LINK_ACK (R492): A selective acknowledgement arrives, and failed blocks are resent. -/
  | linkAck (port : Fin 2) (lseq : Nat) (allOk : Bool)
  /-- BACKOFF_END (R494): A port's backoff count ends, and it sends its frame. -/
  | backoffEnd (port : Fin 2)
  /-- NOISE_TIMEOUT (R495): Energy without a preamble for NOISE_MS lets the port treat the medium as idle. -/
  | noiseTimeout (port : Fin 2)
  /-- DRIVER_OFF (R490): The line driver exceeds its current or temperature limit and enters DRIVER_OFF. -/
  | driverOff (port : Fin 2)
  /-- DRIVER_RETRY (R490): After 10 s the line driver is tried again. -/
  | driverRetry (port : Fin 2)
  /-- PORT_RESTART (R504): PORT_RESTART restarts a mains-link port. -/
  | portRestart (m : Master) (guard : BitVec 16) (arg : BitVec 40)
  /-- CLEAR_TABLE (R504): CLEAR_TABLE clears a mains-link port's neighbour table. -/
  | clearTable (m : Master) (guard : BitVec 16) (arg : BitVec 40)
  /-- PARTITION_RESTART_STAGE (R511): A restarting partition completes RESTARTING or REBUILDING and becomes SERVING. -/
  | partitionRestartStage (p : Partition)
  /-- READMIT_PARTITION (R511): READMIT_PARTITION restarts a LATCHED partition and clears its failures. -/
  | readmitPartition (m : Master) (guard : BitVec 16) (arg : BitVec 40)
  /-- POWER_ON (R526): VIN held at 11.4 V for 10 ms starts the rails and the power-on sequence. -/
  | powerOn (rtc : Option Nat) (lost : List Nat)
  /-- RAIL_OUT (R523): A rail leaves its window, entering RAIL_OUT and the common safe state. -/
  | railOut (rail : Fin 16)
  /-- BROWN_OUT (R523): A rail out for 10 ms or below brown-out is handled as a supply-loss commit. -/
  | brownOut (rail : Fin 16)
  /-- BLOCK_RESTART (R536): The PWR command BLOCK_RESTART restarts a block under its own chapter. -/
  | blockRestart (m : Master) (guard : BitVec 16) (arg : BitVec 40)
  /-- BLOCK_SELF_RESTART (R528): A block restarts through its own fault handling. -/
  | blockSelfRestart (code : Nat)
  /-- HOST_LINK_UP (R527): The PCI Express endpoint trains and the host link comes up, after which the host can log in again and MSI-X vectors can be sent. -/
  | hostLinkUp (gen : Nat) (lanes : Nat)
  /-- RAIL_RECOVERED (R523): A rail that was out of its window returns into it, which lets the RAIL cause clear 100 ms later. -/
  | railRecovered (rail : Fin 16)
  /-- VIN_HIGH (R521): VIN rises above 13.2 V, and the module sets the flag VIN_HIGH and keeps operating. -/
  | vinHigh (mv : Nat)
  /-- PILOT_FRONT_END_FAULT (R507): A stall's pilot or proximity front end fails, so the stall enters SAFE with cause SAFE_FRONT_END. -/
  | pilotFrontEndFault (stall : Fin 32) (pp : Bool)
  /-- FRONT_END_HEALTHY (R202): The stall's pilot, proximity and modem front ends report healthy, which clears the condition of SAFE_FRONT_END and ends the front-end fault. -/
  | frontEndHealthy (stall : Fin 32)
  /-- RESTART_COMPLETE (R31): A restarting block is back, so its pages publish again and OWNER_FAULT and LIVE return to normal. -/
  | restartComplete (code : Nat)
  /-- SYNC_TRANSMIT (R85): As master, the ordinary clock sends Sync at its LOG_SYNC interval. -/
  | syncTransmit (port : Fin 4)
  /-- ANTENNA_RETRY (R450): A reader with ANT_FAULT retries once per 10 s. -/
  | antennaRetry (c : Fin 2) (ok : Bool)
  /-- NOR_FAULT (R470): Loss of a QSPI chip affects trial, mirroring and bank availability. -/
  | norFault (chip : Fin 2)
  /-- ADDRESS_AGE_OUT (R477): An address entry without a frame for AGE_S is removed. -/
  | addressAgeOut (mac : Nat)
  /-- NEIGHBOUR_AGE_OUT (R500): A neighbour without a beacon for NB_AGE_S is removed. -/
  | neighbourAgeOut (port : Fin 2) (e : Fin 16)
  /-- ANNOUNCE_TRANSMIT (R85): As master, the ordinary clock sends Announce messages every 1 s. -/
  | announceTransmit (port : Fin 4)
  /-- HOST_LINK_DOWN (R54): The host link goes down, which ends the host's role session and releases its snapshot. -/
  | hostLinkDown
  /-- SLEW_END (R73): A slew ends once its accumulated adjustment equals the parameter. -/
  | slewEnd
  /-- LEAP_SECOND (R77): At the end of the UTC day the announced leap second changes the UTC offset and raises LEAP_DONE. -/
  | leapSecond
  /-- VALID_LEFT_EXPIRY (R81): VALID_LEFT reaches 0 in HOLDOVER or FREE, so the clock becomes INVALID. -/
  | validLeftExpiry
  /-- PPS_IN_MISSING (R79): Two expected PPS_IN edges are missing, so the clock enters HOLDOVER. -/
  | ppsInMissing
  /-- RATE_SAVE (R94): While LOCKED, the base rate is saved to MRAM every 60 s. -/
  | rateSave
  /-- RTC_WRITE (R94): Once per second the device writes corrected time to the real-time clock. -/
  | rtcWrite
  /-- MET_PUBLICATION (R145): At each publication instant the metrology block produces and publishes the metering set. -/
  | metPublication
  /-- PERIODIC_SAVE (R146): A save of every accumulator and residue to MRAM begins at a publication instant after SAVE_S. -/
  | periodicSave
  /-- MET_CORE_LOCKSTEP (R147): A lockstep error in the metrology core enters the common safe state and restarts the core. -/
  | metCoreLockstep
  /-- CORE_RESTORED (R147): The restarted metrology core restores the newer save and adds the bound to UNMEASURED. -/
  | coreRestored
  /-- BALANCE_TICK (R159): At each 100 ms tick the balance evaluates every group and sends its neighbour frames. -/
  | balanceTick
  /-- ALLOCATION_INSTANT (R167): Every 10 ms the allocator computes the grants and checks for a hard pause. -/
  | allocationInstant
  /-- GRANT_COMMIT (R169): The grants of an instant are committed and reach the sessions and the pilot duties. -/
  | grantCommit
  /-- HARD_PAUSE_RESUME (R172): After RESUME_S within the limit, a hard-paused class returns to allocation. -/
  | hardPauseResume
  /-- FAST_PATH_DOWN_TIMEOUT (R291): FAST_PATH_DOWN lasts more than 1 ms, so the common safe state is entered with cause METROLOGY. -/
  | fastPathDownTimeout
  /-- DISAGREE (R285): A difference that persists for 1 ms enters the common safe state with DISAGREE. -/
  | disagree
  /-- FEED_LOST (R291): A missing feed for 20 ms sets FEED_LOST and enters the common safe state. -/
  | feedLost
  /-- STAGING_DRAIN (R342): The staging buffer drains a record to MRAM and replicates it to the partitions. -/
  | stagingDrain
  /-- RECORDS_PENDING (R354): Unacknowledged records reach NOTIFY_N or age NOTIFY_MS, raising RECORDS_PENDING. -/
  | recordsPending
  /-- GRANARY_UNCORRECTABLE (R361): An uncorrectable MRAM error enters the common safe state with cause GRANARY. -/
  | granaryUncorrectable
  /-- GRANARY_MISMATCH (R362): A mismatch of the duplicated granary logic stops writes and restarts JNL. -/
  | granaryMismatch
  /-- PFW_ASSERTED (R369): PFW_N asserted for PFW_FILT starts a pre-capture. -/
  | pfwAsserted (us : Nat)
  /-- PRE_CAPTURE_CANCELLED (R369): PFW_N is released with VIN held for 10 ms, so the pre-capture is cancelled. -/
  | preCaptureCancelled
  /-- CAPTURE (R374): At each 1 ms grid instant during gleaning a capture of every accumulator is written. -/
  | capture
  /-- TARIFF_SWITCH (R389): BT reaches a switching instant, and the selectors change and are journalled. -/
  | tariffSwitch
  /-- CALENDAR_ACTIVATION (R391): BT reaches ACTIVATE_AT, and the pending calendar becomes active. -/
  | calendarActivation
  /-- BT_HOLD_END (R384): W reaches a held BT, and BT follows W again. -/
  | btHoldEnd
  /-- FIELD_LOSS (R442): The field leaves, ending the field role session. -/
  | fieldLoss
  /-- GET_CHALLENGE (R439): GET_CHALLENGE returns a fresh 96-bit challenge. -/
  | getChallenge (p1 : Nat) (p2 : Nat) (le : Nat)
  /-- FIELD_LOGOUT (R442): The field APDU LOGOUT ends the field role session. -/
  | fieldLogout (p1 : Nat) (p2 : Nat) (len : Nat)
  /-- S_DESELECT (R442): S(DESELECT) ends the field role session. -/
  | sDeselect
  /-- FIELD_SESSION_TIMEOUT (R442): Five minutes without a command end the field role session. -/
  | fieldSessionTimeout
  /-- STATUS_REFRESH (R438): Once per second the device refreshes the STATUS area, unless a field transaction runs. -/
  | statusRefresh
  /-- PARTITIONS_UNAVAILABLE (R513): Neither partition serving for 20 ms enters the common safe state with PARTITIONS. -/
  | partitionsUnavailable
  /-- REFCLK_LOST (R525): The clock monitor declares REFCLK lost, putting PLLs in holdover and the hub in the common safe state. -/
  | refclkLost
  /-- REFCLK_RETURN (R525): REFCLK returns, and the PLLs relock and the MCLK outputs restart. -/
  | refclkReturn
  /-- RESET_N_ASSERT (R529): RESET_N low for 1 µs starts a device reset. -/
  | resetNAssert
  /-- RESET_N_RELEASE (R529): RESET_N returns high, releasing the held blocks to restart. -/
  | resetNRelease
  /-- RTC_LOST (R533): VBAT falls below 1.8 V or the RTC crystal stops, so RTC_LOST is latched for the next power-on. -/
  | rtcLost
deriving DecidableEq, Repr

end Sys2Proof
end

