-- ==== Sys2Proof/Config.lean ====
section
/-! DEFINITION. What the spec leaves open and this model leaves free: constants without a body. Nothing can evaluate
them, so whatever is proved holds for every value (log entry 6). -/
namespace Sys2Proof.Config

/-- The n-th free value of a run: a value the spec leaves open (a random draw, a signature's bytes, a servo output). The
step applies it to the counter `Var.free` of State and advances that counter. -/
opaque free : Nat → Nat

/-- Gains of the servo loop for a LOOP_TC and the ns since the measurement before, units of 2^-32 per unit of 2^-16 ns (R80): 0
proportional, 1 integral. -/
opaque servoGain : Nat → Nat → Nat → Int

/-- CODE of a record whose class the spec gives without its codes (SESSION, UPDATE): class, and which happening. -/
opaque recordCode : Nat → Nat → Nat

/-- Response code of a failure in a protocol's message set (R230, R247): 0 FAILED, 1 FAILED_SequenceError, 2
FAILED_ServiceSelectionInvalid. The spec leaves the numbers to the standards. -/
opaque responseCode : Nat → Nat → Nat

/-- The 256 bits of a seed row (R406): row 0 from manufacture, the next ones from recommissionings. -/
opaque seedRow : Nat → Nat

/-- The public key of a private key: ALG of the private key, and its value (R410, R419). -/
opaque publicOf : Nat → Nat → Nat

/-- BOOT_ID, the SHA-384 digest of the boot ROM (R407). -/
opaque bootId : Nat

/-- AUTH_DIGEST, the SHA-384 digest of the image-authority public key (R407). -/
opaque authDigest : Nat

/-- What a configuration image's bytes say (R455, R467): a value for each slot it names. The spec gives no layout. -/
opaque imageFields : List Byte → List (Nat × Nat)

end Sys2Proof.Config
end

