-- ==== Sys2Proof/Machine/Addr.lean ====
section
/-! DEFINITION. The BAR0 byte address of every slot the register maps name (02_register_pages.md R22, R23 and the
register map of each block's chapter). A slot that stands once per page takes the page's number `p` (stall, queue,
bank, metering point, group, port), one that stands several times in a page takes `i`; a slot spread over pages as one
series (inputs, outputs) takes the series number `i`. -/
namespace Sys2Proof.Machine.Reg

/-- SYS_ID_PART (02_register_pages.md R62). -/
abbrev sysIdPart : Nat := 0x40

/-- SYS_ID_REV (02_register_pages.md R62). -/
abbrev sysIdRev : Nat := 0x48

/-- SYS_ID_SERIAL (02_register_pages.md R62). -/
abbrev sysIdSerial : Nat := 0x50

/-- SYS_ID_RESTARTS (02_register_pages.md R62). -/
abbrev sysIdRestarts : Nat := 0x58

/-- SYS_TOKEN (02_register_pages.md R62). -/
abbrev sysToken : Nat := 0x60

/-- SYS_CMD (02_register_pages.md R62). -/
abbrev sysCmd : Nat := 0x68

/-- SYS_STAT (02_register_pages.md R62). -/
abbrev sysStat : Nat := 0x70

/-- SYS_SEQ (02_register_pages.md R62). -/
abbrev sysSeq : Nat := 0x78

/-- SYS_MST_LINK (02_register_pages.md R63). -/
abbrev sysMstLink : Nat := 0x1040

/-- SYS_MST_ROLE_H (02_register_pages.md R63). -/
abbrev sysMstRoleH : Nat := 0x1048

/-- SYS_MST_ROLE_M (02_register_pages.md R63). -/
abbrev sysMstRoleM : Nat := 0x1050

/-- SYS_MST_ERR_H (02_register_pages.md R63). -/
abbrev sysMstErrH : Nat := 0x1058

/-- SYS_MST_ERR_M (02_register_pages.md R63). -/
abbrev sysMstErrM : Nat := 0x1060

/-- SYS_MST_CNT_H (02_register_pages.md R63). -/
abbrev sysMstCntH : Nat := 0x1068

/-- SYS_MST_CNT_M (02_register_pages.md R63). -/
abbrev sysMstCntM : Nat := 0x1070

/-- SYS_MST_EVT_SUM (02_register_pages.md R63). -/
abbrev sysMstEvtSum : Nat := 0x1078

/-- SYS_MST_REF_H (02_register_pages.md R63). -/
abbrev sysMstRefH : Nat := 0x1080

/-- SYS_MST_REF_M (02_register_pages.md R63). -/
abbrev sysMstRefM : Nat := 0x1088

/-- SYS_SNAP_CTL (02_register_pages.md R52). -/
abbrev sysSnapCtl : Nat := 0x2040

/-- SYS_SNAP_STAT (02_register_pages.md R52). -/
abbrev sysSnapStat : Nat := 0x2048

/-- SYS_SNAP_NUM (02_register_pages.md R52). -/
abbrev sysSnapNum : Nat := 0x2050

/-- SYS_SNAP_T_SEC (02_register_pages.md R52). -/
abbrev sysSnapTSec : Nat := 0x2058

/-- SYS_SNAP_T_NS (02_register_pages.md R52). -/
abbrev sysSnapTNs : Nat := 0x2060

/-- SYS_SNAP_HOLD (02_register_pages.md R52). -/
abbrev sysSnapHold : Nat := 0x2068

/-- SYS_AUTH_CHAL_HI (02_register_pages.md R61). -/
abbrev sysAuthChalHi : Nat := 0x3040

/-- SYS_AUTH_CHAL_LO (02_register_pages.md R61). -/
abbrev sysAuthChalLo : Nat := 0x3048

/-- SYS_AUTH_REQ (02_register_pages.md R61). -/
abbrev sysAuthReq : Nat := 0x3050

/-- SYS_AUTH_STAT (02_register_pages.md R61). -/
abbrev sysAuthStat : Nat := 0x3058

/-- SYS_AUTH_RESP (02_register_pages.md R61). -/
abbrev sysAuthResp (i : Nat) : Nat := 0x3200 + 0x8 * i

/-- PWR_VIN (22_supplies_clocks_reset.md R535). -/
abbrev pwrVin : Nat := 0x100040

/-- PWR_VBAT (22_supplies_clocks_reset.md R535). -/
abbrev pwrVbat : Nat := 0x100048

/-- PWR_STAT (22_supplies_clocks_reset.md R535). -/
abbrev pwrStat : Nat := 0x100050

/-- PWR_RAIL (22_supplies_clocks_reset.md R535). -/
abbrev pwrRail : Nat := 0x100058

/-- PWR_RESET (22_supplies_clocks_reset.md R535). -/
abbrev pwrReset : Nat := 0x100060

/-- PWR_CLK (22_supplies_clocks_reset.md R535). -/
abbrev pwrClk : Nat := 0x100068

/-- PWR_TEMP (22_supplies_clocks_reset.md R535). -/
abbrev pwrTemp : Nat := 0x100070

/-- PWR_POWER (22_supplies_clocks_reset.md R535). -/
abbrev pwrPower : Nat := 0x100078

/-- PWR_START0 (22_supplies_clocks_reset.md R535). -/
abbrev pwrStart0 : Nat := 0x100080

/-- PWR_START1 (22_supplies_clocks_reset.md R535). -/
abbrev pwrStart1 : Nat := 0x100088

/-- PWR_START2 (22_supplies_clocks_reset.md R535). -/
abbrev pwrStart2 : Nat := 0x100090

/-- PWR_DORMANT (22_supplies_clocks_reset.md R535). -/
abbrev pwrDormant : Nat := 0x100098

/-- PWR_TOKEN (22_supplies_clocks_reset.md R535). -/
abbrev pwrToken : Nat := 0x1000C0

/-- PWR_CMD (22_supplies_clocks_reset.md R535). -/
abbrev pwrCmd : Nat := 0x1000C8

/-- PWR_STAT_CMD (22_supplies_clocks_reset.md R535). -/
abbrev pwrStatCmd : Nat := 0x1000D0

/-- PWR_SEQ (22_supplies_clocks_reset.md R535). -/
abbrev pwrSeq : Nat := 0x1000D8

/-- TIM_NOW_SEC (03_time_base.md R70). -/
abbrev timNowSec : Nat := 0x200040

/-- TIM_NOW_NS (03_time_base.md R70). -/
abbrev timNowNs : Nat := 0x200048

/-- TIM_NOW_CNT_LO (03_time_base.md R70). -/
abbrev timNowCntLo : Nat := 0x200050

/-- TIM_NOW_CNT_HI (03_time_base.md R70). -/
abbrev timNowCntHi : Nat := 0x200058

/-- TIM_OFS_HI (03_time_base.md R70). -/
abbrev timOfsHi : Nat := 0x200060

/-- TIM_OFS_LO (03_time_base.md R70). -/
abbrev timOfsLo : Nat := 0x200068

/-- TIM_RATE (03_time_base.md R70). -/
abbrev timRate : Nat := 0x200070

/-- TIM_STATE (03_time_base.md R70). -/
abbrev timState : Nat := 0x200078

/-- TIM_OFS_EST (03_time_base.md R70). -/
abbrev timOfsEst : Nat := 0x200080

/-- TIM_UTC (03_time_base.md R70). -/
abbrev timUtc : Nat := 0x200088

/-- TIM_MODE (03_time_base.md R70). -/
abbrev timMode : Nat := 0x200090

/-- TIM_HOLDOVER_LIM (03_time_base.md R70). -/
abbrev timHoldoverLim : Nat := 0x200098

/-- TIM_STEP_CNT (03_time_base.md R70). -/
abbrev timStepCnt : Nat := 0x2000A0

/-- TIM_LAST_STEP_SEC (03_time_base.md R70). -/
abbrev timLastStepSec : Nat := 0x2000A8

/-- TIM_LAST_STEP_NS (03_time_base.md R70). -/
abbrev timLastStepNs : Nat := 0x2000B0

/-- TIM_TOKEN (03_time_base.md R70). -/
abbrev timToken : Nat := 0x2000C0

/-- TIM_CMD (03_time_base.md R70). -/
abbrev timCmd : Nat := 0x2000C8

/-- TIM_STAT (03_time_base.md R70). -/
abbrev timStat : Nat := 0x2000D0

/-- TIM_SEQ (03_time_base.md R70). -/
abbrev timSeq : Nat := 0x2000D8

/-- TIM_PARAM_SEC (03_time_base.md R70). -/
abbrev timParamSec : Nat := 0x2000E0

/-- TIM_PARAM_NS (03_time_base.md R70). -/
abbrev timParamNs : Nat := 0x2000E8

/-- TIM_PTP_CFG (03_time_base.md R87). -/
abbrev timPtpCfg : Nat := 0x201040

/-- TIM_PTP_PORT (03_time_base.md R87). -/
abbrev timPtpPort : Nat := 0x201048

/-- TIM_TC_CFG (03_time_base.md R87). -/
abbrev timTcCfg : Nat := 0x201050

/-- TIM_PTP_STAT (03_time_base.md R87). -/
abbrev timPtpStat : Nat := 0x201058

/-- TIM_PTP_GM_HI (03_time_base.md R87). -/
abbrev timPtpGmHi : Nat := 0x201060

/-- TIM_PTP_GM_LO (03_time_base.md R87). -/
abbrev timPtpGmLo : Nat := 0x201068

/-- TIM_PTP_MPD (03_time_base.md R87). -/
abbrev timPtpMpd : Nat := 0x201070

/-- TIM_PTP_CNT (03_time_base.md R87). -/
abbrev timPtpCnt : Nat := 0x201078

/-- TIM_SERVO (03_time_base.md R87). -/
abbrev timServo : Nat := 0x201080

/-- TIM_Ep_FIX (03_time_base.md R83). -/
abbrev timEFix (i : Nat) : Nat := 0x202040 + 0x20 * i

/-- TIM_Ep_ING_ASYM (03_time_base.md R83). -/
abbrev timEIngAsym (i : Nat) : Nat := 0x202048 + 0x20 * i

/-- TIM_Ep_EGR_ASYM (03_time_base.md R83). -/
abbrev timEEgrAsym (i : Nat) : Nat := 0x202050 + 0x20 * i

/-- TIM_Ep_LINK_DELAY (03_time_base.md R83). -/
abbrev timELinkDelay (i : Nat) : Nat := 0x202058 + 0x20 * i

/-- TIM_PPS_IN_CFG (03_time_base.md R91). -/
abbrev timPpsInCfg : Nat := 0x203040

/-- TIM_PPS_IN_DLY (03_time_base.md R91). -/
abbrev timPpsInDly : Nat := 0x203048

/-- TIM_PPS_IN_SEC (03_time_base.md R91). -/
abbrev timPpsInSec : Nat := 0x203050

/-- TIM_PPS_IN_NS (03_time_base.md R91). -/
abbrev timPpsInNs : Nat := 0x203058

/-- TIM_PPS_IN_CNT (03_time_base.md R91). -/
abbrev timPpsInCnt : Nat := 0x203060

/-- TIM_PPS_OUT_CFG (03_time_base.md R91). -/
abbrev timPpsOutCfg : Nat := 0x203068

/-- TIM_PPS_OUT_COMP (03_time_base.md R91). -/
abbrev timPpsOutComp : Nat := 0x203070

/-- NET_CFG (19_ethernet_ports.md R485). -/
abbrev netCfg : Nat := 0x300040

/-- NET_STAT (19_ethernet_ports.md R485). -/
abbrev netStat : Nat := 0x300048

/-- NET_MAC (19_ethernet_ports.md R485). -/
abbrev netMac : Nat := 0x300050

/-- NET_TOKEN (19_ethernet_ports.md R485). -/
abbrev netToken : Nat := 0x3000C0

/-- NET_CMD (19_ethernet_ports.md R485). -/
abbrev netCmd : Nat := 0x3000C8

/-- NET_STAT_CMD (19_ethernet_ports.md R485). -/
abbrev netStatCmd : Nat := 0x3000D0

/-- NET_SEQ (19_ethernet_ports.md R485). -/
abbrev netSeq : Nat := 0x3000D8

/-- NET_P_CFG (19_ethernet_ports.md R486). -/
abbrev netPCfg (p : Nat) : Nat := 0x301040 + 0x1000 * p

/-- NET_P_STAT (19_ethernet_ports.md R486). -/
abbrev netPStat (p : Nat) : Nat := 0x301048 + 0x1000 * p

/-- NET_P_RX (19_ethernet_ports.md R486). -/
abbrev netPRx (p : Nat) : Nat := 0x301050 + 0x1000 * p

/-- NET_P_TX (19_ethernet_ports.md R486). -/
abbrev netPTx (p : Nat) : Nat := 0x301058 + 0x1000 * p

/-- NET_P_DROP (19_ethernet_ports.md R486). -/
abbrev netPDrop (p : Nat) : Nat := 0x301060 + 0x1000 * p

/-- MET_MCLKk (04_sensor_inputs.md R123). -/
abbrev metMclk (i : Nat) : Nat := 0x400040 + 0x8 * i

/-- MET_WIN_STAT (04_sensor_inputs.md R123). -/
abbrev metWinStat : Nat := 0x4000C0

/-- MET_WIN_TOKEN (04_sensor_inputs.md R123). -/
abbrev metWinToken : Nat := 0x4000C8

/-- MET_WIN_CMD (04_sensor_inputs.md R123). -/
abbrev metWinCmd : Nat := 0x4000D0

/-- MET_WIN_STAT_CMD (04_sensor_inputs.md R123). -/
abbrev metWinStatCmd : Nat := 0x4000D8

/-- MET_WIN_SEQ (04_sensor_inputs.md R123). -/
abbrev metWinSeq : Nat := 0x4000E0

/-- MET_IN_CFG (04_sensor_inputs.md R125). -/
abbrev metInCfg (i : Nat) : Nat := 0x401040 + 0x1000 * (i / 32) + 0x40 * (i % 32)

/-- MET_IN_OFS (04_sensor_inputs.md R125). -/
abbrev metInOfs (i : Nat) : Nat := 0x401048 + 0x1000 * (i / 32) + 0x40 * (i % 32)

/-- MET_IN_GAIN (04_sensor_inputs.md R125). -/
abbrev metInGain (i : Nat) : Nat := 0x401050 + 0x1000 * (i / 32) + 0x40 * (i % 32)

/-- MET_IN_DELAY (04_sensor_inputs.md R125). -/
abbrev metInDelay (i : Nat) : Nat := 0x401058 + 0x1000 * (i / 32) + 0x40 * (i % 32)

/-- MET_IN_KFS (04_sensor_inputs.md R125). -/
abbrev metInKfs (i : Nat) : Nat := 0x401060 + 0x1000 * (i / 32) + 0x40 * (i % 32)

/-- MET_IN_FLT_CFG (04_sensor_inputs.md R125). -/
abbrev metInFltCfg (i : Nat) : Nat := 0x401068 + 0x1000 * (i / 32) + 0x40 * (i % 32)

/-- MET_IN_STAT (04_sensor_inputs.md R125). -/
abbrev metInStat (i : Nat) : Nat := 0x401070 + 0x1000 * (i / 32) + 0x40 * (i % 32)

/-- MET_IN_SAMPLE (04_sensor_inputs.md R125). -/
abbrev metInSample (i : Nat) : Nat := 0x401078 + 0x1000 * (i / 32) + 0x40 * (i % 32)

/-- MET_MP_MAP_V (04_sensor_inputs.md R129). -/
abbrev metMpMapV (i : Nat) : Nat := 0x409040 + 0x1000 * (i / 32) + 0x10 * (i % 32)

/-- MET_MP_MAP_I (04_sensor_inputs.md R129). -/
abbrev metMpMapI (i : Nat) : Nat := 0x409048 + 0x1000 * (i / 32) + 0x10 * (i % 32)

/-- MET_SEAL_STAT (05_energy_registers.md R153). -/
abbrev metSealStat : Nat := 0x40B040

/-- MET_SEAL_CNT (05_energy_registers.md R153). -/
abbrev metSealCnt : Nat := 0x40B048

/-- MET_CAL_DIGEST0–7 (05_energy_registers.md R153). -/
abbrev metCalDigest (i : Nat) : Nat := 0x40B050 + 0x8 * i

/-- MET_FW_ID (05_energy_registers.md R153). -/
abbrev metFwId : Nat := 0x40B090

/-- MET_PUB_CFG (05_energy_registers.md R153). -/
abbrev metPubCfg : Nat := 0x40B098

/-- MET_SAVE_CFG (05_energy_registers.md R153). -/
abbrev metSaveCfg : Nat := 0x40B0A0

/-- MET_SAVE_NUM (05_energy_registers.md R153). -/
abbrev metSaveNum : Nat := 0x40B0A8

/-- MET_SAVE_T_SEC (05_energy_registers.md R153). -/
abbrev metSaveTSec : Nat := 0x40B0B0

/-- MET_CORE_STAT (05_energy_registers.md R153). -/
abbrev metCoreStat : Nat := 0x40B0B8

/-- MET_CTL_TOKEN (05_energy_registers.md R153). -/
abbrev metCtlToken : Nat := 0x40B0C0

/-- MET_CTL_CMD (05_energy_registers.md R153). -/
abbrev metCtlCmd : Nat := 0x40B0C8

/-- MET_CTL_STAT (05_energy_registers.md R153). -/
abbrev metCtlStat : Nat := 0x40B0D0

/-- MET_CTL_SEQ (05_energy_registers.md R153). -/
abbrev metCtlSeq : Nat := 0x40B0D8

/-- GLN_CFG (14_supply_loss_gleaning.md R381). -/
abbrev glnCfg : Nat := 0x40C040

/-- GLN_STAT (14_supply_loss_gleaning.md R381). -/
abbrev glnStat : Nat := 0x40C048

/-- GLN_LAST_SEC (14_supply_loss_gleaning.md R381). -/
abbrev glnLastSec : Nat := 0x40C050

/-- GLN_LAST_NS (14_supply_loss_gleaning.md R381). -/
abbrev glnLastNs : Nat := 0x40C058

/-- GLN_LAST_RUN (14_supply_loss_gleaning.md R381). -/
abbrev glnLastRun : Nat := 0x40C060

/-- GLN_UNCONF (14_supply_loss_gleaning.md R381). -/
abbrev glnUnconf : Nat := 0x40C068

/-- GLN_OUTAGE (14_supply_loss_gleaning.md R381). -/
abbrev glnOutage : Nat := 0x40C070

/-- GLN_CNT (14_supply_loss_gleaning.md R381). -/
abbrev glnCnt : Nat := 0x40C078

/-- MET_MP_CFG (05_energy_registers.md R154). -/
abbrev metMpCfg (p : Nat) : Nat := 0x410040 + 0x1000 * p

/-- MET_MP_STAT (05_energy_registers.md R154). -/
abbrev metMpStat (p : Nat) : Nat := 0x410048 + 0x1000 * p

/-- MET_MP_PUB_SEC (05_energy_registers.md R154). -/
abbrev metMpPubSec (p : Nat) : Nat := 0x410050 + 0x1000 * p

/-- MET_MP_PUB_NS (05_energy_registers.md R154). -/
abbrev metMpPubNs (p : Nat) : Nat := 0x410058 + 0x1000 * p

/-- MET_MP_P (05_energy_registers.md R154). -/
abbrev metMpP (p : Nat) : Nat := 0x410060 + 0x1000 * p

/-- MET_MP_Q1 (05_energy_registers.md R154). -/
abbrev metMpQ1 (p : Nat) : Nat := 0x410068 + 0x1000 * p

/-- MET_MP_F1 (05_energy_registers.md R154). -/
abbrev metMpF1 (p : Nat) : Nat := 0x410070 + 0x1000 * p

/-- MET_MP_PF (05_energy_registers.md R154). -/
abbrev metMpPf (p : Nat) : Nat := 0x410078 + 0x1000 * p

/-- MET_MP_RMSc (05_energy_registers.md R154). -/
abbrev metMpRms (p i : Nat) : Nat := 0x410080 + 0x1000 * p + 0x8 * i

/-- MET_MP_GAP (05_energy_registers.md R154). -/
abbrev metMpGap (p : Nat) : Nat := 0x4100C0 + 0x1000 * p

/-- MET_MP_SAT (05_energy_registers.md R154). -/
abbrev metMpSat (p : Nat) : Nat := 0x4100C8 + 0x1000 * p

/-- MET_MP_QINV (05_energy_registers.md R154). -/
abbrev metMpQinv (p : Nat) : Nat := 0x4100D0 + 0x1000 * p

/-- MET_MP_ACCa_HI (05_energy_registers.md R154). -/
abbrev metMpAccHi (p i : Nat) : Nat := 0x410100 + 0x1000 * p + 0x20 * i

/-- MET_MP_ACCa_LO (05_energy_registers.md R154). -/
abbrev metMpAccLo (p i : Nat) : Nat := 0x410108 + 0x1000 * p + 0x20 * i

/-- MET_MP_ACCa_WIN (05_energy_registers.md R154). -/
abbrev metMpAccWin (p i : Nat) : Nat := 0x410110 + 0x1000 * p + 0x20 * i

/-- MET_MP_ACCa_WRAP (05_energy_registers.md R154). -/
abbrev metMpAccWrap (p i : Nat) : Nat := 0x410118 + 0x1000 * p + 0x20 * i

/-- MET_HARM (05_energy_registers.md R157). -/
abbrev metHarm (p i : Nat) : Nat := 0x450040 + 0x1000 * p + 0x8 * i

/-- BAL_NB_CFG (06_hub_balance_and_limits.md R177). -/
abbrev balNbCfg : Nat := 0x490040

/-- BAL_NB_DST (06_hub_balance_and_limits.md R177). -/
abbrev balNbDst : Nat := 0x490048

/-- BAL_NB_DEVk (06_hub_balance_and_limits.md R177). -/
abbrev balNbDev (i : Nat) : Nat := 0x490050 + 0x8 * i

/-- BAL_NB_CNT (06_hub_balance_and_limits.md R177). -/
abbrev balNbCnt : Nat := 0x490090

/-- BAL_CFG (06_hub_balance_and_limits.md R178). -/
abbrev balCfg (p : Nat) : Nat := 0x491040 + 0x1000 * p

/-- BAL_SRC_LO (06_hub_balance_and_limits.md R178). -/
abbrev balSrcLo (p : Nat) : Nat := 0x491048 + 0x1000 * p

/-- BAL_SRC_HI (06_hub_balance_and_limits.md R178). -/
abbrev balSrcHi (p : Nat) : Nat := 0x491050 + 0x1000 * p

/-- BAL_SNK_LO (06_hub_balance_and_limits.md R178). -/
abbrev balSnkLo (p : Nat) : Nat := 0x491058 + 0x1000 * p

/-- BAL_SNK_HI (06_hub_balance_and_limits.md R178). -/
abbrev balSnkHi (p : Nat) : Nat := 0x491060 + 0x1000 * p

/-- BAL_C0 (06_hub_balance_and_limits.md R178). -/
abbrev balC0 (p : Nat) : Nat := 0x491068 + 0x1000 * p

/-- BAL_C1 (06_hub_balance_and_limits.md R178). -/
abbrev balC1 (p : Nat) : Nat := 0x491070 + 0x1000 * p

/-- BAL_C2 (06_hub_balance_and_limits.md R178). -/
abbrev balC2 (p : Nat) : Nat := 0x491078 + 0x1000 * p

/-- BAL_ABS (06_hub_balance_and_limits.md R178). -/
abbrev balAbs (p : Nat) : Nat := 0x491080 + 0x1000 * p

/-- BAL_REL (06_hub_balance_and_limits.md R178). -/
abbrev balRel (p : Nat) : Nat := 0x491088 + 0x1000 * p

/-- BAL_REMr (06_hub_balance_and_limits.md R178). -/
abbrev balRem (p i : Nat) : Nat := 0x491090 + 0x1000 * p + 0x8 * i

/-- BAL_STAT (06_hub_balance_and_limits.md R178). -/
abbrev balStat (p : Nat) : Nat := 0x4910C0 + 0x1000 * p

/-- BAL_T_SEC (06_hub_balance_and_limits.md R178). -/
abbrev balTSec (p : Nat) : Nat := 0x4910C8 + 0x1000 * p

/-- BAL_E_SRC (06_hub_balance_and_limits.md R178). -/
abbrev balESrc (p : Nat) : Nat := 0x4910D0 + 0x1000 * p

/-- BAL_E_SNK (06_hub_balance_and_limits.md R178). -/
abbrev balESnk (p : Nat) : Nat := 0x4910D8 + 0x1000 * p

/-- BAL_E_LOSS (06_hub_balance_and_limits.md R178). -/
abbrev balELoss (p : Nat) : Nat := 0x4910E0 + 0x1000 * p

/-- BAL_RES (06_hub_balance_and_limits.md R178). -/
abbrev balRes (p : Nat) : Nat := 0x4910E8 + 0x1000 * p

/-- BAL_BOUND (06_hub_balance_and_limits.md R178). -/
abbrev balBound (p : Nat) : Nat := 0x4910F0 + 0x1000 * p

/-- BAL_UNMEAS (06_hub_balance_and_limits.md R178). -/
abbrev balUnmeas (p : Nat) : Nat := 0x4910F8 + 0x1000 * p

/-- BAL_RES_SUM_HI (06_hub_balance_and_limits.md R178). -/
abbrev balResSumHi (p : Nat) : Nat := 0x491100 + 0x1000 * p

/-- BAL_RES_SUM_LO (06_hub_balance_and_limits.md R178). -/
abbrev balResSumLo (p : Nat) : Nat := 0x491108 + 0x1000 * p

/-- PQ_CFG (07_power_quality.md R195). -/
abbrev pqCfg : Nat := 0x500040

/-- PQ_OPEN_LO (07_power_quality.md R195). -/
abbrev pqOpenLo : Nat := 0x500048

/-- PQ_OPEN_HI (07_power_quality.md R195). -/
abbrev pqOpenHi : Nat := 0x500050

/-- PQ_Q_CNT (07_power_quality.md R195). -/
abbrev pqQCnt : Nat := 0x500058

/-- PQ_MP_CFG (07_power_quality.md R196). -/
abbrev pqMpCfg (p : Nat) : Nat := 0x501040 + 0x1000 * p

/-- PQ_MP_UREF (07_power_quality.md R196). -/
abbrev pqMpUref (p : Nat) : Nat := 0x501048 + 0x1000 * p

/-- PQ_MP_THR (07_power_quality.md R196). -/
abbrev pqMpThr (p : Nat) : Nat := 0x501050 + 0x1000 * p

/-- PQ_MP_STAT (07_power_quality.md R196). -/
abbrev pqMpStat (p : Nat) : Nat := 0x501058 + 0x1000 * p

/-- PQ_MP_HCc (07_power_quality.md R196). -/
abbrev pqMpHc (p i : Nat) : Nat := 0x501060 + 0x1000 * p + 0x8 * i

/-- PQ_MP_CNT_SAG (07_power_quality.md R196). -/
abbrev pqMpCntSag (p : Nat) : Nat := 0x501080 + 0x1000 * p

/-- PQ_MP_CNT_SWELL (07_power_quality.md R196). -/
abbrev pqMpCntSwell (p : Nat) : Nat := 0x501088 + 0x1000 * p

/-- PQ_MP_CNT_INT (07_power_quality.md R196). -/
abbrev pqMpCntInt (p : Nat) : Nat := 0x501090 + 0x1000 * p

/-- PQ_MP_LAST (07_power_quality.md R196). -/
abbrev pqMpLast (p : Nat) : Nat := 0x501098 + 0x1000 * p

/-- PQ_MP_LAST_DUR (07_power_quality.md R196). -/
abbrev pqMpLastDur (p : Nat) : Nat := 0x5010A0 + 0x1000 * p

/-- PQ_MP_LAST_SEQ (07_power_quality.md R196). -/
abbrev pqMpLastSeq (p : Nat) : Nat := 0x5010A8 + 0x1000 * p

/-- PQ_FL_CFG (07_power_quality.md R197). -/
abbrev pqFlCfg (i : Nat) : Nat := 0x541040 + 0x1000 * (i / 32) + 0x10 * (i % 32)

/-- PQ_FL_STAT (07_power_quality.md R197). -/
abbrev pqFlStat (i : Nat) : Nat := 0x541048 + 0x1000 * (i / 32) + 0x10 * (i % 32)

/-- STL_CFG (08_stalls_and_pilot.md R222). -/
abbrev stlCfg (p : Nat) : Nat := 0x600040 + 0x1000 * p

/-- STL_PWR_CFG (08_stalls_and_pilot.md R222). -/
abbrev stlPwrCfg (p : Nat) : Nat := 0x600048 + 0x1000 * p

/-- STL_MAP (08_stalls_and_pilot.md R222). -/
abbrev stlMap (p : Nat) : Nat := 0x600050 + 0x1000 * p

/-- STL_MODE (08_stalls_and_pilot.md R222). -/
abbrev stlMode (p : Nat) : Nat := 0x600058 + 0x1000 * p

/-- STL_SESSION (08_stalls_and_pilot.md R222). -/
abbrev stlSession (p : Nat) : Nat := 0x600060 + 0x1000 * p

/-- STL_PILOT (08_stalls_and_pilot.md R222). -/
abbrev stlPilot (p : Nat) : Nat := 0x600068 + 0x1000 * p

/-- STL_PP (08_stalls_and_pilot.md R222). -/
abbrev stlPp (p : Nat) : Nat := 0x600070 + 0x1000 * p

/-- STL_INS (08_stalls_and_pilot.md R222). -/
abbrev stlIns (p : Nat) : Nat := 0x600078 + 0x1000 * p

/-- STL_DEMAND (08_stalls_and_pilot.md R222). -/
abbrev stlDemand (p : Nat) : Nat := 0x600080 + 0x1000 * p

/-- STL_OFFER (08_stalls_and_pilot.md R222). -/
abbrev stlOffer (p : Nat) : Nat := 0x600088 + 0x1000 * p

/-- STL_AUTH_REF (08_stalls_and_pilot.md R222). -/
abbrev stlAuthRef (p : Nat) : Nat := 0x600090 + 0x1000 * p

/-- STL_TOKEN (08_stalls_and_pilot.md R222). -/
abbrev stlToken (p : Nat) : Nat := 0x6000C0 + 0x1000 * p

/-- STL_CMD (08_stalls_and_pilot.md R222). -/
abbrev stlCmd (p : Nat) : Nat := 0x6000C8 + 0x1000 * p

/-- STL_STAT (08_stalls_and_pilot.md R222). -/
abbrev stlStat (p : Nat) : Nat := 0x6000D0 + 0x1000 * p

/-- STL_SEQ (08_stalls_and_pilot.md R222). -/
abbrev stlSeq (p : Nat) : Nat := 0x6000D8 + 0x1000 * p

/-- ALC_CFG (06_hub_balance_and_limits.md R179). -/
abbrev alcCfg : Nat := 0x620040

/-- ALC_LIMIT (06_hub_balance_and_limits.md R179). -/
abbrev alcLimit : Nat := 0x620048

/-- ALC_FALLBACK (06_hub_balance_and_limits.md R179). -/
abbrev alcFallback : Nat := 0x620050

/-- ALC_STAT (06_hub_balance_and_limits.md R179). -/
abbrev alcStat : Nat := 0x620058

/-- ALC_P_GRID (06_hub_balance_and_limits.md R179). -/
abbrev alcPGrid : Nat := 0x620060

/-- ALC_HELD (06_hub_balance_and_limits.md R179). -/
abbrev alcHeld : Nat := 0x620068

/-- ALC_PAUSED (06_hub_balance_and_limits.md R179). -/
abbrev alcPaused : Nat := 0x620070

/-- ALC_TICK (06_hub_balance_and_limits.md R179). -/
abbrev alcTick : Nat := 0x620078

/-- ALC_TOKEN (06_hub_balance_and_limits.md R179). -/
abbrev alcToken : Nat := 0x620080

/-- ALC_CMD (06_hub_balance_and_limits.md R179). -/
abbrev alcCmd : Nat := 0x620088

/-- ALC_STAT_CMD (06_hub_balance_and_limits.md R179). -/
abbrev alcStatCmd : Nat := 0x620090

/-- ALC_SEQ (06_hub_balance_and_limits.md R179). -/
abbrev alcSeq : Nat := 0x620098

/-- ALC_Q_CNT (06_hub_balance_and_limits.md R179). -/
abbrev alcQCnt : Nat := 0x6200A0

/-- ALC_STALLn (06_hub_balance_and_limits.md R179). -/
abbrev alcStall (i : Nat) : Nat := 0x620100 + 0x8 * i

/-- ALC_CAPn (06_hub_balance_and_limits.md R179). -/
abbrev alcCap (i : Nat) : Nat := 0x620200 + 0x8 * i

/-- ALC_GRANTn (06_hub_balance_and_limits.md R179). -/
abbrev alcGrant (i : Nat) : Nat := 0x620300 + 0x8 * i

/-- STL_SUM_MODE0 (08_stalls_and_pilot.md R224). -/
abbrev stlSumMode0 : Nat := 0x621040

/-- STL_SUM_MODE1 (08_stalls_and_pilot.md R224). -/
abbrev stlSumMode1 : Nat := 0x621048

/-- STL_SUM_MODE2 (08_stalls_and_pilot.md R224). -/
abbrev stlSumMode2 : Nat := 0x621050

/-- STL_SUM_SAFE (08_stalls_and_pilot.md R224). -/
abbrev stlSumSafe : Nat := 0x621058

/-- STL_SUM_OOS (08_stalls_and_pilot.md R224). -/
abbrev stlSumOos : Nat := 0x621060

/-- STL_SUM_LEAD (08_stalls_and_pilot.md R224). -/
abbrev stlSumLead : Nat := 0x621068

/-- VHS_DC_LIM (09_vehicle_sessions.md R252). -/
abbrev vhsDcLim (p : Nat) : Nat := 0x700040 + 0x1000 * p

/-- VHS_DC_PMAX (09_vehicle_sessions.md R252). -/
abbrev vhsDcPmax (p : Nat) : Nat := 0x700048 + 0x1000 * p

/-- VHS_LINK (09_vehicle_sessions.md R252). -/
abbrev vhsLink (p : Nat) : Nat := 0x700050 + 0x1000 * p

/-- VHS_EVCCID (09_vehicle_sessions.md R252). -/
abbrev vhsEvccid (p : Nat) : Nat := 0x700058 + 0x1000 * p

/-- VHS_SESS (09_vehicle_sessions.md R252). -/
abbrev vhsSess (p : Nat) : Nat := 0x700060 + 0x1000 * p

/-- VHS_EV_TARGET (09_vehicle_sessions.md R252). -/
abbrev vhsEvTarget (p : Nat) : Nat := 0x700068 + 0x1000 * p

/-- VHS_OFFER (09_vehicle_sessions.md R252). -/
abbrev vhsOffer (p : Nat) : Nat := 0x700070 + 0x1000 * p

/-- VHS_CKPT (09_vehicle_sessions.md R252). -/
abbrev vhsCkpt (p : Nat) : Nat := 0x700078 + 0x1000 * p

/-- VHS_CKPT_CNT (09_vehicle_sessions.md R252). -/
abbrev vhsCkptCnt (p : Nat) : Nat := 0x700080 + 0x1000 * p

/-- VHS_ERR_CNT (09_vehicle_sessions.md R252). -/
abbrev vhsErrCnt (p : Nat) : Nat := 0x700088 + 0x1000 * p

/-- VHS_GCFG (09_vehicle_sessions.md R250). -/
abbrev vhsGcfg : Nat := 0x720040

/-- VHS_PROTO_EN (09_vehicle_sessions.md R250). -/
abbrev vhsProtoEn : Nat := 0x720048

/-- VHS_SUM_LINK (09_vehicle_sessions.md R250). -/
abbrev vhsSumLink : Nat := 0x720050

/-- VHS_SUM_SESS (09_vehicle_sessions.md R250). -/
abbrev vhsSumSess : Nat := 0x720058

/-- VHS_Q_CNT (09_vehicle_sessions.md R250). -/
abbrev vhsQCnt : Nat := 0x720060

/-- VHS_TO_STAT (09_vehicle_sessions.md R250). -/
abbrev vhsToStat : Nat := 0x720068

/-- DRV_BANK_STAT (10_drive_outputs.md R278). -/
abbrev drvBankStat (p : Nat) : Nat := 0x800040 + 0x1000 * p

/-- DRV_BANK_CNT (10_drive_outputs.md R278). -/
abbrev drvBankCnt (p : Nat) : Nat := 0x800048 + 0x1000 * p

/-- DRV_BANK_MAX (10_drive_outputs.md R278). -/
abbrev drvBankMax (p : Nat) : Nat := 0x800050 + 0x1000 * p

/-- DRV_TOKEN (10_drive_outputs.md R278). -/
abbrev drvToken (p : Nat) : Nat := 0x8000C0 + 0x1000 * p

/-- DRV_CMD (10_drive_outputs.md R278). -/
abbrev drvCmd (p : Nat) : Nat := 0x8000C8 + 0x1000 * p

/-- DRV_STAT (10_drive_outputs.md R278). -/
abbrev drvStat (p : Nat) : Nat := 0x8000D0 + 0x1000 * p

/-- DRV_SEQ (10_drive_outputs.md R278). -/
abbrev drvSeq (p : Nat) : Nat := 0x8000D8 + 0x1000 * p

/-- DRV_OUT_CFG (10_drive_outputs.md R279). -/
abbrev drvOutCfg (i : Nat) : Nat := 0x800100 + 0x1000 * (i / 8) + 0x40 * (i % 8)

/-- DRV_OUT_ECON (10_drive_outputs.md R279). -/
abbrev drvOutEcon (i : Nat) : Nat := 0x800108 + 0x1000 * (i / 8) + 0x40 * (i % 8)

/-- DRV_OUT_LAMP (10_drive_outputs.md R279). -/
abbrev drvOutLamp (i : Nat) : Nat := 0x800110 + 0x1000 * (i / 8) + 0x40 * (i % 8)

/-- DRV_OUT_FUSE (10_drive_outputs.md R279). -/
abbrev drvOutFuse (i : Nat) : Nat := 0x800118 + 0x1000 * (i / 8) + 0x40 * (i % 8)

/-- DRV_OUT_STAT (10_drive_outputs.md R279). -/
abbrev drvOutStat (i : Nat) : Nat := 0x800120 + 0x1000 * (i / 8) + 0x40 * (i % 8)

/-- DRV_OUT_MEAS (10_drive_outputs.md R279). -/
abbrev drvOutMeas (i : Nat) : Nat := 0x800128 + 0x1000 * (i / 8) + 0x40 * (i % 8)

/-- DRV_OUT_HEAT (10_drive_outputs.md R279). -/
abbrev drvOutHeat (i : Nat) : Nat := 0x800130 + 0x1000 * (i / 8) + 0x40 * (i % 8)

/-- DRV_OUT_CNT (10_drive_outputs.md R279). -/
abbrev drvOutCnt (i : Nat) : Nat := 0x800138 + 0x1000 * (i / 8) + 0x40 * (i % 8)

/-- DRV_SUM_ON_LO (10_drive_outputs.md R282). -/
abbrev drvSumOnLo : Nat := 0x808040

/-- DRV_SUM_ON_HI (10_drive_outputs.md R282). -/
abbrev drvSumOnHi : Nat := 0x808048

/-- DRV_SUM_FAULT_LO (10_drive_outputs.md R282). -/
abbrev drvSumFaultLo : Nat := 0x808050

/-- DRV_SUM_FAULT_HI (10_drive_outputs.md R282). -/
abbrev drvSumFaultHi : Nat := 0x808058

/-- DRV_SUM_POWER (10_drive_outputs.md R282). -/
abbrev drvSumPower : Nat := 0x808060

/-- SAF_STATE (11_safety_functions.md R315). -/
abbrev safState : Nat := 0x900040

/-- SAF_TRIPPED (11_safety_functions.md R315). -/
abbrev safTripped : Nat := 0x900048

/-- SAF_SET_ID (11_safety_functions.md R315). -/
abbrev safSetId : Nat := 0x900050

/-- SAF_SET_STAGED (11_safety_functions.md R315). -/
abbrev safSetStaged : Nat := 0x900058

/-- SAF_CH_STAT (11_safety_functions.md R315). -/
abbrev safChStat : Nat := 0x900060

/-- SAF_CH_CNT (11_safety_functions.md R315). -/
abbrev safChCnt : Nat := 0x900068

/-- SAF_TOKEN (11_safety_functions.md R315). -/
abbrev safToken : Nat := 0x9000C0

/-- SAF_CMD (11_safety_functions.md R315). -/
abbrev safCmd : Nat := 0x9000C8

/-- SAF_CMD_STAT (11_safety_functions.md R315). -/
abbrev safCmdStat : Nat := 0x9000D0

/-- SAF_SEQ (11_safety_functions.md R315). -/
abbrev safSeq : Nat := 0x9000D8

/-- SAF_TIN_k (11_safety_functions.md R316). -/
abbrev safTin (i : Nat) : Nat := 0x901040 + 0x8 * i

/-- SAF_TOUT_j (11_safety_functions.md R316). -/
abbrev safTout (i : Nat) : Nat := 0x9010C0 + 0x8 * i

/-- SAF_TIN_STAT (11_safety_functions.md R316). -/
abbrev safTinStat : Nat := 0x901100

/-- SAF_TOUT_STAT (11_safety_functions.md R316). -/
abbrev safToutStat : Nat := 0x901108

/-- SAF_TIN_LATCH (11_safety_functions.md R316). -/
abbrev safTinLatch : Nat := 0x901110

/-- SAF_TP_CFG (11_safety_functions.md R317). -/
abbrev safTpCfg : Nat := 0x902040

/-- SAF_TP_EN_LO (11_safety_functions.md R317). -/
abbrev safTpEnLo : Nat := 0x902048

/-- SAF_TP_EN_HI (11_safety_functions.md R317). -/
abbrev safTpEnHi : Nat := 0x902050

/-- SAF_TP_FAIL_LO (11_safety_functions.md R317). -/
abbrev safTpFailLo : Nat := 0x902058

/-- SAF_TP_FAIL_HI (11_safety_functions.md R317). -/
abbrev safTpFailHi : Nat := 0x902060

/-- SAF_TP_CNT (11_safety_functions.md R317). -/
abbrev safTpCnt : Nat := 0x902068

/-- SL_CFG (11_safety_functions.md R318). -/
abbrev slCfg : Nat := 0x903040

/-- SL_DST (11_safety_functions.md R318). -/
abbrev slDst : Nat := 0x903048

/-- SL_PEERp (11_safety_functions.md R318). -/
abbrev slPeer (i : Nat) : Nat := 0x903050 + 0x10 * i

/-- SL_PEERp_MAP (11_safety_functions.md R318). -/
abbrev slPeerMap (i : Nat) : Nat := 0x903058 + 0x10 * i

/-- SL_PEERp_STAT (11_safety_functions.md R318). -/
abbrev slPeerStat (i : Nat) : Nat := 0x903090 + 0x8 * i

/-- SL_CNT (11_safety_functions.md R318). -/
abbrev slCnt : Nat := 0x9030B0

/-- SAF_ST_MAP (11_safety_functions.md R319). -/
abbrev safStMap (p : Nat) : Nat := 0x910040 + 0x1000 * p

/-- SAF_ST_CTR (11_safety_functions.md R319). -/
abbrev safStCtr (p : Nat) : Nat := 0x910048 + 0x1000 * p

/-- SAF_ST_INS (11_safety_functions.md R319). -/
abbrev safStIns (p : Nat) : Nat := 0x910050 + 0x1000 * p

/-- SAF_ST_BRIDGE (11_safety_functions.md R319). -/
abbrev safStBridge (p : Nat) : Nat := 0x910058 + 0x1000 * p

/-- SAF_ST_INPUTS (11_safety_functions.md R319). -/
abbrev safStInputs (p : Nat) : Nat := 0x910060 + 0x1000 * p

/-- SAF_ST_RC (11_safety_functions.md R319). -/
abbrev safStRc (p : Nat) : Nat := 0x910068 + 0x1000 * p

/-- SAF_ST_PROOF (11_safety_functions.md R319). -/
abbrev safStProof (p : Nat) : Nat := 0x910070 + 0x1000 * p

/-- SAF_ST_STAT (11_safety_functions.md R319). -/
abbrev safStStat (p : Nat) : Nat := 0x910080 + 0x1000 * p

/-- SAF_ST_ISO (11_safety_functions.md R319). -/
abbrev safStIso (p : Nat) : Nat := 0x910088 + 0x1000 * p

/-- SAF_ST_RC_MEAS (11_safety_functions.md R319). -/
abbrev safStRcMeas (p : Nat) : Nat := 0x910090 + 0x1000 * p

/-- SAF_ST_CAUSE (11_safety_functions.md R319). -/
abbrev safStCause (p : Nat) : Nat := 0x910098 + 0x1000 * p

/-- SAF_ST_PROOF_STAT (11_safety_functions.md R319). -/
abbrev safStProofStat (p : Nat) : Nat := 0x9100A0 + 0x1000 * p

/-- SAF_ST_CNT (11_safety_functions.md R319). -/
abbrev safStCnt (p : Nat) : Nat := 0x9100A8 + 0x1000 * p

/-- MLK_CFG (20_mains_link.md R504). -/
abbrev mlkCfg : Nat := 0xA00040

/-- MLK_NID (20_mains_link.md R504). -/
abbrev mlkNid : Nat := 0xA00048

/-- MLK_STAT (20_mains_link.md R504). -/
abbrev mlkStat : Nat := 0xA00050

/-- MLK_TOKEN (20_mains_link.md R504). -/
abbrev mlkToken : Nat := 0xA000C0

/-- MLK_CMD (20_mains_link.md R504). -/
abbrev mlkCmd : Nat := 0xA000C8

/-- MLK_STAT_CMD (20_mains_link.md R504). -/
abbrev mlkStatCmd : Nat := 0xA000D0

/-- MLK_SEQ (20_mains_link.md R504). -/
abbrev mlkSeq : Nat := 0xA000D8

/-- MLK_P_CFG (20_mains_link.md R505). -/
abbrev mlkPCfg (p : Nat) : Nat := 0xA01040 + 0x1000 * p

/-- MLK_P_STAT (20_mains_link.md R505). -/
abbrev mlkPStat (p : Nat) : Nat := 0xA01048 + 0x1000 * p

/-- MLK_P_TX (20_mains_link.md R505). -/
abbrev mlkPTx (p : Nat) : Nat := 0xA01050 + 0x1000 * p

/-- MLK_P_RX (20_mains_link.md R505). -/
abbrev mlkPRx (p : Nat) : Nat := 0xA01058 + 0x1000 * p

/-- MLK_P_ERR (20_mains_link.md R505). -/
abbrev mlkPErr (p : Nat) : Nat := 0xA01060 + 0x1000 * p

/-- MLK_P_BCN (20_mains_link.md R505). -/
abbrev mlkPBcn (p : Nat) : Nat := 0xA01068 + 0x1000 * p

/-- MLK_NBe_ID (20_mains_link.md R505). -/
abbrev mlkNbId (p i : Nat) : Nat := 0xA01100 + 0x1000 * p + 0x10 * i

/-- MLK_NBe_STAT (20_mains_link.md R505). -/
abbrev mlkNbStat (p i : Nat) : Nat := 0xA01108 + 0x1000 * p + 0x10 * i

/-- QUE_CFG (12_queues.md R337). -/
abbrev queCfg (p : Nat) : Nat := 0xB00040 + 0x1000 * p

/-- QUE_WM (12_queues.md R337). -/
abbrev queWm (p : Nat) : Nat := 0xB00048 + 0x1000 * p

/-- QUE_IRQ (12_queues.md R337). -/
abbrev queIrq (p : Nat) : Nat := 0xB00050 + 0x1000 * p

/-- QUE_LEVEL (12_queues.md R337). -/
abbrev queLevel (p : Nat) : Nat := 0xB00058 + 0x1000 * p

/-- QUE_MAX (12_queues.md R337). -/
abbrev queMax (p : Nat) : Nat := 0xB00060 + 0x1000 * p

/-- QUE_WM_CNT (12_queues.md R337). -/
abbrev queWmCnt (p : Nat) : Nat := 0xB00068 + 0x1000 * p

/-- QUE_DROP_CNT (12_queues.md R337). -/
abbrev queDropCnt (p : Nat) : Nat := 0xB00070 + 0x1000 * p

/-- QUE_DISC (12_queues.md R337). -/
abbrev queDisc (p : Nat) : Nat := 0xB00078 + 0x1000 * p

/-- QUE_ITEMS_IN (12_queues.md R337). -/
abbrev queItemsIn (p : Nat) : Nat := 0xB00080 + 0x1000 * p

/-- QUE_ITEMS_OUT (12_queues.md R337). -/
abbrev queItemsOut (p : Nat) : Nat := 0xB00088 + 0x1000 * p

/-- QUE_TOKEN (12_queues.md R337). -/
abbrev queToken (p : Nat) : Nat := 0xB000C0 + 0x1000 * p

/-- QUE_CMD (12_queues.md R337). -/
abbrev queCmd (p : Nat) : Nat := 0xB000C8 + 0x1000 * p

/-- QUE_STAT (12_queues.md R337). -/
abbrev queStat (p : Nat) : Nat := 0xB000D0 + 0x1000 * p

/-- QUE_SEQ (12_queues.md R337). -/
abbrev queSeq (p : Nat) : Nat := 0xB000D8 + 0x1000 * p

/-- QUE_SUM_VIS_LO (12_queues.md R339). -/
abbrev queSumVisLo : Nat := 0xB40040

/-- QUE_SUM_VIS_HI (12_queues.md R339). -/
abbrev queSumVisHi : Nat := 0xB40048

/-- QUE_SUM_EVT_LO (12_queues.md R339). -/
abbrev queSumEvtLo : Nat := 0xB40050

/-- QUE_SUM_EVT_HI (12_queues.md R339). -/
abbrev queSumEvtHi : Nat := 0xB40058

/-- QUE_SUM_MEM (12_queues.md R339). -/
abbrev queSumMem : Nat := 0xB40060

/-- JNL_HEAD (13_granary_journal.md R366). -/
abbrev jnlHead : Nat := 0xC00040

/-- JNL_DURABLE (13_granary_journal.md R366). -/
abbrev jnlDurable : Nat := 0xC00048

/-- JNL_TAIL (13_granary_journal.md R366). -/
abbrev jnlTail : Nat := 0xC00050

/-- JNL_ACK (13_granary_journal.md R366). -/
abbrev jnlAck : Nat := 0xC00058

/-- JNL_FREE (13_granary_journal.md R366). -/
abbrev jnlFree : Nat := 0xC00060

/-- JNL_STAT (13_granary_journal.md R366). -/
abbrev jnlStat : Nat := 0xC00068

/-- JNL_CFG (13_granary_journal.md R366). -/
abbrev jnlCfg : Nat := 0xC00070

/-- JNL_NOTIFY (13_granary_journal.md R366). -/
abbrev jnlNotify : Nat := 0xC00078

/-- JNL_WIN_BASE (13_granary_journal.md R366). -/
abbrev jnlWinBase : Nat := 0xC00080

/-- JNL_PART_A (13_granary_journal.md R366). -/
abbrev jnlPartA : Nat := 0xC00088

/-- JNL_PART_B (13_granary_journal.md R366). -/
abbrev jnlPartB : Nat := 0xC00090

/-- JNL_TOKENS (13_granary_journal.md R366). -/
abbrev jnlTokens : Nat := 0xC00098

/-- JNL_ERR_CNT (13_granary_journal.md R366). -/
abbrev jnlErrCnt : Nat := 0xC000A0

/-- JNL_SUPPR (13_granary_journal.md R366). -/
abbrev jnlSuppr : Nat := 0xC000A8

/-- JNL_RATE (13_granary_journal.md R366). -/
abbrev jnlRate : Nat := 0xC000B0

/-- JNL_RECOVERY (13_granary_journal.md R366). -/
abbrev jnlRecovery : Nat := 0xC000B8

/-- BIL_BT_SEC (15_billing.md R403). -/
abbrev bilBtSec : Nat := 0xD00040

/-- BIL_BT_NS (15_billing.md R403). -/
abbrev bilBtNs : Nat := 0xD00048

/-- BIL_STAT (15_billing.md R403). -/
abbrev bilStat : Nat := 0xD00050

/-- BIL_HOLD_LEFT (15_billing.md R403). -/
abbrev bilHoldLeft : Nat := 0xD00058

/-- BIL_CAL_ACT (15_billing.md R403). -/
abbrev bilCalAct : Nat := 0xD00060

/-- BIL_CAL_PEND (15_billing.md R403). -/
abbrev bilCalPend : Nat := 0xD00068

/-- BIL_CAL_PEND_AT (15_billing.md R403). -/
abbrev bilCalPendAt : Nat := 0xD00070

/-- BIL_REC_NUM (15_billing.md R403). -/
abbrev bilRecNum : Nat := 0xD00078

/-- BIL_CNT (15_billing.md R403). -/
abbrev bilCnt : Nat := 0xD00080

/-- BIL_TOKEN (15_billing.md R403). -/
abbrev bilToken : Nat := 0xD000C0

/-- BIL_CMD (15_billing.md R403). -/
abbrev bilCmd : Nat := 0xD000C8

/-- BIL_STAT_CMD (15_billing.md R403). -/
abbrev bilStatCmd : Nat := 0xD000D0

/-- BIL_SEQ (15_billing.md R403). -/
abbrev bilSeq : Nat := 0xD000D8

/-- BIL_REC_SEL (15_billing.md R404). -/
abbrev bilRecSel : Nat := 0xD02040

/-- BIL_REC_STAT (15_billing.md R404). -/
abbrev bilRecStat : Nat := 0xD02048

/-- BIL_REC_DATA (15_billing.md R404). -/
abbrev bilRecData (i : Nat) : Nat := 0xD02100 + 0x8 * i

/-- BIL_MP_CFG (15_billing.md R405). -/
abbrev bilMpCfg (p : Nat) : Nat := 0xD10040 + 0x1000 * p

/-- BIL_MP_SEL (15_billing.md R405). -/
abbrev bilMpSel (p : Nat) : Nat := 0xD10048 + 0x1000 * p

/-- BIL_MP_NEXT (15_billing.md R405). -/
abbrev bilMpNext (p : Nat) : Nat := 0xD10050 + 0x1000 * p

/-- BIL_MP_INT_START (15_billing.md R405). -/
abbrev bilMpIntStart (p : Nat) : Nat := 0xD10058 + 0x1000 * p

/-- BIL_MP_INT_E (15_billing.md R405). -/
abbrev bilMpIntE (p : Nat) : Nat := 0xD10060 + 0x1000 * p

/-- BIL_MP_LAST (15_billing.md R405). -/
abbrev bilMpLast (p : Nat) : Nat := 0xD10068 + 0x1000 * p

/-- BIL_MP_LAST_END (15_billing.md R405). -/
abbrev bilMpLastEnd (p : Nat) : Nat := 0xD10070 + 0x1000 * p

/-- BIL_MP_MAXk (15_billing.md R405). -/
abbrev bilMpMax (p i : Nat) : Nat := 0xD10080 + 0x1000 * p + 0x8 * i

/-- BIL_MP_MAXTk (15_billing.md R405). -/
abbrev bilMpMaxt (p i : Nat) : Nat := 0xD100C0 + 0x1000 * p + 0x8 * i

/-- KEY_STATE (16_key_store.md R430). -/
abbrev keyState : Nat := 0xE00040

/-- KEY_TAMPER_CFG (16_key_store.md R430). -/
abbrev keyTamperCfg : Nat := 0xE00048

/-- KEY_TAMPER_STAT (16_key_store.md R430). -/
abbrev keyTamperStat : Nat := 0xE00050

/-- KEY_TAMPER_LOGe (16_key_store.md R430). -/
abbrev keyTamperLog (i : Nat) : Nat := 0xE00058 + 0x8 * i

/-- KEY_CACHE (16_key_store.md R430). -/
abbrev keyCache : Nat := 0xE00098

/-- KEY_ENG_STAT (16_key_store.md R430). -/
abbrev keyEngStat : Nat := 0xE000A0

/-- KEY_EPH (16_key_store.md R430). -/
abbrev keyEph : Nat := 0xE000A8

/-- KEY_TOKEN (16_key_store.md R430). -/
abbrev keyToken : Nat := 0xE000C0

/-- KEY_CMD (16_key_store.md R430). -/
abbrev keyCmd : Nat := 0xE000C8

/-- KEY_STAT_CMD (16_key_store.md R430). -/
abbrev keyStatCmd : Nat := 0xE000D0

/-- KEY_SEQ (16_key_store.md R430). -/
abbrev keySeq : Nat := 0xE000D8

/-- KEY_MEAS0–7 (16_key_store.md R430). -/
abbrev keyMeas (i : Nat) : Nat := 0xE00100 + 0x8 * i

/-- KEY_MREC_FIRST (16_key_store.md R430). -/
abbrev keyMrecFirst : Nat := 0xE00140

/-- KEY_SLOT_SUM (16_key_store.md R432). -/
abbrev keySlotSum : Nat := 0xE01040

/-- KEY_SLOTi (16_key_store.md R432). -/
abbrev keySlot (i : Nat) : Nat := 0xE01200 + 0x8 * i

/-- KEY_STG_CTL (16_key_store.md R433). -/
abbrev keyStgCtl : Nat := 0xE02040

/-- KEY_STG_DATA (16_key_store.md R433). -/
abbrev keyStgData (i : Nat) : Nat := 0xE02200 + 0x8 * i

/-- CTL_TAG_CFG (17_contactless.md R453). -/
abbrev ctlTagCfg : Nat := 0xF00040

/-- CTL_TAG_STAT (17_contactless.md R453). -/
abbrev ctlTagStat : Nat := 0xF00048

/-- CTL_TAG_CNT (17_contactless.md R453). -/
abbrev ctlTagCnt : Nat := 0xF00050

/-- CTL_MEM_STAT (17_contactless.md R453). -/
abbrev ctlMemStat : Nat := 0xF00058

/-- CTL_MEM_SEQ (17_contactless.md R453). -/
abbrev ctlMemSeq : Nat := 0xF00060

/-- CTL_TOKEN (17_contactless.md R453). -/
abbrev ctlToken : Nat := 0xF000C0

/-- CTL_CMD (17_contactless.md R453). -/
abbrev ctlCmd : Nat := 0xF000C8

/-- CTL_STAT_CMD (17_contactless.md R453). -/
abbrev ctlStatCmd : Nat := 0xF000D0

/-- CTL_SEQ (17_contactless.md R453). -/
abbrev ctlSeq : Nat := 0xF000D8

/-- CTL_MEM_DATA (17_contactless.md R453). -/
abbrev ctlMemData (i : Nat) : Nat := 0xF00100 + 0x8 * i

/-- CTL_RD_CFG (17_contactless.md R454). -/
abbrev ctlRdCfg (i : Nat) : Nat := 0xF01040 + 0x40 * i

/-- CTL_RD_STAT (17_contactless.md R454). -/
abbrev ctlRdStat (i : Nat) : Nat := 0xF01048 + 0x40 * i

/-- CTL_RD_UID_LO (17_contactless.md R454). -/
abbrev ctlRdUidLo (i : Nat) : Nat := 0xF01050 + 0x40 * i

/-- CTL_RD_UID_HI (17_contactless.md R454). -/
abbrev ctlRdUidHi (i : Nat) : Nat := 0xF01058 + 0x40 * i

/-- CTL_RD_CNT (17_contactless.md R454). -/
abbrev ctlRdCnt (i : Nat) : Nat := 0xF01060 + 0x40 * i

/-- CTL_RD_LAST_SEQ (17_contactless.md R454). -/
abbrev ctlRdLastSeq (i : Nat) : Nat := 0xF01068 + 0x40 * i

/-- UPD_PARAM (18_firmware_update.md R474). -/
abbrev updParam : Nat := 0x1000040

/-- UPD_HADDR_LO (18_firmware_update.md R474). -/
abbrev updHaddrLo : Nat := 0x1000048

/-- UPD_HADDR_HI (18_firmware_update.md R474). -/
abbrev updHaddrHi : Nat := 0x1000050

/-- UPD_RELAY_CFG (18_firmware_update.md R474). -/
abbrev updRelayCfg : Nat := 0x1000058

/-- UPD_RELAY_UPu (18_firmware_update.md R474). -/
abbrev updRelayUp (i : Nat) : Nat := 0x1000060 + 0x8 * i

/-- UPD_RELAY_DNd (18_firmware_update.md R474). -/
abbrev updRelayDn (i : Nat) : Nat := 0x1000070 + 0x8 * i

/-- UPD_STAT (18_firmware_update.md R474). -/
abbrev updStat : Nat := 0x1000090

/-- UPD_TOKEN (18_firmware_update.md R474). -/
abbrev updToken : Nat := 0x10000C0

/-- UPD_CMD (18_firmware_update.md R474). -/
abbrev updCmd : Nat := 0x10000C8

/-- UPD_STAT_CMD (18_firmware_update.md R474). -/
abbrev updStatCmd : Nat := 0x10000D0

/-- UPD_SEQ (18_firmware_update.md R474). -/
abbrev updSeq : Nat := 0x10000D8

/-- UPD_K_CFG (18_firmware_update.md R475). -/
abbrev updKCfg (k : Nat) : Nat := 0x1000040 + 0x1000 * k

/-- UPD_K_RUN (18_firmware_update.md R475). -/
abbrev updKRun (k : Nat) : Nat := 0x1000048 + 0x1000 * k

/-- UPD_K_RUN_ID (18_firmware_update.md R475). -/
abbrev updKRunId (k : Nat) : Nat := 0x1000050 + 0x1000 * k

/-- UPD_K_OFFER (18_firmware_update.md R475). -/
abbrev updKOffer (k : Nat) : Nat := 0x1000058 + 0x1000 * k

/-- UPD_K_OFFER_ID (18_firmware_update.md R475). -/
abbrev updKOfferId (k : Nat) : Nat := 0x1000060 + 0x1000 * k

/-- UPD_K_OFFER_VER (18_firmware_update.md R475). -/
abbrev updKOfferVer (k : Nat) : Nat := 0x1000068 + 0x1000 * k

/-- UPD_K_EXPIRY (18_firmware_update.md R475). -/
abbrev updKExpiry (k : Nat) : Nat := 0x1000070 + 0x1000 * k

/-- UPD_K_TRIAL (18_firmware_update.md R475). -/
abbrev updKTrial (k : Nat) : Nat := 0x1000078 + 0x1000 * k

/-- UPD_K_DEFER (18_firmware_update.md R475). -/
abbrev updKDefer (k : Nat) : Nat := 0x1000080 + 0x1000 * k

/-- UPD_K_CNT (18_firmware_update.md R475). -/
abbrev updKCnt (k : Nat) : Nat := 0x1000088 + 0x1000 * k

/-- UPD_K_MAPw (18_firmware_update.md R475). -/
abbrev updKMap (k i : Nat) : Nat := 0x1000100 + 0x1000 * k + 0x8 * i

/-- FLT_SUM (21_faults_and_service.md R517). -/
abbrev fltSum : Nat := 0x1100040

/-- FLT_STALLS (21_faults_and_service.md R517). -/
abbrev fltStalls : Nat := 0x1100048

/-- FLT_DEGRADED (21_faults_and_service.md R517). -/
abbrev fltDegraded : Nat := 0x1100050

/-- FLT_PART (21_faults_and_service.md R517). -/
abbrev fltPart : Nat := 0x1100058

/-- FLT_PART_CFG (21_faults_and_service.md R517). -/
abbrev fltPartCfg : Nat := 0x1100060

/-- FLT_LOG_HEAD (21_faults_and_service.md R517). -/
abbrev fltLogHead : Nat := 0x1100068

/-- FLT_LOG_TAIL (21_faults_and_service.md R517). -/
abbrev fltLogTail : Nat := 0x1100070

/-- FLT_TOKEN (21_faults_and_service.md R517). -/
abbrev fltToken : Nat := 0x11000C0

/-- FLT_CMD (21_faults_and_service.md R517). -/
abbrev fltCmd : Nat := 0x11000C8

/-- FLT_STAT_CMD (21_faults_and_service.md R517). -/
abbrev fltStatCmd : Nat := 0x11000D0

/-- FLT_SEQ (21_faults_and_service.md R517). -/
abbrev fltSeq : Nat := 0x11000D8

/-- FLT_ACT_COUNT (21_faults_and_service.md R519). -/
abbrev fltActCount : Nat := 0x1101040

/-- FLT_ACTe (21_faults_and_service.md R519). -/
abbrev fltAct (i : Nat) : Nat := 0x1101100 + 0x8 * i

/-- FLT_LOG_SEL (21_faults_and_service.md R520). -/
abbrev fltLogSel : Nat := 0x1102040

/-- FLT_LOG_STAT (21_faults_and_service.md R520). -/
abbrev fltLogStat : Nat := 0x1102048

/-- FLT_LOG_DATA (21_faults_and_service.md R520). -/
abbrev fltLogData (i : Nat) : Nat := 0x1102100 + 0x8 * i

end Sys2Proof.Machine.Reg
end

