-- ==== Sys2Proof/Machine/Regs.lean ====
section
/-! DEFINITION. The register map as data (02_register_pages.md R22 to R29 and each chapter's register map): which pages
exist, which slots they hold, how each slot may be written, its reset value, and the rights every role holds. -/
namespace Sys2Proof.Machine

/-- How one field of a writable slot takes a written value (R7, R8 and the field tables). -/
inductive FieldRule where
  /-- bits `lo` to `lo + w - 1`, stored as written -/
  | bits (lo w : Nat)
  /-- a value outside `mn` to `mx` is stored as the nearer limit -/
  | near (lo w mn mx : Nat)
  /-- a value outside `mn` to `mx` is MALFORMED (R43) -/
  | bad (lo w mn mx : Nat)
deriving DecidableEq, Repr

/-- What a slot is to a master (R7, R29, R40, R343, R356). -/
inductive Access where
  /-- read only, shared by both masters -/
  | ro
  /-- read only, banked per master -/
  | bro
  /-- writable, shared by both masters; the write is journalled and moves the epoch -/
  | rw (fs : List FieldRule)
  /-- writable, banked per master -/
  | banked (fs : List FieldRule)
  /-- banked parameter slot of a command group (R29) -/
  | param (fs : List FieldRule)
  /-- viewing slot of R356, banked per master -/
  | view
  /-- xxx_TOKEN -/
  | token
  /-- xxx_CMD -/
  | cmd
  /-- xxx_STAT, banked -/
  | cstat
  /-- xxx_SEQ, banked -/
  | cseq
deriving DecidableEq, Repr

/-- One line of a register map: `count` slots from offset `off`, `stride` bytes apart. -/
structure Row where
  off : Nat
  stride : Nat
  count : Nat
  acc : Access
  reset : Nat
deriving DecidableEq, Repr

/-- The kinds of page: pages of one kind have one register map. -/
inductive PageClass where
  | sys0
  | sys1
  | sys2
  | sys3
  | pwr0
  | tim0
  | tim1
  | tim2
  | tim3
  | net0
  | netp
  | met0
  | metin
  | metmap
  | met11
  | met12
  | metmp
  | metharm
  | balnb
  | balg
  | pq0
  | pqmp
  | pqfl
  | stl
  | alc
  | stl33
  | vhs
  | vhs32
  | drv
  | drv8
  | saf0
  | saf1
  | saf2
  | saf3
  | safst
  | mlk0
  | mlkp
  | que
  | que64
  | jnl0
  | bil0
  | bil2
  | bilmp
  | key0
  | key1
  | key2
  | ctl0
  | ctl1
  | upd0
  | updk
  | flt0
  | flt1
  | flt2
deriving DecidableEq, Repr

/-- Register map of the SYS0 page, 02_register_pages.md. -/
def rows_sys0 : List Row := [
  ⟨0x40, 0x8, 1, .ro, 0x4D524C333220⟩,
  ⟨0x48, 0x8, 1, .ro, 0x4943⟩,
  ⟨0x50, 0x8, 1, .ro, 0x0⟩,
  ⟨0x58, 0x8, 1, .ro, 0x0⟩,
  ⟨0x60, 0x8, 1, .token, 0x0⟩,
  ⟨0x68, 0x8, 1, .cmd, 0x0⟩,
  ⟨0x70, 0x8, 1, .cstat, 0x0⟩,
  ⟨0x78, 0x8, 1, .cseq, 0x0⟩]

/-- Register map of the SYS1 page, 02_register_pages.md. -/
def rows_sys1 : List Row := [
  ⟨0x40, 0x8, 1, .ro, 0x0⟩,
  ⟨0x48, 0x8, 1, .ro, 0x0⟩,
  ⟨0x50, 0x8, 1, .ro, 0x0⟩,
  ⟨0x58, 0x8, 1, .ro, 0x0⟩,
  ⟨0x60, 0x8, 1, .ro, 0x0⟩,
  ⟨0x68, 0x8, 1, .ro, 0x0⟩,
  ⟨0x70, 0x8, 1, .ro, 0x0⟩,
  ⟨0x78, 0x8, 1, .bro, 0x0⟩,
  ⟨0x80, 0x8, 1, .ro, 0x0⟩,
  ⟨0x88, 0x8, 1, .ro, 0x0⟩]

/-- Register map of the SYS2 page, 02_register_pages.md. -/
def rows_sys2 : List Row := [
  ⟨0x40, 0x8, 1, (.banked [.bits 0 3]), 0x0⟩,
  ⟨0x48, 0x8, 1, .bro, 0x0⟩,
  ⟨0x50, 0x8, 1, .bro, 0x0⟩,
  ⟨0x58, 0x8, 1, .bro, 0x0⟩,
  ⟨0x60, 0x8, 1, .bro, 0x0⟩,
  ⟨0x68, 0x8, 1, (.banked [.near 0 10 1 1000]), 0x64⟩]

/-- Register map of the SYS3 page, 02_register_pages.md. -/
def rows_sys3 : List Row := [
  ⟨0x40, 0x8, 1, .bro, 0x0⟩,
  ⟨0x48, 0x8, 1, .bro, 0x0⟩,
  ⟨0x50, 0x8, 1, (.banked [.bits 0 3, .bits 8 2]), 0x0⟩,
  ⟨0x58, 0x8, 1, .bro, 0x0⟩,
  ⟨0x200, 0x8, 64, (.banked [.bits 0 48]), 0x0⟩]

/-- Register map of the PWR0 page, 22_supplies_clocks_reset.md. -/
def rows_pwr0 : List Row := [
  ⟨0x40, 0x8, 1, .ro, 0x0⟩,
  ⟨0x48, 0x8, 1, .ro, 0x0⟩,
  ⟨0x50, 0x8, 1, .ro, 0x0⟩,
  ⟨0x58, 0x8, 1, .ro, 0x0⟩,
  ⟨0x60, 0x8, 1, .ro, 0x0⟩,
  ⟨0x68, 0x8, 1, .ro, 0x0⟩,
  ⟨0x70, 0x8, 1, .ro, 0x0⟩,
  ⟨0x78, 0x8, 1, .ro, 0x0⟩,
  ⟨0x80, 0x8, 1, .ro, 0x0⟩,
  ⟨0x88, 0x8, 1, .ro, 0x0⟩,
  ⟨0x90, 0x8, 1, .ro, 0x0⟩,
  ⟨0x98, 0x8, 1, .ro, 0x0⟩,
  ⟨0xC0, 0x8, 1, .token, 0x0⟩,
  ⟨0xC8, 0x8, 1, .cmd, 0x0⟩,
  ⟨0xD0, 0x8, 1, .cstat, 0x0⟩,
  ⟨0xD8, 0x8, 1, .cseq, 0x0⟩]

/-- Register map of the TIM0 page, 03_time_base.md. -/
def rows_tim0 : List Row := [
  ⟨0x40, 0x8, 1, .bro, 0x0⟩,
  ⟨0x48, 0x8, 1, .bro, 0x0⟩,
  ⟨0x50, 0x8, 1, .bro, 0x0⟩,
  ⟨0x58, 0x8, 1, .bro, 0x0⟩,
  ⟨0x60, 0x8, 1, .ro, 0x0⟩,
  ⟨0x68, 0x8, 1, .ro, 0x0⟩,
  ⟨0x70, 0x8, 1, .ro, 0x0⟩,
  ⟨0x78, 0x8, 1, .ro, 0x0⟩,
  ⟨0x80, 0x8, 1, .ro, 0x0⟩,
  ⟨0x88, 0x8, 1, .ro, 0x25⟩,
  ⟨0x90, 0x8, 1, (.rw [.bad 0 2 0 2, .bits 2 1, .bad 16 16 1 65535, .bad 32 9 1 500]), 0x6403E80004⟩,
  ⟨0x98, 0x8, 1, (.rw [.near 0 10 1 720]), 0x18⟩,
  ⟨0xA0, 0x8, 1, .ro, 0x0⟩,
  ⟨0xA8, 0x8, 1, .ro, 0x0⟩,
  ⟨0xB0, 0x8, 1, .ro, 0x0⟩,
  ⟨0xC0, 0x8, 1, .token, 0x0⟩,
  ⟨0xC8, 0x8, 1, .cmd, 0x0⟩,
  ⟨0xD0, 0x8, 1, .cstat, 0x0⟩,
  ⟨0xD8, 0x8, 1, .cseq, 0x0⟩,
  ⟨0xE0, 0x8, 1, (.param [.bits 0 48]), 0x0⟩,
  ⟨0xE8, 0x8, 1, (.param [.bits 0 16, .bits 16 32]), 0x0⟩]

/-- Register map of the TIM1 page, 03_time_base.md. -/
def rows_tim1 : List Row := [
  ⟨0x40, 0x8, 1, (.rw [.bits 0 7, .bits 8 3, .bits 12 1, .bits 16 24]), 0xFD80801100⟩,
  ⟨0x48, 0x8, 1, (.rw [.bits 0 2, .bits 8 2, .bits 16 2, .bits 24 2]), 0x1010101⟩,
  ⟨0x50, 0x8, 1, (.rw [.bits 0 4]), 0x9⟩,
  ⟨0x58, 0x8, 1, .ro, 0x0⟩,
  ⟨0x60, 0x8, 1, .ro, 0x0⟩,
  ⟨0x68, 0x8, 1, .ro, 0x0⟩,
  ⟨0x70, 0x8, 1, .ro, 0x0⟩,
  ⟨0x78, 0x8, 1, .ro, 0x0⟩,
  ⟨0x80, 0x8, 1, (.rw [.bad 0 4 0 10, .bad 8 16 1 65535]), 0x3204⟩]

/-- Register map of the TIM2 page, 03_time_base.md. -/
def rows_tim2 : List Row := [
  ⟨0x40, 0x20, 2, .ro, 0x1300001680⟩,
  ⟨0x80, 0x20, 2, .ro, 0x1380001700⟩,
  ⟨0x48, 0x20, 4, (.rw [.bits 0 48]), 0x0⟩,
  ⟨0x50, 0x20, 4, (.rw [.bits 0 48]), 0x0⟩,
  ⟨0x58, 0x20, 4, .ro, 0x0⟩]

/-- Register map of the TIM3 page, 03_time_base.md. -/
def rows_tim3 : List Row := [
  ⟨0x40, 0x8, 1, (.rw [.bits 0 2, .bad 8 16 1 65535]), 0x6400⟩,
  ⟨0x48, 0x8, 1, (.rw [.bits 0 48]), 0x0⟩,
  ⟨0x50, 0x8, 1, .ro, 0x0⟩,
  ⟨0x58, 0x8, 1, .ro, 0x0⟩,
  ⟨0x60, 0x8, 1, .ro, 0x0⟩,
  ⟨0x68, 0x8, 1, (.rw [.bits 0 2, .bad 8 24 1 500000]), 0x186A003⟩,
  ⟨0x70, 0x8, 1, (.rw [.bits 0 48]), 0x0⟩]

/-- Register map of the NET0 page, 19_ethernet_ports.md. -/
def rows_net0 : List Row := [
  ⟨0x40, 0x8, 1, (.rw [.bits 0 1, .near 8 4 1 15, .near 16 12 10 4095]), 0x12C0401⟩,
  ⟨0x48, 0x8, 1, .ro, 0x0⟩,
  ⟨0x50, 0x8, 1, .ro, 0x0⟩,
  ⟨0xC0, 0x8, 1, .token, 0x0⟩,
  ⟨0xC8, 0x8, 1, .cmd, 0x0⟩,
  ⟨0xD0, 0x8, 1, .cstat, 0x0⟩,
  ⟨0xD8, 0x8, 1, .cseq, 0x0⟩]

/-- Register map of the NETP pages, 19_ethernet_ports.md. -/
def rows_netp : List Row := [
  ⟨0x40, 0x8, 1, (.rw [.bits 0 1, .bits 1 2, .bits 8 5, .near 16 16 100 10000, .near 32 8 1 255]), 0x1003E81F01⟩,
  ⟨0x48, 0x8, 1, .ro, 0x1⟩,
  ⟨0x50, 0x8, 1, .ro, 0x0⟩,
  ⟨0x58, 0x8, 1, .ro, 0x0⟩,
  ⟨0x60, 0x8, 1, .ro, 0x0⟩]

/-- Register map of the MET0 page, 04_sensor_inputs.md. -/
def rows_met0 : List Row := [
  ⟨0x40, 0x8, 16, (.rw [.bits 0 1, .bad 1 3 0 4]), 0x8⟩,
  ⟨0xC0, 0x8, 1, .ro, 0x0⟩,
  ⟨0xC8, 0x8, 1, .token, 0x0⟩,
  ⟨0xD0, 0x8, 1, .cmd, 0x0⟩,
  ⟨0xD8, 0x8, 1, .cstat, 0x0⟩,
  ⟨0xE0, 0x8, 1, .cseq, 0x0⟩]

/-- Register map of the METIN pages, 04_sensor_inputs.md. -/
def rows_metin : List Row := [
  ⟨0x40, 0x40, 32, (.rw [.bad 0 2 0 2, .bits 2 4, .bits 6 4, .bits 10 3, .bits 13 1, .bits 14 1, .bits 15 1]), 0x200⟩,
  ⟨0x48, 0x40, 32, (.rw [.bits 0 24]), 0x0⟩,
  ⟨0x50, 0x40, 32, (.rw [.bits 0 32]), 0x40000000⟩,
  ⟨0x58, 0x40, 32, (.rw [.bits 0 12]), 0x0⟩,
  ⟨0x60, 0x40, 32, (.rw [.bits 0 32, .bits 32 1]), 0x1⟩,
  ⟨0x68, 0x40, 32, (.rw [.near 0 12 32 4095, .bits 12 4, .near 16 8 1 255, .near 24 4 1 15]), 0x4642100⟩,
  ⟨0x70, 0x40, 32, .ro, 0x3⟩,
  ⟨0x78, 0x40, 32, .ro, 0x0⟩]

/-- Register map of the METMAP pages, 04_sensor_inputs.md. -/
def rows_metmap : List Row := [
  ⟨0x40, 0x10, 32, (.rw [.bits 0 9, .bits 12 9, .bits 24 9, .bits 36 9]), 0x1FF1FF1FF1FF⟩,
  ⟨0x48, 0x10, 32, (.rw [.bits 0 9, .bits 12 9, .bits 24 9, .bits 36 9]), 0x1FF1FF1FF1FF⟩]

/-- Register map of the MET11 page, 05_energy_registers.md. -/
def rows_met11 : List Row := [
  ⟨0x40, 0x8, 1, .ro, 0x0⟩,
  ⟨0x48, 0x8, 1, .ro, 0x0⟩,
  ⟨0x50, 0x8, 8, .ro, 0x0⟩,
  ⟨0x90, 0x8, 1, .ro, 0x0⟩,
  ⟨0x98, 0x8, 1, (.rw [.bits 0 2]), 0x2⟩,
  ⟨0xA0, 0x8, 1, (.rw [.near 0 10 1 900]), 0x1⟩,
  ⟨0xA8, 0x8, 1, .ro, 0x0⟩,
  ⟨0xB0, 0x8, 1, .ro, 0x0⟩,
  ⟨0xB8, 0x8, 1, .ro, 0x1⟩,
  ⟨0xC0, 0x8, 1, .token, 0x0⟩,
  ⟨0xC8, 0x8, 1, .cmd, 0x0⟩,
  ⟨0xD0, 0x8, 1, .cstat, 0x0⟩,
  ⟨0xD8, 0x8, 1, .cseq, 0x0⟩]

/-- Register map of the MET12 page, 14_supply_loss_gleaning.md. -/
def rows_met12 : List Row := [
  ⟨0x40, 0x8, 1, (.rw [.bits 0 1, .near 8 8 1 255]), 0xA00⟩,
  ⟨0x48, 0x8, 1, .ro, 0x0⟩,
  ⟨0x50, 0x8, 1, .ro, 0x0⟩,
  ⟨0x58, 0x8, 1, .ro, 0x0⟩,
  ⟨0x60, 0x8, 1, .ro, 0x0⟩,
  ⟨0x68, 0x8, 1, .ro, 0x0⟩,
  ⟨0x70, 0x8, 1, .ro, 0x0⟩,
  ⟨0x78, 0x8, 1, .ro, 0x0⟩]

/-- Register map of the METMP pages, 05_energy_registers.md. -/
def rows_metmp : List Row := [
  ⟨0x40, 0x8, 1, (.rw [.bad 0 3 0 5, .bad 4 2 0 2, .bad 8 3 0 6]), 0x300⟩,
  ⟨0x48, 0x8, 1, .ro, 0x0⟩,
  ⟨0x50, 0x8, 1, .ro, 0x0⟩,
  ⟨0x58, 0x8, 1, .ro, 0x0⟩,
  ⟨0x60, 0x8, 1, .ro, 0x0⟩,
  ⟨0x68, 0x8, 1, .ro, 0x0⟩,
  ⟨0x70, 0x8, 1, .ro, 0x0⟩,
  ⟨0x78, 0x8, 1, .ro, 0x0⟩,
  ⟨0x80, 0x8, 8, .ro, 0x0⟩,
  ⟨0xC0, 0x8, 1, .ro, 0x0⟩,
  ⟨0xC8, 0x8, 1, .ro, 0x0⟩,
  ⟨0xD0, 0x8, 1, .ro, 0x0⟩,
  ⟨0x100, 0x20, 23, .ro, 0x0⟩,
  ⟨0x108, 0x20, 23, .ro, 0x0⟩,
  ⟨0x110, 0x20, 23, .ro, 0x0⟩,
  ⟨0x118, 0x20, 23, .ro, 0x0⟩]

/-- Register map of the METHARM pages, 05_energy_registers.md. -/
def rows_metharm : List Row := [
  ⟨0x40, 0x8, 504, .ro, 0x0⟩]

/-- Register map of the BALNB page, 06_hub_balance_and_limits.md. -/
def rows_balnb : List Row := [
  ⟨0x40, 0x8, 1, (.rw [.bits 0 1, .bits 1 1, .bits 2 4]), 0x0⟩,
  ⟨0x48, 0x8, 1, (.rw [.bits 0 48]), 0x0⟩,
  ⟨0x50, 0x8, 8, (.rw [.bits 0 48]), 0x0⟩,
  ⟨0x90, 0x8, 1, .ro, 0x0⟩]

/-- Register map of the BALG pages, 06_hub_balance_and_limits.md. -/
def rows_balg : List Row := [
  ⟨0x40, 0x8, 1, (.rw [.bits 0 1, .bits 1 1, .near 8 6 1 60, .near 16 4 1 15]), 0x30100⟩,
  ⟨0x48, 0x8, 1, (.rw [.bits 0 32]), 0x0⟩,
  ⟨0x50, 0x8, 1, (.rw [.bits 0 32]), 0x0⟩,
  ⟨0x58, 0x8, 1, (.rw [.bits 0 32]), 0x0⟩,
  ⟨0x60, 0x8, 1, (.rw [.bits 0 32]), 0x0⟩,
  ⟨0x68, 0x8, 1, (.rw [.bits 0 32]), 0x0⟩,
  ⟨0x70, 0x8, 1, (.rw [.bits 0 32]), 0x0⟩,
  ⟨0x78, 0x8, 1, (.rw [.bits 0 32]), 0x0⟩,
  ⟨0x80, 0x8, 1, (.rw [.bits 0 32]), 0x0⟩,
  ⟨0x88, 0x8, 1, (.rw [.bits 0 24]), 0x0⟩,
  ⟨0x90, 0x8, 4, (.rw [.bits 0 3, .bits 3 3, .bits 6 1, .bits 7 1]), 0x0⟩,
  ⟨0xC0, 0x8, 1, .ro, 0x0⟩,
  ⟨0xC8, 0x8, 1, .ro, 0x0⟩,
  ⟨0xD0, 0x8, 1, .ro, 0x0⟩,
  ⟨0xD8, 0x8, 1, .ro, 0x0⟩,
  ⟨0xE0, 0x8, 1, .ro, 0x0⟩,
  ⟨0xE8, 0x8, 1, .ro, 0x0⟩,
  ⟨0xF0, 0x8, 1, .ro, 0x0⟩,
  ⟨0xF8, 0x8, 1, .ro, 0x0⟩,
  ⟨0x100, 0x8, 1, .ro, 0x0⟩,
  ⟨0x108, 0x8, 1, .ro, 0x0⟩]

/-- Register map of the PQ0 page, 07_power_quality.md. -/
def rows_pq0 : List Row := [
  ⟨0x40, 0x8, 1, (.rw [.bits 0 6, .bits 6 1, .near 8 4 1 15]), 0x400⟩,
  ⟨0x48, 0x8, 1, .ro, 0x0⟩,
  ⟨0x50, 0x8, 1, .ro, 0x0⟩,
  ⟨0x58, 0x8, 1, .ro, 0x0⟩]

/-- Register map of the PQMP pages, 07_power_quality.md. -/
def rows_pqmp : List Row := [
  ⟨0x40, 0x8, 1, (.rw [.bits 0 1, .bits 1 1, .bits 2 4]), 0x0⟩,
  ⟨0x48, 0x8, 1, (.rw [.bits 0 32]), 0x38270⟩,
  ⟨0x50, 0x8, 1, (.rw [.bits 0 12, .bits 12 12, .bits 24 12, .bits 36 8]), 0x1403244C384⟩,
  ⟨0x58, 0x8, 1, .ro, 0x0⟩,
  ⟨0x60, 0x8, 4, .ro, 0x0⟩,
  ⟨0x80, 0x8, 1, .ro, 0x0⟩,
  ⟨0x88, 0x8, 1, .ro, 0x0⟩,
  ⟨0x90, 0x8, 1, .ro, 0x0⟩,
  ⟨0x98, 0x8, 1, .ro, 0x0⟩,
  ⟨0xA0, 0x8, 1, .ro, 0x0⟩,
  ⟨0xA8, 0x8, 1, .ro, 0x0⟩]

/-- Register map of the PQFL pages, 07_power_quality.md. -/
def rows_pqfl : List Row := [
  ⟨0x40, 0x10, 32, (.rw [.bits 0 23, .bits 23 1, .bits 24 1, .bits 25 6]), 0x0⟩,
  ⟨0x48, 0x10, 32, .ro, 0x0⟩]

/-- Register map of the STL pages, 08_stalls_and_pilot.md. -/
def rows_stl : List Row := [
  ⟨0x40, 0x8, 1, (.rw [.bits 0 1, .bad 1 2 0 2, .bits 3 1, .bits 4 1, .bits 5 1, .bits 6 1, .bad 7 2 0 1, .bits 9 7, .near 16 8 1 255, .near 24 8 1 255, .near 32 8 1 60]), 0x50A32FE98⟩,
  ⟨0x48, 0x8, 1, (.rw [.bits 0 10, .near 10 2 1 3, .bad 12 8 6 80]), 0x204E6⟩,
  ⟨0x50, 0x8, 1, .ro, 0x0⟩,
  ⟨0x58, 0x8, 1, .ro, 0x0⟩,
  ⟨0x60, 0x8, 1, .ro, 0x0⟩,
  ⟨0x68, 0x8, 1, .ro, 0x5⟩,
  ⟨0x70, 0x8, 1, .ro, 0x7⟩,
  ⟨0x78, 0x8, 1, .ro, 0x0⟩,
  ⟨0x80, 0x8, 1, .ro, 0xFFFFFF000000⟩,
  ⟨0x88, 0x8, 1, .ro, 0x0⟩,
  ⟨0x90, 0x8, 1, .ro, 0x0⟩,
  ⟨0xC0, 0x8, 1, .token, 0x0⟩,
  ⟨0xC8, 0x8, 1, .cmd, 0x0⟩,
  ⟨0xD0, 0x8, 1, .cstat, 0x0⟩,
  ⟨0xD8, 0x8, 1, .cseq, 0x0⟩]

/-- Register map of the ALC page, 06_hub_balance_and_limits.md. -/
def rows_alc : List Row := [
  ⟨0x40, 0x8, 1, (.rw [.bits 0 6, .bits 6 1, .bits 8 8, .near 16 3 1 7, .near 20 8 1 255, .bits 28 6, .bits 34 1, .bits 35 6, .bits 41 1]), 0x558000⟩,
  ⟨0x48, 0x8, 1, .ro, 0x0⟩,
  ⟨0x50, 0x8, 1, (.rw [.bits 0 24]), 0x0⟩,
  ⟨0x58, 0x8, 1, .ro, 0x0⟩,
  ⟨0x60, 0x8, 1, .ro, 0x0⟩,
  ⟨0x68, 0x8, 1, .ro, 0x0⟩,
  ⟨0x70, 0x8, 1, .ro, 0x0⟩,
  ⟨0x78, 0x8, 1, .ro, 0x0⟩,
  ⟨0x80, 0x8, 1, .token, 0x0⟩,
  ⟨0x88, 0x8, 1, .cmd, 0x0⟩,
  ⟨0x90, 0x8, 1, .cstat, 0x0⟩,
  ⟨0x98, 0x8, 1, .cseq, 0x0⟩,
  ⟨0xA0, 0x8, 1, .ro, 0x0⟩,
  ⟨0x100, 0x8, 32, (.rw [.bits 0 3, .near 4 8 1 255, .bits 12 24]), 0x10⟩,
  ⟨0x200, 0x8, 32, (.rw [.bits 0 24]), 0xFFFFFF⟩,
  ⟨0x300, 0x8, 32, .ro, 0x0⟩]

/-- Register map of the STL33 page, 08_stalls_and_pilot.md. -/
def rows_stl33 : List Row := [
  ⟨0x40, 0x8, 1, .ro, 0x0⟩,
  ⟨0x48, 0x8, 1, .ro, 0x0⟩,
  ⟨0x50, 0x8, 1, .ro, 0x0⟩,
  ⟨0x58, 0x8, 1, .ro, 0x0⟩,
  ⟨0x60, 0x8, 1, .ro, 0x0⟩,
  ⟨0x68, 0x8, 1, .ro, 0xAAAAAAAA⟩]

/-- Register map of the VHS pages, 09_vehicle_sessions.md. -/
def rows_vhs : List Row := [
  ⟨0x40, 0x8, 1, (.rw [.bits 0 16, .bits 16 16, .bits 32 16]), 0x0⟩,
  ⟨0x48, 0x8, 1, (.rw [.bits 0 24]), 0x0⟩,
  ⟨0x50, 0x8, 1, .ro, 0x0⟩,
  ⟨0x58, 0x8, 1, .ro, 0x0⟩,
  ⟨0x60, 0x8, 1, .ro, 0x0⟩,
  ⟨0x68, 0x8, 1, .ro, 0x0⟩,
  ⟨0x70, 0x8, 1, .ro, 0x0⟩,
  ⟨0x78, 0x8, 1, .ro, 0x0⟩,
  ⟨0x80, 0x8, 1, .ro, 0x0⟩,
  ⟨0x88, 0x8, 1, .ro, 0x0⟩]

/-- Register map of the VHS32 page, 09_vehicle_sessions.md. -/
def rows_vhs32 : List Row := [
  ⟨0x40, 0x8, 1, (.rw [.bits 0 6, .bits 6 1, .bits 8 6, .bits 14 1, .near 16 8 1 55, .bits 24 2, .near 32 6 20 50, .near 38 4 1 15, .bits 42 6]), 0xC99E00320000⟩,
  ⟨0x48, 0x8, 1, (.rw [.bits 0 1, .bits 1 1, .bits 2 1, .bits 3 1, .bits 4 1, .bits 5 1]), 0x1F⟩,
  ⟨0x50, 0x8, 1, .ro, 0x0⟩,
  ⟨0x58, 0x8, 1, .ro, 0x0⟩,
  ⟨0x60, 0x8, 1, .ro, 0x0⟩,
  ⟨0x68, 0x8, 1, .ro, 0x0⟩]

/-- Register map of the DRV pages, 10_drive_outputs.md. -/
def rows_drv : List Row := [
  ⟨0x40, 0x8, 1, .ro, 0x0⟩,
  ⟨0x48, 0x8, 1, .ro, 0x0⟩,
  ⟨0x50, 0x8, 1, .ro, 0x0⟩,
  ⟨0xC0, 0x8, 1, .token, 0x0⟩,
  ⟨0xC8, 0x8, 1, .cmd, 0x0⟩,
  ⟨0xD0, 0x8, 1, .cstat, 0x0⟩,
  ⟨0xD8, 0x8, 1, .cseq, 0x0⟩,
  ⟨0x100, 0x40, 8, (.rw [.bits 2 1, .bad 3 2 0 2, .bad 5 4 0 8, .bits 9 3, .near 12 8 1 255, .near 20 8 1 100, .bits 28 1, .bits 29 1]), 0xA64680⟩,
  ⟨0x108, 0x40, 8, (.rw [.near 0 10 10 1000, .near 10 10 50 1000]), 0x64064⟩,
  ⟨0x110, 0x40, 8, (.rw [.near 0 10 0 1000, .bits 10 8]), 0xCBE8⟩,
  ⟨0x118, 0x40, 8, (.rw [.bits 0 24, .bits 24 12]), 0x0⟩,
  ⟨0x120, 0x40, 8, .ro, 0x0⟩,
  ⟨0x128, 0x40, 8, .ro, 0x0⟩,
  ⟨0x130, 0x40, 8, .ro, 0x8000⟩,
  ⟨0x138, 0x40, 8, .ro, 0x0⟩]

/-- Register map of the DRV8 page, 10_drive_outputs.md. -/
def rows_drv8 : List Row := [
  ⟨0x40, 0x8, 1, .ro, 0x0⟩,
  ⟨0x48, 0x8, 1, .ro, 0x0⟩,
  ⟨0x50, 0x8, 1, .ro, 0x0⟩,
  ⟨0x58, 0x8, 1, .ro, 0x0⟩,
  ⟨0x60, 0x8, 1, .ro, 0x0⟩]

/-- Register map of the SAF0 page, 11_safety_functions.md. -/
def rows_saf0 : List Row := [
  ⟨0x40, 0x8, 1, .ro, 0x101⟩,
  ⟨0x48, 0x8, 1, .ro, 0x0⟩,
  ⟨0x50, 0x8, 1, .ro, 0x0⟩,
  ⟨0x58, 0x8, 1, .ro, 0x0⟩,
  ⟨0x60, 0x8, 1, .ro, 0x0⟩,
  ⟨0x68, 0x8, 1, .ro, 0x0⟩,
  ⟨0xC0, 0x8, 1, .token, 0x0⟩,
  ⟨0xC8, 0x8, 1, .cmd, 0x0⟩,
  ⟨0xD0, 0x8, 1, .cstat, 0x0⟩,
  ⟨0xD8, 0x8, 1, .cseq, 0x0⟩]

/-- Register map of the SAF1 page, 11_safety_functions.md. -/
def rows_saf1 : List Row := [
  ⟨0x40, 0x8, 16, (.rw [.bits 0 32, .bits 32 1, .bits 33 1, .bits 34 1, .bits 35 8]), 0x0⟩,
  ⟨0xC0, 0x8, 8, (.rw [.bits 0 16, .bits 16 1, .near 20 8 1 255]), 0xA00000⟩,
  ⟨0x100, 0x8, 1, .ro, 0x0⟩,
  ⟨0x108, 0x8, 1, .ro, 0xFF⟩,
  ⟨0x110, 0x8, 1, .ro, 0x0⟩]

/-- Register map of the SAF2 page, 11_safety_functions.md. -/
def rows_saf2 : List Row := [
  ⟨0x40, 0x8, 1, (.rw [.near 0 9 100 500, .near 16 6 1 60]), 0xA00C8⟩,
  ⟨0x48, 0x8, 1, (.rw [.bits 0 32]), 0x0⟩,
  ⟨0x50, 0x8, 1, (.rw [.bits 0 32]), 0x0⟩,
  ⟨0x58, 0x8, 1, .ro, 0x0⟩,
  ⟨0x60, 0x8, 1, .ro, 0x0⟩,
  ⟨0x68, 0x8, 1, .ro, 0x0⟩]

/-- Register map of the SAF3 page, 11_safety_functions.md. -/
def rows_saf3 : List Row := [
  ⟨0x40, 0x8, 1, (.rw [.bits 0 1, .bits 1 1, .near 8 8 1 20, .near 16 8 4 100]), 0xA0202⟩,
  ⟨0x48, 0x8, 1, (.rw [.bits 0 48]), 0x0⟩,
  ⟨0x50, 0x10, 4, (.rw [.bits 0 48]), 0x0⟩,
  ⟨0x58, 0x10, 4, (.rw [.bits 0 15, .bits 15 1, .bits 16 1]), 0x0⟩,
  ⟨0x90, 0x8, 4, .ro, 0x0⟩,
  ⟨0xB0, 0x8, 1, .ro, 0x0⟩]

/-- Register map of the SAFST pages, 11_safety_functions.md. -/
def rows_safst : List Row := [
  ⟨0x40, 0x8, 1, (.rw [.bits 0 6, .bits 6 1, .bits 8 6, .bits 14 1, .bits 16 6, .bits 24 6, .bits 32 3, .bits 35 1, .bits 36 1, .bits 40 6, .bits 46 1]), 0x0⟩,
  ⟨0x48, 0x8, 1, (.rw [.near 0 10 10 1000, .near 10 10 10 1000, .near 20 8 1 15, .bits 28 16]), 0x140519064⟩,
  ⟨0x50, 0x8, 1, (.rw [.bits 0 16, .bits 16 16, .bits 32 8]), 0x1E01F40064⟩,
  ⟨0x58, 0x8, 1, (.rw [.bits 0 16, .bits 16 16]), 0x0⟩,
  ⟨0x60, 0x8, 1, (.rw [.bits 0 9, .bits 12 9, .bits 24 9]), 0x1FF1FF1FF⟩,
  ⟨0x68, 0x8, 1, (.rw [.bits 0 16, .bits 16 16, .bits 32 1]), 0x3C001E⟩,
  ⟨0x70, 0x8, 1, (.rw [.near 0 8 1 168, .bits 8 1]), 0x118⟩,
  ⟨0x80, 0x8, 1, .ro, 0x0⟩,
  ⟨0x88, 0x8, 1, .ro, 0x0⟩,
  ⟨0x90, 0x8, 1, .ro, 0x0⟩,
  ⟨0x98, 0x8, 1, .ro, 0x0⟩,
  ⟨0xA0, 0x8, 1, .ro, 0x0⟩,
  ⟨0xA8, 0x8, 1, .ro, 0x0⟩]

/-- Register map of the MLK0 page, 20_mains_link.md. -/
def rows_mlk0 : List Row := [
  ⟨0x40, 0x8, 1, (.rw [.bits 0 1, .near 8 8 1 60, .near 16 8 10 255, .near 24 8 1 50]), 0x53C0101⟩,
  ⟨0x48, 0x8, 1, (.rw [.bits 0 48]), 0x0⟩,
  ⟨0x50, 0x8, 1, .ro, 0x0⟩,
  ⟨0xC0, 0x8, 1, .token, 0x0⟩,
  ⟨0xC8, 0x8, 1, .cmd, 0x0⟩,
  ⟨0xD0, 0x8, 1, .cstat, 0x0⟩,
  ⟨0xD8, 0x8, 1, .cseq, 0x0⟩]

/-- Register map of the MLKP pages, 20_mains_link.md. -/
def rows_mlkp : List Row := [
  ⟨0x40, 0x8, 1, (.rw [.bits 0 1, .bits 1 1, .bad 2 2 0 2, .bad 4 2 0 2, .near 8 5 0 20]), 0x21⟩,
  ⟨0x48, 0x8, 1, .ro, 0x0⟩,
  ⟨0x50, 0x8, 1, .ro, 0x0⟩,
  ⟨0x58, 0x8, 1, .ro, 0x0⟩,
  ⟨0x60, 0x8, 1, .ro, 0x0⟩,
  ⟨0x68, 0x8, 1, .ro, 0x0⟩,
  ⟨0x100, 0x10, 16, .ro, 0x0⟩,
  ⟨0x108, 0x10, 16, .ro, 0x0⟩]

/-- Register map of the QUE pages, 12_queues.md. -/
def rows_que : List Row := [
  ⟨0x40, 0x8, 1, (.rw [.bits 0 1, .bits 1 1, .bits 2 11, .bad 13 4 0 8, .bits 17 12, .bits 29 4]), 0x140000000⟩,
  ⟨0x48, 0x8, 1, (.rw [.bits 0 18, .bits 18 18, .bits 36 1]), 0x0⟩,
  ⟨0x50, 0x8, 1, (.rw [.bits 0 18, .bits 18 16]), 0x0⟩,
  ⟨0x58, 0x8, 1, .ro, 0x0⟩,
  ⟨0x60, 0x8, 1, .ro, 0x0⟩,
  ⟨0x68, 0x8, 1, .ro, 0x0⟩,
  ⟨0x70, 0x8, 1, .ro, 0x0⟩,
  ⟨0x78, 0x8, 1, .ro, 0x0⟩,
  ⟨0x80, 0x8, 1, .ro, 0x0⟩,
  ⟨0x88, 0x8, 1, .ro, 0x0⟩,
  ⟨0xC0, 0x8, 1, .token, 0x0⟩,
  ⟨0xC8, 0x8, 1, .cmd, 0x0⟩,
  ⟨0xD0, 0x8, 1, .cstat, 0x0⟩,
  ⟨0xD8, 0x8, 1, .cseq, 0x0⟩]

/-- Register map of the QUE64 page, 12_queues.md. -/
def rows_que64 : List Row := [
  ⟨0x40, 0x8, 1, .ro, 0x0⟩,
  ⟨0x48, 0x8, 1, .ro, 0x0⟩,
  ⟨0x50, 0x8, 1, .ro, 0x0⟩,
  ⟨0x58, 0x8, 1, .ro, 0x0⟩,
  ⟨0x60, 0x8, 1, .ro, 0x0⟩]

/-- Register map of the JNL0 page, 13_granary_journal.md. -/
def rows_jnl0 : List Row := [
  ⟨0x40, 0x8, 1, .ro, 0x1⟩,
  ⟨0x48, 0x8, 1, .ro, 0x1⟩,
  ⟨0x50, 0x8, 1, .ro, 0x1⟩,
  ⟨0x58, 0x8, 1, (.rw [.bits 0 48]), 0x0⟩,
  ⟨0x60, 0x8, 1, .ro, 0x0⟩,
  ⟨0x68, 0x8, 1, .ro, 0x20⟩,
  ⟨0x70, 0x8, 1, (.rw [.bits 0 18, .near 18 18 4096 262143]), 0x100010000⟩,
  ⟨0x78, 0x8, 1, (.rw [.bits 0 18, .bits 18 16]), 0x1900100⟩,
  ⟨0x80, 0x8, 1, .view, 0x1⟩,
  ⟨0x88, 0x8, 1, .ro, 0x0⟩,
  ⟨0x90, 0x8, 1, .ro, 0x0⟩,
  ⟨0x98, 0x8, 1, .ro, 0x0⟩,
  ⟨0xA0, 0x8, 1, .ro, 0x0⟩,
  ⟨0xA8, 0x8, 1, .ro, 0x0⟩,
  ⟨0xB0, 0x8, 1, .ro, 0x0⟩,
  ⟨0xB8, 0x8, 1, .ro, 0x0⟩]

/-- Register map of the BIL0 page, 15_billing.md. -/
def rows_bil0 : List Row := [
  ⟨0x40, 0x8, 1, .ro, 0x0⟩,
  ⟨0x48, 0x8, 1, .ro, 0x0⟩,
  ⟨0x50, 0x8, 1, .ro, 0x0⟩,
  ⟨0x58, 0x8, 1, .ro, 0x0⟩,
  ⟨0x60, 0x8, 1, .ro, 0x0⟩,
  ⟨0x68, 0x8, 1, .ro, 0x0⟩,
  ⟨0x70, 0x8, 1, .ro, 0x0⟩,
  ⟨0x78, 0x8, 1, .ro, 0x0⟩,
  ⟨0x80, 0x8, 1, .ro, 0x0⟩,
  ⟨0xC0, 0x8, 1, .token, 0x0⟩,
  ⟨0xC8, 0x8, 1, .cmd, 0x0⟩,
  ⟨0xD0, 0x8, 1, .cstat, 0x0⟩,
  ⟨0xD8, 0x8, 1, .cseq, 0x0⟩]

/-- Register map of the BIL2 page, 15_billing.md. -/
def rows_bil2 : List Row := [
  ⟨0x40, 0x8, 1, .view, 0x0⟩,
  ⟨0x48, 0x8, 1, .bro, 0x0⟩,
  ⟨0x100, 0x8, 56, .bro, 0x0⟩]

/-- Register map of the BILMP pages, 15_billing.md. -/
def rows_bilmp : List Row := [
  ⟨0x40, 0x8, 1, (.rw [.bits 0 1, .bits 1 3, .bits 4 1]), 0x1⟩,
  ⟨0x48, 0x8, 1, .ro, 0x0⟩,
  ⟨0x50, 0x8, 1, .ro, 0x0⟩,
  ⟨0x58, 0x8, 1, .ro, 0x0⟩,
  ⟨0x60, 0x8, 1, .ro, 0x0⟩,
  ⟨0x68, 0x8, 1, .ro, 0x0⟩,
  ⟨0x70, 0x8, 1, .ro, 0x0⟩,
  ⟨0x80, 0x8, 8, .ro, 0x0⟩,
  ⟨0xC0, 0x8, 8, .ro, 0x0⟩]

/-- Register map of the KEY0 page, 16_key_store.md. -/
def rows_key0 : List Row := [
  ⟨0x40, 0x8, 1, .ro, 0x0⟩,
  ⟨0x48, 0x8, 1, (.rw [.bad 0 2 0 2, .bad 2 2 0 2, .bad 4 2 0 2, .bad 6 2 0 2, .near 8 8 1 255, .bits 16 1, .bits 17 1]), 0x20A00⟩,
  ⟨0x50, 0x8, 1, .ro, 0x0⟩,
  ⟨0x58, 0x8, 8, .ro, 0x0⟩,
  ⟨0x98, 0x8, 1, .ro, 0x0⟩,
  ⟨0xA0, 0x8, 1, .ro, 0x0⟩,
  ⟨0xA8, 0x8, 1, .ro, 0x0⟩,
  ⟨0xC0, 0x8, 1, .token, 0x0⟩,
  ⟨0xC8, 0x8, 1, .cmd, 0x0⟩,
  ⟨0xD0, 0x8, 1, .cstat, 0x0⟩,
  ⟨0xD8, 0x8, 1, .cseq, 0x0⟩,
  ⟨0x100, 0x8, 8, .ro, 0x0⟩,
  ⟨0x140, 0x8, 1, .ro, 0x0⟩]

/-- Register map of the KEY1 page, 16_key_store.md. The slots hold their PURPOSE, slot 6 the commissioning credential and slot 7 the
IDENTITY certificate as the module leaves the factory (R415, R434). -/
def rows_key1 : List Row := [
  ⟨0x40, 0x8, 1, .ro, 0x0⟩,
  ⟨0x200, 0x8, 1, .ro, 0x0⟩,
  ⟨0x208, 0x8, 5, .ro, 0x1000⟩,
  ⟨0x230, 0x8, 1, .ro, 0x1809⟩,
  ⟨0x238, 0x8, 1, .ro, 0x700C⟩,
  ⟨0x240, 0x8, 1, .ro, 0x2000⟩,
  ⟨0x248, 0x8, 3, .ro, 0x3000⟩,
  ⟨0x260, 0x8, 4, .ro, 0x0⟩,
  ⟨0x280, 0x8, 32, .ro, 0x4000⟩,
  ⟨0x380, 0x8, 8, .ro, 0x5000⟩,
  ⟨0x3C0, 0x8, 8, .ro, 0x6000⟩,
  ⟨0x400, 0x8, 192, .ro, 0x0⟩]

/-- Register map of the KEY2 page, 16_key_store.md. -/
def rows_key2 : List Row := [
  ⟨0x40, 0x8, 1, (.banked [.bits 0 12, .bits 16 4]), 0x0⟩,
  ⟨0x200, 0x8, 448, (.banked [.bits 0 48]), 0x0⟩]

/-- Register map of the CTL0 page, 17_contactless.md. -/
def rows_ctl0 : List Row := [
  ⟨0x40, 0x8, 1, (.rw [.bits 0 1, .bits 1 1, .bad 2 2 0 2, .bits 4 1]), 0xB⟩,
  ⟨0x48, 0x8, 1, .ro, 0x0⟩,
  ⟨0x50, 0x8, 1, .ro, 0x0⟩,
  ⟨0x58, 0x8, 1, .bro, 0x0⟩,
  ⟨0x60, 0x8, 1, .bro, 0x0⟩,
  ⟨0xC0, 0x8, 1, .token, 0x0⟩,
  ⟨0xC8, 0x8, 1, .cmd, 0x0⟩,
  ⟨0xD0, 0x8, 1, .cstat, 0x0⟩,
  ⟨0xD8, 0x8, 1, .cseq, 0x0⟩,
  ⟨0x100, 0x8, 43, (.banked [.bits 0 48]), 0x0⟩]

/-- Register map of the CTL1 page, 17_contactless.md. -/
def rows_ctl1 : List Row := [
  ⟨0x40, 0x40, 2, (.rw [.bits 0 1, .bits 1 1, .bits 2 1, .bits 3 2, .near 5 4 1 10, .near 9 10 50 1000, .bits 19 1, .bits 20 8]), 0x1915F⟩,
  ⟨0x48, 0x40, 2, .ro, 0x0⟩,
  ⟨0x50, 0x40, 2, .ro, 0x0⟩,
  ⟨0x58, 0x40, 2, .ro, 0x0⟩,
  ⟨0x60, 0x40, 2, .ro, 0x0⟩,
  ⟨0x68, 0x40, 2, .ro, 0x0⟩]

/-- Register map of the UPD0 page, 18_firmware_update.md. -/
def rows_upd0 : List Row := [
  ⟨0x40, 0x8, 1, (.param [.bits 0 32]), 0x0⟩,
  ⟨0x48, 0x8, 1, (.param [.bits 0 48]), 0x0⟩,
  ⟨0x50, 0x8, 1, (.param [.bits 0 16]), 0x0⟩,
  ⟨0x58, 0x8, 1, (.rw [.bits 0 1, .bits 1 1, .bits 2 2]), 0x0⟩,
  ⟨0x60, 0x8, 2, (.rw [.bits 0 48]), 0x0⟩,
  ⟨0x70, 0x8, 4, (.rw [.bits 0 48]), 0x0⟩,
  ⟨0x90, 0x8, 1, .ro, 0x3⟩,
  ⟨0xC0, 0x8, 1, .token, 0x0⟩,
  ⟨0xC8, 0x8, 1, .cmd, 0x0⟩,
  ⟨0xD0, 0x8, 1, .cstat, 0x0⟩,
  ⟨0xD8, 0x8, 1, .cseq, 0x0⟩]

/-- Register map of the UPDK pages, 18_firmware_update.md. -/
def rows_updk : List Row := [
  ⟨0x40, 0x8, 1, (.rw [.bits 0 1, .bits 1 1, .near 8 16 10 3600, .bits 24 1]), 0x25802⟩,
  ⟨0x48, 0x8, 1, .ro, 0x0⟩,
  ⟨0x50, 0x8, 1, .ro, 0x200000000⟩,
  ⟨0x58, 0x8, 1, .ro, 0x0⟩,
  ⟨0x60, 0x8, 1, .ro, 0x0⟩,
  ⟨0x68, 0x8, 1, .ro, 0x0⟩,
  ⟨0x70, 0x8, 1, .ro, 0x0⟩,
  ⟨0x78, 0x8, 1, .ro, 0x0⟩,
  ⟨0x80, 0x8, 1, .ro, 0x0⟩,
  ⟨0x88, 0x8, 1, .ro, 0x0⟩,
  ⟨0x100, 0x8, 11, .ro, 0x0⟩]

/-- Register map of the FLT0 page, 21_faults_and_service.md. -/
def rows_flt0 : List Row := [
  ⟨0x40, 0x8, 1, .ro, 0x0⟩,
  ⟨0x48, 0x8, 1, .ro, 0x0⟩,
  ⟨0x50, 0x8, 1, .ro, 0x0⟩,
  ⟨0x58, 0x8, 1, .ro, 0x12⟩,
  ⟨0x60, 0x8, 1, (.rw [.bits 0 1, .near 4 4 1 15]), 0x31⟩,
  ⟨0x68, 0x8, 1, .ro, 0x1⟩,
  ⟨0x70, 0x8, 1, .ro, 0x1⟩,
  ⟨0xC0, 0x8, 1, .token, 0x0⟩,
  ⟨0xC8, 0x8, 1, .cmd, 0x0⟩,
  ⟨0xD0, 0x8, 1, .cstat, 0x0⟩,
  ⟨0xD8, 0x8, 1, .cseq, 0x0⟩]

/-- Register map of the FLT1 page, 21_faults_and_service.md. -/
def rows_flt1 : List Row := [
  ⟨0x40, 0x8, 1, .ro, 0x0⟩,
  ⟨0x100, 0x8, 480, .ro, 0x0⟩]

/-- Register map of the FLT2 page, 21_faults_and_service.md. -/
def rows_flt2 : List Row := [
  ⟨0x40, 0x8, 1, .view, 0x1⟩,
  ⟨0x48, 0x8, 1, .bro, 0x0⟩,
  ⟨0x100, 0x8, 11, .bro, 0x0⟩]

/-- The register map of each kind of page. -/
def rowsOf : PageClass → List Row
  | .sys0 => rows_sys0
  | .sys1 => rows_sys1
  | .sys2 => rows_sys2
  | .sys3 => rows_sys3
  | .pwr0 => rows_pwr0
  | .tim0 => rows_tim0
  | .tim1 => rows_tim1
  | .tim2 => rows_tim2
  | .tim3 => rows_tim3
  | .net0 => rows_net0
  | .netp => rows_netp
  | .met0 => rows_met0
  | .metin => rows_metin
  | .metmap => rows_metmap
  | .met11 => rows_met11
  | .met12 => rows_met12
  | .metmp => rows_metmp
  | .metharm => rows_metharm
  | .balnb => rows_balnb
  | .balg => rows_balg
  | .pq0 => rows_pq0
  | .pqmp => rows_pqmp
  | .pqfl => rows_pqfl
  | .stl => rows_stl
  | .alc => rows_alc
  | .stl33 => rows_stl33
  | .vhs => rows_vhs
  | .vhs32 => rows_vhs32
  | .drv => rows_drv
  | .drv8 => rows_drv8
  | .saf0 => rows_saf0
  | .saf1 => rows_saf1
  | .saf2 => rows_saf2
  | .saf3 => rows_saf3
  | .safst => rows_safst
  | .mlk0 => rows_mlk0
  | .mlkp => rows_mlkp
  | .que => rows_que
  | .que64 => rows_que64
  | .jnl0 => rows_jnl0
  | .bil0 => rows_bil0
  | .bil2 => rows_bil2
  | .bilmp => rows_bilmp
  | .key0 => rows_key0
  | .key1 => rows_key1
  | .key2 => rows_key2
  | .ctl0 => rows_ctl0
  | .ctl1 => rows_ctl1
  | .upd0 => rows_upd0
  | .updk => rows_updk
  | .flt0 => rows_flt0
  | .flt1 => rows_flt1
  | .flt2 => rows_flt2

/-- The populated pages of a block (R22, R23): first page number in BAR0, how many, their kind, the INSTANCE of the first. -/
def blockTable : Nat → List (Nat × Nat × PageClass × Nat)
  | 0 => [(0, 1, .sys0, 0), (1, 1, .sys1, 0), (2, 1, .sys2, 0), (3, 1, .sys3, 0)]
  | 1 => [(256, 1, .pwr0, 0)]
  | 2 => [(512, 1, .tim0, 0), (513, 1, .tim1, 0), (514, 1, .tim2, 0), (515, 1, .tim3, 0)]
  | 3 => [(768, 1, .net0, 0), (769, 4, .netp, 0)]
  | 4 => [(1024, 1, .met0, 0), (1025, 8, .metin, 0), (1033, 2, .metmap, 0), (1035, 1, .met11, 0), (1036, 1, .met12, 0), (1040,
    64, .metmp, 0), (1104, 64, .metharm, 0), (1168, 1, .balnb, 0), (1169, 8, .balg, 0)]
  | 5 => [(1280, 1, .pq0, 0), (1281, 64, .pqmp, 0), (1345, 8, .pqfl, 0)]
  | 6 => [(1536, 32, .stl, 0), (1568, 1, .alc, 0), (1569, 1, .stl33, 0)]
  | 7 => [(1792, 32, .vhs, 0), (1824, 1, .vhs32, 0)]
  | 8 => [(2048, 8, .drv, 0), (2056, 1, .drv8, 0)]
  | 9 => [(2304, 1, .saf0, 0), (2305, 1, .saf1, 0), (2306, 1, .saf2, 0), (2307, 1, .saf3, 0), (2320, 32, .safst, 0)]
  | 10 => [(2560, 1, .mlk0, 0), (2561, 2, .mlkp, 0)]
  | 11 => [(2816, 64, .que, 0), (2880, 1, .que64, 0)]
  | 12 => [(3072, 1, .jnl0, 0)]
  | 13 => [(3328, 1, .bil0, 0), (3330, 1, .bil2, 0), (3344, 64, .bilmp, 0)]
  | 14 => [(3584, 1, .key0, 0), (3585, 1, .key1, 0), (3586, 1, .key2, 0)]
  | 15 => [(3840, 1, .ctl0, 0), (3841, 1, .ctl1, 0)]
  | 16 => [(4096, 1, .upd0, 0), (4097, 6, .updk, 1)]
  | 17 => [(4352, 1, .flt0, 0), (4353, 1, .flt1, 0), (4354, 1, .flt2, 0)]
  | _ => []

/-- Every populated page. -/
def pageTable : List (Nat × Nat × PageClass × Nat) := (List.range 18).flatMap blockTable

/-- The kind and INSTANCE of a BAR0 page number (address / 0x1000), if the page is populated. -/
def pageEntry (page : Nat) : Option (PageClass × Nat) :=
  ((blockTable (page / 256)).find? fun e => decide (e.1 ≤ page ∧ page < e.1 + e.2.1)).map fun e => (e.2.2.1, e.2.2.2 + (page - e.1))

/-- The register-map line that a page offset falls on, if any. -/
def rowAt (c : PageClass) (off : Nat) : Option Row :=
  (rowsOf c).find? fun r => decide (r.off ≤ off ∧ (off - r.off) % r.stride = 0 ∧ (off - r.off) / r.stride < r.count)

/-- The MSI-X table of SYS page 8 (R24, R53): 66 entries of 16 bytes, in 4-byte units. -/
def isMsixTable (a : Nat) : Bool := decide (0x8000 ≤ a ∧ a < 0x8000 + 66 * 16)

/-- The MSI-X pending-bit array of SYS page 9 (R24, R53). -/
def isMsixPba (a : Nat) : Bool := decide (0x9000 ≤ a ∧ a < 0x9010)

/-- Where the bank of a master begins in the keys of the slot list: BAR0 is 2^26 bytes (R22), so a key above that is
a banked copy of the slot at the key modulo 2^26. -/
def bankSpan : Nat := 0x4000000

/-- What a slot holds at reset: the register maps' reset values (R27 for the header; the map's own number otherwise;
log entries 1 and 2 for the slots whose reset value the spec does not give). A masked MSI-X vector control is the PCI
Express reset state. -/
def resetVal (key : Nat) : Word :=
  let a := key % bankSpan
  if isMsixTable a then (if a % 16 = 12 then 1 else 0)
  else if a % 0x1000 = 0x30 then 1
  else if a % 0x1000 < 0x40 then 0
  else match pageEntry (a / 0x1000) with
    | none => 0
    | some (c, _) =>
      match rowAt c (a % 0x1000) with
      | none => 0
      | some r => BitVec.ofNat 48 r.reset

/-- Rights of the roles GUEST, HOST_APP, OPERATOR, SERVICE, METROLOGY, SAFETY_ADMIN, KEY_ADMIN (R58) on a page: the
rights paragraphs R64, R78, R122, R152, R176, R194, R221, R249, R277, R314, R336, R365, R380, R402, R429, R452, R473,
R484, R503, R516, R534. The spec names no right of OPERATOR and SERVICE on the harmonics pages: read (log entry 8). -/
def rightsOf (c : PageClass) (inst : Nat) : List Nat :=
  match c with
  | .sys0 => [1, 1, 1, 2, 1, 2, 1]
  | .sys1 => [1, 1, 1, 1, 1, 1, 1]
  | .sys2 | .sys3 => [3, 3, 3, 3, 3, 3, 3]
  | .pwr0 => [0, 1, 2, 3, 1, 1, 1]
  | .tim0 | .tim1 | .tim2 | .tim3 => [1, 2, 3, 3, 1, 1, 1]
  | .net0 => [0, 1, 3, 3, 1, 3, 1]
  | .netp => if inst < 2 then [0, 1, 3, 3, 1, 3, 1] else [0, 1, 3, 3, 1, 1, 1]
  | .met0 | .metin | .metmap => [0, 1, 1, 2, 3, 1, 1]
  | .met11 => [1, 1, 3, 3, 3, 1, 1]
  | .met12 => [0, 1, 3, 3, 3, 1, 1]
  | .metmp => [0, 1, 3, 3, 3, 1, 1]
  | .metharm => [0, 1, 1, 1, 3, 1, 1]
  | .balnb | .balg => [0, 1, 3, 1, 1, 1, 1]
  | .alc => [0, 3, 3, 1, 1, 1, 1]
  | .pq0 => [0, 3, 3, 3, 1, 1, 1]
  | .pqmp => [0, 1, 3, 3, 1, 1, 1]
  | .pqfl => [0, 1, 1, 1, 1, 3, 1]
  | .stl | .stl33 => [0, 2, 3, 3, 1, 1, 1]
  | .vhs | .vhs32 => [0, 1, 3, 3, 1, 1, 1]
  | .drv | .drv8 => [0, 2, 3, 3, 1, 1, 1]
  | .saf0 | .saf1 | .saf2 | .saf3 | .safst => [0, 1, 2, 2, 1, 3, 1]
  | .mlk0 | .mlkp => [0, 1, 3, 3, 1, 1, 1]
  | .que | .que64 | .jnl0 => [0, 3, 3, 3, 1, 1, 1]
  | .bil0 => [0, 2, 3, 1, 1, 1, 1]
  | .bil2 => [0, 1, 1, 1, 1, 1, 1]
  | .bilmp => [0, 1, 3, 1, 1, 1, 1]
  | .key0 | .key2 => [0, 1, 1, 2, 1, 1, 3]
  | .key1 => [0, 1, 1, 1, 1, 1, 3]
  | .ctl0 => [0, 3, 3, 3, 1, 1, 1]
  | .ctl1 => [0, 1, 3, 3, 1, 1, 1]
  | .upd0 | .updk => [0, 2, 3, 3, 2, 2, 1]
  | .flt0 | .flt1 | .flt2 => [0, 1, 2, 3, 1, 1, 1]

/-- Rights of one role on a page: 0b00 none, 0b01 read, 0b10 read and command groups, 0b11 all (R29). -/
def rightOf (page role : Nat) : Nat :=
  match pageEntry page with
  | none => 0
  | some (c, i) => (rightsOf c i).getD role 0

/-- PUB_SRC (R29): 0 commits only, 1 periodic, 2 on hardware events, 3 MET publication rate. -/
def pubSrc : PageClass → Nat
  | .sys0 => 0
  | .drv | .drv8 | .net0 | .netp | .pwr0 => 1
  | .metin | .metmap | .metmp => 3
  | _ => 2

/-- SNAPPABLE (R29): SYS pages 2 and 3 (R64), KEY page 2 (R429) and FLT page 2 (R516) cannot join a snapshot. -/
def snappable : PageClass → Bool
  | .sys2 | .sys3 | .key2 | .flt2 => false
  | _ => true

/-- Bits of PAGE_EVT from 16 up that the chapters define on a page (R32); a bit that none defines does not exist (log entry 47). -/
def evtCount : PageClass → Nat
  | .tim0 | .vhs | .flt0 => 6
  | .net0 => 8
  | .tim1 => 3
  | .tim3 | .stl33 | .drv8 | .upd0 | .mlk0 => 2
  | .met0 | .met11 | .met12 | .alc | .pqmp | .safst | .mlkp => 4
  | .metin | .pqfl => 32
  | .metmp | .stl | .saf0 | .que | .key0 | .ctl0 | .pwr0 => 5
  | .balg | .pq0 | .bilmp | .ctl1 => 3
  | .drv => 10
  | .saf1 => 24
  | .saf2 => 1
  | .saf3 | .jnl0 => 8
  | .bil0 | .updk => 7
  | _ => 0

/-- The bits of PAGE_EVT that exist on a page (R32). -/
def evtMask (page : Nat) : Nat := 0x7F + ((pageEntry page).map fun e => (2 ^ evtCount e.1 - 1) * 2 ^ 16).getD 0

/-- HAS_CMD (R29). -/
def hasCmd (c : PageClass) : Bool := (rowsOf c).any fun r => decide (r.acc = .cmd)

/-- PAGE_ID (R28): block code, instance, layout revision 0x0001. -/
def pageIdVal (page : Nat) : Nat :=
  match pageEntry page with
  | none => 0
  | some (_, i) => (page / 256) * 2 ^ 32 + i % 2 ^ 16 * 2 ^ 16 + 1

/-- PAGE_CAP (R29). -/
def pageCapVal (page : Nat) : Nat :=
  match pageEntry page with
  | none => 0
  | some (c, i) =>
    let r := rightsOf c i
    let g (k : Nat) := r.getD k 0
    g 1 + g 2 * 2 ^ 2 + g 3 * 2 ^ 4 + g 4 * 2 ^ 6 + g 5 * 2 ^ 8 + g 6 * 2 ^ 10 + g 0 * 2 ^ 12
      + pubSrc c * 2 ^ 16 + (if snappable c then 2 ^ 19 else 0) + (if hasCmd c then 2 ^ 20 else 0)

/-- What the register map says of an address outside the page header, if a slot stands there. -/
def accessOf (a : Nat) : Option Access :=
  if a % 8 ≠ 0 then none
  else match pageEntry (a / 0x1000) with
    | none => none
    | some (c, _) => (rowAt c (a % 0x1000)).map (·.acc)

/-- Reads of the slot are open to a master that holds no read right: header slots 0x000 to 0x010, 0x030, 0x038 (R29). -/
def openHeader (off : Nat) : Bool := decide (off ≤ 0x10 ∨ off = 0x30 ∨ off = 0x38)

/-- A slot stands at this address (R23): a header slot of a populated page or a slot of its map. -/
def mapped (a : Nat) : Bool :=
  decide (a % 8 = 0) && (pageEntry (a / 0x1000)).isSome && (decide (a % 0x1000 < 0x40) || (accessOf a).isSome)

/-- One field of a write: the stored value of the field, or none where the value is MALFORMED. -/
def FieldRule.store (f : FieldRule) (old v : Nat) : Option Nat :=
  match f with
  | .bits lo w => some (setField old lo w (field v lo w))
  | .near lo w mn mx => some (setField old lo w (max mn (min mx (field v lo w))))
  | .bad lo w mn mx =>
    if mn ≤ field v lo w ∧ field v lo w ≤ mx then some (setField old lo w (field v lo w)) else none

/-- A whole slot write: writable fields take the value, reserved and read-only bits keep theirs (R7, R8). -/
def storeFields (fs : List FieldRule) (old v : Nat) : Option Nat :=
  fs.foldl (fun acc f => acc.bind fun x => f.store x v) (some old)

/-- The fields of a writable slot; a slot without a map line has none. -/
def Access.fields : Access → List FieldRule
  | .rw fs | .banked fs | .param fs => fs
  | .view | .token => [.bits 0 48]
  | _ => []

end Sys2Proof.Machine
end

