-- ==== Sys2Proof/Machine/State.lean ====
section
/-! DEFINITION. The state of the block as plain data: every register slot, every buffer and every hidden counter the spec
gives it, and the queue of waiting commands. A register's home is its slot (`slots`); what no slot shows is in `vars` or
in a field of its own. -/
namespace Sys2Proof.Machine

/-- Why a command would stop the machine. The spec gives every command an effect, so no meaning raises it. -/
inductive Fault where
  /-- Raised by no command (safe): kept because the interface asks for a fault type. -/
  | none
deriving DecidableEq, Repr

/-- Why a command would have no meaning. -/
inductive Refusal where
  /-- Raised by the dispatcher for a command without a meaning (safe): no command is left so. -/
  | notModelled (mnemonic : String)
deriving DecidableEq, Repr

/-- Hidden counters: integers indexed by a unit number, 0 where nothing was written. Times are counter values in ns
(R65); a deadline of 0 is none. The rule that gives each is named. -/
inductive Var where
  /-- n-th free value drawn (log entry 6); the model's own -/
  | free
  /-- SYS: counter of the last accepted write of a master, or of its login (R60) -/
  | lastAccepted
  /-- SYS: consecutive failed logins of a master, 2 for the field (R60, R441) -/
  | loginFails
  /-- SYS: end of the login block of a master, 2 for the field (R60, R441) -/
  | loginBlockEnd
  /-- SYS: instant at which the snapshot of a master was taken (R50) -/
  | snapAt
  /-- SYS: number of the last snapshot of the device-wide series (R52) -/
  | snapNum
  /-- SYS: counter of the last management-port frame (R63) -/
  | mgmtFrameAt
  /-- SYS: 1 while xxx_TOKEN of the group at this key is fresh (R41) -/
  | tokenFresh
  /-- 1 while the block of this code is in restart or fault, 2 from its return to its first publication (R31) -/
  | ownerFault
  /-- TIM: slew term in force, units of 2^-48 (R73) -/
  | slewTerm
  /-- TIM: parameter of the slew in force, units of 2^-16 ns -/
  | slewParam
  /-- TIM: counter from which the slew in force is reckoned on `slewAcc` -/
  | slewFrom
  /-- TIM: adjustment the slew in force had accumulated at `slewFrom`, units of 2^-16 ns (R73) -/
  | slewAcc
  /-- TIM: boundary at which the last cycle of the slew begins; 0 before it is known (R73) -/
  | slewLast
  /-- TIM: boundary at which the slew is complete; 0 before its last cycle (R73) -/
  | slewDone
  /-- TIM: instant at which VALID_LEFT reaches 0 (R81) -/
  | validEnd
  /-- TIM: consecutive updates within LOCK_NS (R79) -/
  | lockRun
  /-- TIM: consecutive updates beyond 4 x LOCK_NS (R79) -/
  | unlockRun
  /-- TIM: 1 once a measurement has been handled since power-on or INVALID (R80) -/
  | servoSeen
  /-- TIM: seconds that the next accepted PPS_IN edge takes, plus 1; 0 for none (R73) -/
  | ppsNextSec
  /-- TIM: 1 once the clock has been LOCKED since power-on (R89) -/
  | everLocked
  /-- TIM: level of PPS_OUT (R90) -/
  | ppsOut
  /-- TIM: counter at which PPS_OUT rose -/
  | ppsOutAt
  /-- TIM: saved base rate (R94) -/
  | savedRate
  /-- TIM: real-time clock as last written, ns (R94) -/
  | rtcNs
  /-- TIM: counter of that write, plus 1 (R94) -/
  | rtcAt
  /-- TIM: counter at the last base-rate save (R94) -/
  | rateSavedAt
  /-- TIM: Sync measurements of a port left for path-delay estimation only (R88) -/
  | pdOnly
  /-- TIM: 1 once a port has been UP since power-on (R88) -/
  | portWasUp
  /-- TIM: Sync messages sent by port, as master (R85) -/
  | syncSent
  /-- TIM: Announce messages sent by port, as master (R85) -/
  | announceSent
  /-- TIM: ingress stamp of the last Sync on a port, units of 2^-16 ns (R82) -/
  | syncRx
  /-- TIM: correctionField of the last Sync on a port, units of 2^-16 ns -/
  | syncCorr
  /-- TIM: master-to-slave difference of the last Sync, units of 2^-16 ns -/
  | syncDiff
  /-- TIM: UTC day number in which LEAP61 or LEAP59 was set (R77) -/
  | leapDay
  /-- TIM: event messages forwarded by the transparent clock (R86) -/
  | tcForwarded
  /-- TIM: correction held for the Follow_Up of a two-step Sync, by 8 x ingress + egress port, units of 2^-16 ns (R86) -/
  | tcHeld
  /-- TIM: port identity of the master that the clock follows, plus 1; 0 for none (R85) -/
  | ptpParent
  /-- TIM: counter of the last Sync sent on a port, plus 1 (R85) -/
  | syncAt
  /-- TIM: counter of the last Announce sent on a port, plus 1 (R85) -/
  | announceAt
  /-- TIM: a Delay_Req (1) or Pdelay_Req (2) of a port whose response is outstanding (R85) -/
  | reqOut
  /-- TIM: ingress stamp of a two-step Pdelay_Resp that waits for its Follow_Up, units of 2^-16 ns (R85) -/
  | pdRx
  /-- TIM: egress stamp of the Pdelay_Req it answers -/
  | pdTx
  /-- TIM: its requestReceiptTimestamp -/
  | pdReceipt
  /-- TIM: its correctionField -/
  | pdCorr
  /-- TIM: source of a measurement that the servo has not handled yet: 1 PTP, 2 PPS_IN (R80) -/
  | measNew
  /-- TIM: that measurement, units of 2^-16 ns -/
  | measOff
  /-- TIM: the measurement handled before it, and the counter of its handling -/
  | measPrev
  | measAt
  /-- TIM: 1 while the servo loop runs on from its last update (R80) -/
  | loopOn
  /-- TIM: counter of the last accepted PPS_IN edge or of the enabling, plus 1 (R91) -/
  | ppsRef
  /-- TIM: expected PPS_IN edges counted missing since then (R91) -/
  | ppsMiss
  /-- TIM: displacement of the modulator grid of a FREQ when its steering began, units of 2^-16 ns (R93) -/
  | gridFromAdj
  /-- TIM: displacement that its steering ends at -/
  | gridToAdj
  /-- TIM: time without steps and slews at which its steering began, units of 2^-16 ns -/
  | gridSteerAt
  /-- SAF: 1 while feedback input FBi reads closed, as a broken wire does; 0 while it reads open (R296) -/
  | fb
  /-- SAF: counter of the last change of FBi -/
  | fbSince
  /-- SAF: highest mean magnitude of a stall's power-carrying currents in the last feed record, 0.1 A (R291) -/
  | feedI
  /-- SAF: counter at which the enables of a stall were last given (R296), plus 1 -/
  | closeAt
  /-- SAF: counter at which the enables of a stall were last withdrawn (R296), plus 1 -/
  | openAt
  /-- SAF: 1 while a normal open request of a stall waits for its current to fall (R297) -/
  | openReq
  /-- SAF: counter at which the last source of TRIP_OUT j went, plus 1 (R290) -/
  | toutGone
  /-- SAF: counter of the last presence of a source of a stall's trip; stall 32 is the common safe state (R305) -/
  | quiet
  /-- SAF: dark pulse on an output: 1 by channel X, 2 by channel Y (R298) -/
  | pulse
  /-- DRV: counter of the last off-to-on transition of an output (R267) -/
  | pullStart
  /-- DRV: 1 once PULL_MS of the on period of an output is over (R267) -/
  | pullDone
  /-- FLT: transitions of a fault counted and not logged since its last entry, index 65536 x code + instance (R509) -/
  | faultSuppr
  /-- FLT: first LOG_NUM since the last power-on (R509) -/
  | logFloor
  /-- JNL: general records stored, at most 1 015 808 (R355) -/
  | genStored
  /-- JNL: unacknowledged reserve records (R357) -/
  | resUsed
  /-- JNL: highest number drained to MRAM (R342) -/
  | drained
  /-- JNL: 1 once RECORDS_PENDING was raised since JNL_ACK last moved (R354) -/
  | notified
  /-- JNL: counter at which the oldest record above JNL_ACK became durable, plus 1 (R354) -/
  | oldestAt
  /-- JNL: records suppressed since EXHAUSTED was entered (R356) -/
  | suppressedN
  /-- JNL: corrected time of the first suppressed record, units of 2^-16 ns -/
  | supprFirst
  /-- JNL: corrected time of the last -/
  | supprLast
  /-- GLN: 1 from a supply-loss commit to the end of gleaning (R370, R375) -/
  | gleaning
  /-- JNL: counter at which EXHAUSTED was left or the granary error was repaired, plus 1 (R304) -/
  | granaryClear
  /-- TIM: delay requests and responses sent by port (R85) -/
  | delaySent
  /-- TIM: egress stamp of the last Sync sent on a port, units of 2^-16 ns (R82) -/
  | syncTx
  /-- STL: pilot duty wanted by R206, 0.1 %; 0 for state F -/
  | dutyWant
  /-- STL: counter of the boundary that set it (R205) -/
  | dutyAt
  /-- STL: class last accepted, 0 to 4 A to E, 6 INVALID, plus 1; 0 for none since state F ended (R209) -/
  | pilotAcc
  /-- STL: counter of that acceptance -/
  | pilotAt
  /-- STL: counter of the entry into PAUSED (R211) -/
  | pausedAt
  /-- STL: counter at which the excess of R211 began or its count restarted, plus 1 -/
  | excessAt
  /-- STL: a proof of R199 is awaited: 1 for IDLE from DISABLED, 2 from OUT_OF_SERVICE, 3 from SAFE, 4 from ENDING or FINISHED -/
  | proofWait
  /-- STL: front ends that do not report healthy: bit 0 pilot, 1 proximity, 2 modem (R202) -/
  | frontBad
  /-- STL: 1 once a grant committed since entry into PREPARING (R207) -/
  | granted
  /-- STL: number of the 10 ms grid instant of the last change of INS_SWn, plus 1; 0 before the first (R214) -/
  | insK
  /-- STL: 1 while a cable check runs (R214) -/
  | cableChk
  /-- STL: counter at which the VEHICLE cause was raised, plus 1 (R209) -/
  | vehAt
  /-- ALC: mean power of LIMIT_MP over the last 10 ms window, W (R166) -/
  | pg10
  /-- STL: counter at which the enables go after pilot B, plus 1 (R209) -/
  | bWithdraw
  /-- VHS: end of the deadline of the decision sheaf, plus 1 (R244) -/
  | decEnd
  /-- VHS: CERT_RESULT of the session (R242) -/
  | certResult
  /-- VHS: end of the link attempt, plus 1 (R228) -/
  | slacEnd
  /-- VHS: 1 while a CM_SLAC_PARAM.REQ was accepted in the running attempt (R228) -/
  | slacTried
  /-- VHS: end of the wait for an SDP request, plus 1 (R232) -/
  | sdpEnd
  /-- VHS: counter of the last request of the session, plus 1 (R247) -/
  | lastReq
  /-- STL: counter of the entry into CONNECTED (R228, R229) -/
  | connectedAt
  /-- VHS: counter of the OFF, TAKE_OUT or over-draw whose STOP_GRACE runs, plus 1 (R241) -/
  | stopAt
  /-- DRV: th of the wire model of an output, plus 1; 0 for half of the trip level (R262, R264) -/
  | fuseTh
  /-- DRV: end of CLAMP_HOT of an output (R266) -/
  | clampEnd
  /-- DRV: earliest instant of the pending retry of an output, plus 1 (R270) -/
  | retryAt
  /-- DRV: counter since which an output has conducted without a SHORT (R270) -/
  | conductFrom
  /-- SAF: 1 while a readback fault of an output awaits REENABLE (R296, R305) -/
  | driveFault
  /-- DRV: millisecond of the counter that the squared currents are summed over (R258) -/
  | sqMs
  /-- DRV: sum of squared currents of an output in that millisecond, mA² -/
  | sqSum
  /-- DRV: number of measurements in it -/
  | sqN
  /-- DRV: mean square current of an output over the last 1 ms, mA² -/
  | sqMean
  /-- DRV: counter of the last shedding step of a bank, plus 1 (R257) -/
  | shedAt
  /-- SAF: number of the 10 ms grid instant that opened the half-period of INS_SWn just ended, plus 1, while the feed record of its last
  block is awaited; 0 else (R293) -/
  | isoPrev
  /-- STL: counter of the last entry into IDLE (R301) -/
  | idleAt
  /-- SAF: 1 while the filtered pin of trip input k is asserted (R288) -/
  | tinFilt
  /-- SAF: counter of the last change of pin k -/
  | tinPinAt
  /-- SAF: peers that deliver bit k asserted, one bit each (R288, R310) -/
  | tinLink
  /-- SAF: 1 while a peer's bit 15 holds the common safe state (R310) -/
  | linkCommon
  /-- SAF: counter at which the channels' verdicts began to differ, plus 1 (R285) -/
  | disagreeAt
  /-- SAF: counter since which the channels have agreed (R305) -/
  | agreeFrom
  /-- SAF: sequence number of the last feed record (R291) -/
  | feedSeq
  /-- SAF: counter of the last feed record in sequence, plus 1; 0 for none -/
  | feedAt
  /-- SAF: counter since which the feed has run without a loss, plus 1; 0 while lost -/
  | feedFrom
  /-- SAF: counter at which FAST_PATH_DOWN rose, plus 1 (R190) -/
  | fastDownAt
  /-- SAF: counter since which the fast path is present (R304) -/
  | fastFrom
  /-- SAF: consecutive feed blocks of condition k of a stall, index 5 x stall + k (R294) -/
  | rcCount
  /-- SAF: sum of ISO_P_IN over the half-period of INS_SWn in progress (R293) -/
  | isoSumP
  /-- SAF: sum of ISO_N_IN over it -/
  | isoSumN
  /-- SAF: feed blocks in it -/
  | isoN
  /-- SAF: 1 when the half-period holds a value that is not GOOD -/
  | isoVoid
  /-- SAF: ISO_P_IN summed over the last low half-period -/
  | isoLowP
  /-- SAF: ISO_N_IN summed over it -/
  | isoLowN
  /-- SAF: feed blocks of the last low half-period; 0 for none that counts -/
  | isoLowCnt
  /-- SAF: 1 once every mapped feedback read closed after a close (R296) -/
  | closeDone
  /-- SAF: 1 once the stall was confirmed open after the last withdrawal (R374) -/
  | confirmed
  /-- SAF: highest CAUSE_SEQ acted on for a stall and request kind, index 2 x stall + kind, 0 close, 1 open (R359) -/
  | causeSeq
  /-- SAF: 1 while the dark pulse of an output is postponed (R299) -/
  | pulseWait
  /-- SAF: counter at which the last proof test of a stall passed (R301) -/
  | proofBase
  /-- PWR: counter at which REFCLK returned, plus 1; 0 where it is lost since the cause was raised (R304) -/
  | refclkOk
  /-- PWR: 1 while REFCLK is declared lost (R525) -/
  | refclkLost
  /-- PWR: rails out of their windows, one bit each (R523) -/
  | railBad
  /-- PWR: counter at which the last rail recovered, plus 1 (R304) -/
  | railClear
  /-- JNL: 1 while an uncorrectable error or a mismatch is unrepaired (R361, R362) -/
  | granaryBad
  /-- SAF: SEQ of the next safety-link frame (R309) -/
  | slSeq
  /-- SAF: transmit period last served, plus 1 (R307) -/
  | slTxAt
  /-- SAF: last accepted SEQ of a peer, plus 1; 0 for no reference (R309) -/
  | slRef
  /-- SAF: counter of a peer's last accepted SEQ, or since which one is awaited (R310) -/
  | slAccAt
  /-- SAF: consecutive accepted SEQ of a peer (R310) -/
  | slRun
  /-- SAF: counter of the last valid copy of a peer on a path, index 2 x peer + path (R308) -/
  | slPathAt
  /-- SAF: consecutive valid copies of a peer on a path (R310) -/
  | slPathRun
  /-- SAF: 1 while a path of a peer is lost (R308) -/
  | slPathLost
  /-- SAF: 1 from a peer's watchdog expiry until it is UP again (R310) -/
  | slExpired
  /-- SAF: bits a peer's copies last delivered asserted (R308, R310) -/
  | slBits
  /-- TIM: counter of a step of corrected time, plus 1, by the number of the step modulo 16 (R185) -/
  | stepAt
  /-- TIM: steps and completed slews of corrected time since power-on, units of 2^-16 ns (R93, R137) -/
  | gridShift
  /-- MET: index of the last main-path sample of an input, plus 1 (R106) -/
  | inN
  /-- MET: last calibrated main-path sample of an input (R108) -/
  | inY
  /-- MET: counter of an input's first valid bit since its start, restart or re-lock, plus 1; 0 before it (R105) -/
  | inFrom
  /-- MET: counter at which the qualification of an input began (R117) -/
  | inQual
  /-- MET: 1 while an input qualifies after READMIT (R118) -/
  | inReadmit
  /-- MET: largest fast-path magnitude of an input since the last publication (R125) -/
  | inPeak
  /-- MET: 1 when a fast sample of an input was clamped since the last publication (R125) -/
  | inFsat
  /-- MET: next publication instant, grid ns, plus 1 (R145) -/
  | pubT
  /-- MET: publication period in force, ns; 0 until metering begins (R145) -/
  | pubNs
  /-- MET: 1 from a publication to the boundary that shows it (R145) -/
  | metPub
  /-- MET: counter at which the last save began, plus 1; 0 since power-on (R146) -/
  | saveAt
  /-- MET: 1 while SAVE_NOW waits for the next publication instant (R146) -/
  | saveWant
  /-- MET: number of the newest save or capture (R146, R373) -/
  | saveNum
  /-- MET: RATE latched for the whole second that the next publication instant is, plus 1; 0 for none (R145) -/
  | metRate
  /-- MET: index of the last main-path sample of a FREQ, plus 1 (R133) -/
  | gridN
  /-- MET: base time of the end of its window, units of 2^-16 ns (R133) -/
  | gridB
  /-- MET: its interval D[n] (R133) -/
  | gridD
  /-- MET: grid ns at which TYPE or SETTLE of a metering point was committed, plus 1 (R150) -/
  | mpFrom
  /-- MET: grid ns at which the map of a metering point was committed, plus 1 (R113) -/
  | mapAt
  /-- MET: 1 from the end of a 200 ms window of a metering point to the boundary (R211) -/
  | winDone
  /-- MET: 1 from a power-on to the first sample of a metering point that is not a gap (R147) -/
  | accWait
  /-- BIL: billing time, units of 2^-16 ns (R384) -/
  | bt
  /-- PQ: stamp, grid ns, at which the half-cycle of a metering point began, plus 1; 0 before its first boundary (R180) -/
  | hcFrom
  /-- PQ: counter value of that boundary (R185) -/
  | hcFromC
  /-- PQ: stamp, grid ns, from which the first boundary of a metering point is sought, plus 1 (R193) -/
  | hcSince
  /-- PQ: half-cycles of a metering point (R196) -/
  | hcCount
  /-- PQ: counter of the end of its last half-cycle that is valid on a selected channel (R188) -/
  | hcValidEnd
  /-- PQ: counter since which a selected channel has only invalid half-cycles, plus 1, index 4 x point + channel (R188) -/
  | hcInvFrom
  /-- PQ: detector k of a metering point, index 3 x point + k, or 192 + input for PEAK: 0 closed, 1 open, 2 open and suppressed (R187) -/
  | pqOpen
  /-- PQ: counter of the start of the open event of that detector -/
  | pqStart
  /-- PQ: extreme of the open event -/
  | pqExt
  /-- PQ: channel of that extreme -/
  | pqCh
  /-- PQ: 1 once an interruption opened within the open sag of a metering point (R184) -/
  | pqInt
  /-- PQ: index of the last fast-path sample of an input, plus 1 (R106) -/
  | pkM
  /-- PQ: 1 from the first exceeding fast sample to its over-current decision (R190) -/
  | ocDue
  /-- PQ: consecutive fast samples of an input below the clear level (R189) -/
  | pkRun
  /-- PQ: stamp of the first of them -/
  | pkFirst
  /-- PQ: stamp of the last valid fast sample of an input -/
  | pkLast
  /-- BAL: number of the last tick evaluated, plus 1 (R159) -/
  | balTick
  /-- BAL: grid ns at which a restart or supply loss last broke the periods, plus 1 (R163) -/
  | balBreakAt
  /-- BAL: grid ns at which metering resumed after the last power-on, plus 1 (R163) -/
  | balFrom
  /-- BAL: consecutive complete periods of a group out of bound HIGH (R162) -/
  | balHigh
  /-- BAL: consecutive complete periods out of bound LOW -/
  | balLow
  /-- BAL: consecutive complete periods within bound -/
  | balIn
  /-- ALC: number of the last allocation instant, plus 1 (R166) -/
  | alcAt
  /-- ALC: number of the last instant evaluated, plus 1 (R166) -/
  | alcRan
  /-- ALC: grid ns of the instant whose grants are to be committed, plus 1 (R166) -/
  | alcDue
  /-- ALC: grant of a stall at that instant, W -/
  | alcNew
  /-- ALC: state of a stall in force: 0 no demand, 1 full, 2 part, 3 HELD, 4 hard-paused (R174) -/
  | alcState
  /-- ALC: state of a stall at that instant -/
  | alcNewState
  /-- ALC: 1 when the stall held a counted demand at that instant -/
  | alcWasCounted
  /-- ALC: DEMAND_W of a stall at that instant -/
  | alcDemand
  /-- ALC: over count (R171) -/
  | alcOver
  /-- ALC: grid ns since which Pg100 is at or below LIMIT_W less a hard-paused stall's MIN_W, plus 1 (R172) -/
  | alcOkFrom
  /-- ALC: grid ns of the last automatic return, plus 1 (R172) -/
  | alcBackAt
  /-- ALC: effective time of the last limit item, seconds x 2^32 + ns, plus 1 (R173) -/
  | alcItemT
  /-- GLN: counter of the last cancelled pre-capture, plus 1 (R369) -/
  | preCancelAt
  /-- GLN: number of the last 1 ms grid instant captured, plus 1 (R374) -/
  | capAt
  /-- GLN: counter of the last commit, plus 1 (R368) -/
  | glnAt
  /-- GLN: how the last outage ended: 0 none, 1 GLEAN_COMPLETE written, 2 not (R375, R377) -/
  | glnEnd
  /-- GLN: 1 while a stall awaits its first proof after an outage (R376) -/
  | glnWait
  /-- GLN: bound added for a stall at the last recovery, µJ (R376) -/
  | glnBound
  /-- PWR: 1 from the end of gleaning to the next power-on (R375) -/
  | powerOff
  /-- BIL: counter at which BT last had the value kept, while TIME_VALID is 0 (R384) -/
  | btAt
  /-- BIL: 0 BT runs on the counter, 1 BT follows W, 2 BT is held (R384) -/
  | btMode
  /-- BIL: offset that W was last formed with (R384) -/
  | btOfs
  /-- BIL: rate that W was last formed with -/
  | btRate
  /-- BIL: UTC offset that W was last formed with -/
  | btUtc
  /-- BIL: W seconds at the start of the hold (R400) -/
  | btHoldW
  /-- BIL: 1 while SIGN_READING waits for the publication instant of a metering point (R396) -/
  | rdgWant
  /-- JNL: 1 while records that waited through a granary restart are numbered (R362) -/
  | replay
  /-- FLT: counter of a partition's last supervision signal, plus 1 (R245) -/
  | supAt
  /-- FLT: counter of a partition's first counted failure, plus 1 (R511) -/
  | partFirst
  /-- FLT: counter at which the second partition stopped serving, plus 1 (R513) -/
  | noServeAt
  /-- FLT: counter at which the takeover in progress began, plus 1 (R245) -/
  | toAt
  /-- VHS: message index of the last step answered Ongoing, plus 1 (R235) -/
  | vhsOngoing
  /-- KEY: uses of the derived-key cache so far (R414) -/
  | keyUse
  /-- KEY: bytes of the certificate in a stored slot (R416) -/
  | keyLen
  /-- KEY: number of the free value that a slot holds, plus 1; index 256 for the signature of the meter-key certificate (R410, R415) -/
  | keyMat
  /-- KEY: 1 when a tamper event in dormancy has destroyed the seed (R424) -/
  | keyDormant
  /-- CTL: UID of the tag in the field (R435) -/
  | fieldUid
  /-- CTL: number of the free value that is the challenge of the field, plus 1; 0 for none (R441) -/
  | fieldChal
  /-- CTL: counter of the last field command (R442) -/
  | fieldLast
  /-- CTL: WTXM of the last S(WTX) (R440) -/
  | fieldWtxm
  /-- CTL: consecutive polls of a channel with an antenna current out of range (R450) -/
  | antBad
  /-- MLK: counter of one of the last four rising crossings of ZXz, plus 1, index 4 x z + age (R489) -/
  | zxAt
  /-- MLK: counter since which an input without a crossing is watched (R489) -/
  | zxFrom
  /-- MLK: number of the BCN_PERIOD multiple last served on a port, plus 1 (R497) -/
  | bcnK
  /-- MLK: LSEQ of the last frame sent on a port (R491) -/
  | mlkSeq
  /-- MLK: counter of a port's entry into DRIVER_OFF (R490) -/
  | mlkOffAt
  /-- MLK: counter of a neighbour's last beacon, index 16 x port + entry (R500) -/
  | nbAt
  /-- MLK: class of its last observation, 3 none (R499) -/
  | nbClass
  /-- NET: counter at which the wire of a port is free (R478) -/
  | ethFree
  /-- NET: counter at which a port entered QUALIFYING (R480) -/
  | netQualAt
  /-- UPD: expiry of an offer by kind, BT seconds (R462) -/
  | updExp
  /-- UPD: counter at which a counted trial ends, plus 1; 0 while not counting (R462) -/
  | updTrialEnd
  /-- UPD: serial number of the relaying device of an offer (R472) -/
  | updSrc
  /-- UPD: sections of the CONFIG image applied, one bit each (R467) -/
  | updSect
  /-- UPD: kinds whose activation or fallback acts after the boundary, one bit each (R465, R469) -/
  | updAfter
  /-- UPD: stall engines that still run the former PERIPHERAL microcode (R465) -/
  | updEng
  /-- UPD: partitions still to restart onto the RESIDENT image to run, one bit each (R465, R469) -/
  | updStep
  /-- UPD: configuration format in force, less 1 (R464) -/
  | cfgFormat
  /-- UPD: IMAGE_ID of the image of a kind that is relayed (R471) -/
  | relayImage
  /-- UPD: counter of the last OFFER sent or NEED received, plus 1; 0 once done; index 4 x kind + downstream device (R471) -/
  | relayAt
  /-- UPD: bales of the open offer stored from the relay chain, by kind (R471) -/
  | relayN
  /-- PWR: device reset in progress (R529): 0 none, 1 RESET_N low at step 3, 2 DEVICE_RESET waits for its release -/
  | devReset
  /-- PWR: counter of the last release of a device reset, plus 1; release instant of one in progress by command (R529) -/
  | devAt
  /-- PWR: 1 while RESET_N is low (R528) -/
  | resetNLow
  /-- PWR: what ended the last run: 1 VIN, 2 a rail (R523) -/
  | offCause
  /-- PWR: 1 when RTC_LOST is latched for the next power-on (R533) -/
  | rtcDead
  /-- PWR: counter that the PWR_START slots are measured from (R535) -/
  | startAt
  /-- SYS: 1 when the boundary in progress commits DEVICE_RESET (R528) -/
  | resetWant
  /-- SYS: 1 when the boundary in progress accepted a TAKE of a master (R48) -/
  | takeWant
  /-- SYS: challenges drawn for a master so far (R61) -/
  | chal
  /-- TIM: low bits of the page epoch at the last time capture of a master (R70) -/
  | capTag
  /-- VHS: counter of the oldest response without an acknowledgement, plus 1 (R247) -/
  | tcpAt
  /-- VHS: CM_SLAC_PARAM.REQs accepted after a failed attempt (R228) -/
  | slacRetry
  /-- sum of the currents of an output since the last update of its wire model, mA (R262) -/
  | fuSum
  /-- measurements in that sum -/
  | fuN
  /-- number + 1 of the 100 µs in which an output's wire model was last updated (R262) -/
  | fuBlk
  /-- sum of the currents of an output in the 10 ms under way, mA (R257) -/
  | shSum
  /-- measurements in that sum -/
  | shN
  /-- number of the 10 ms under way (R257) -/
  | shBlk
  /-- bank b, block k modulo 10 at index 10 b + k: mean bank current of a 10 ms, mA (R257) -/
  | shRing
  /-- counter + 1 since when a conducting output has carried less than 10 mA; 0 if it does not (R261) -/
  | lowFrom
  /-- bank b, condition i at index 8 b + i (0 UV, 1 LOW, 2 HIGH, 3 OV, 4 REVERSE): counter + 1 since when the means of VAUX lie on the other side of its release level (R256) -/
  | vauxOk
  /-- mean VAUX of a bank over the last 1 ms, mV (R256) -/
  | vauxMv
  /-- 1 for the rest of the on period in which an output set NO_FW (R267) -/
  | noFw
  /-- counter at which a dark pulse began (R298) -/
  | pulseAt
  /-- number of the test period of an output's last dark pulse due, + 1 (R298, R299) -/
  | pulsePer
  /-- 1 from RELEASE_OUT to the dark pulse 1 s after the output next conducts (R300) -/
  | rePulse
  /-- number + 1 of the step of a stall's proof test in progress: 8 x contactor + 4 x cycle + step (R301) -/
  | prfStep
  /-- counter at which that step began -/
  | prfAt
  /-- input i, block parity p at index 2 i + p: number + 1 of the 10 ms block of the grid that the sums below hold (R291) -/
  | feedIn
  /-- main-path samples in that block -/
  | feedN
  /-- their sum, calibrated LSB -/
  | feedSum
  /-- sum of their magnitudes -/
  | feedAbs
  /-- sum of their squares -/
  | feedSq
  /-- 1 if a sample of the block was not GOOD -/
  | feedBad
  /-- number + 1 of the last 10 ms block that the safety channels evaluated (R291) -/
  | feedBlk
  /-- number of the RECOVERED record of this power-on (R345, R354) -/
  | firstSeq
  /-- counter + 1 at which a stall was confirmed open (R373, R374) -/
  | confAt
  /-- duration of the last outage, ns; 0 where the real-time clock was lost (R376) -/
  | glnOut
  /-- BIL: grid instant + 1, ns, of the first sample since a power-on, until an interval begins with it (R393) -/
  | demFrom
  /-- BIL: ACT_IMP before that sample, µJ -/
  | demAcc
  /-- BIL: counter at the loading of the pending calendar (R391) -/
  | calLoadAt
  /-- KEY: generation of an ephemeral slot (R411, R421) -/
  | ephGen
  /-- KEY: SVN + 1 whose rewrapping is under way, 0 none (R409) -/
  | rewrapSvn
  /-- CTL: 1 when a channel polls Type B next (R446) -/
  | pollB
  /-- CTL: counter at ANT_FAULT or the last retry of a channel (R450) -/
  | antAt
deriving DecidableEq, Repr

/-- A write of a master on its way to the boundary (R44). -/
structure Write where
  m : Master
  addr : Nat
  /-- bytes of the access -/
  width : Nat
  guard : Nat
  value : Nat
  /-- verdict of the check over key material that the write starts (a login signature, an import blob) -/
  verdict : Bool
  /-- it came in a frame of the management port, which waits for its status (R55) -/
  frame : Bool
  /-- bytes from the slot's address to the access's, for the address that SYS_MST_ERR shows (R63) -/
  low : Nat
deriving DecidableEq, Repr

/-- A register read that waits for the boundary (R36): address and bytes. -/
structure ReadReq where
  m : Master
  addr : Nat
  len : Nat
deriving DecidableEq, Repr

/-- An offset and rate of corrected time that are no longer in force, and the boundary at which they were replaced (R69). -/
structure ClockSet where
  until_ : Nat
  offset : Int
  rate : Int
  /-- the base rate in it (R185) -/
  base : Int
deriving DecidableEq, Repr

/-- A change of corrected time that the hardware makes at the next boundary (R68, R75, R76). -/
inductive ClockChange where
  /-- a new base rate -/
  | base (r : Int)
  /-- a slew term and the adjustment at which it ends; 0 ends the slew in force -/
  | slew (term param : Int)
  /-- a step; `servo` when the servo makes it -/
  | step (d : Int) (servo : Bool)
  /-- the announced leap second -/
  | leap
deriving DecidableEq, Repr

/-- A foreign master as the announces of a port show it (R85). -/
structure Foreign where
  port : Nat
  /-- sourcePortIdentity -/
  sender : Nat
  prio1 : Nat
  /-- clockClass, clockAccuracy and offsetScaledLogVariance, 32 bits -/
  quality : Nat
  prio2 : Nat
  /-- grandmaster clockIdentity -/
  gm : Nat
  steps : Nat
  /-- counter of its last announce -/
  last : Nat
  /-- counter of the one before, plus 1; 0 for none -/
  before : Nat
deriving DecidableEq, Repr

/-- A PTP message that the ordinary clock sends (R82, R85): its stamp or the time it carries, units of 2^-16 ns. -/
structure PtpOut where
  port : Nat
  kind : PtpKind
  stamp : Int
  correction : Int
deriving DecidableEq, Repr

/-- A message as the transparent clock forwards it (R86). -/
structure TcOut where
  egress : Nat
  kind : PtpKind
  twoStep : Bool
  correction : Int
  /-- originTimestamp and correction of a Follow_Up that the device sends for it -/
  followUp : Option (Int × Int)
deriving DecidableEq, Repr

/-- A snapshot a master holds (R48): the frozen pages and the frozen values of their slots that differ from reset. -/
structure Snapshot where
  pages : List Nat
  copy : List (Nat × Word)
deriving DecidableEq, Repr

/-- A journal record (R345). -/
structure Record where
  seq : Nat
  cls : Nat
  code : Nat
  counter : Nat
  tSec : Nat
  tNs : Nat
  source : Nat
  flags : Nat
  inst : Nat
  actor : Nat
  parts : Nat
  payload : Nat
  prev : Nat
  check : Nat
deriving DecidableEq, Repr

/-- When and how a record was submitted (R345): counter value, corrected time in units of 2^-16 ns, FLAGS. -/
structure Stamp where
  counter : Nat
  time : Int
  flags : Nat
deriving DecidableEq, Repr

/-- A submitted record that waits unnumbered, with the counter of its event (R363, R364). -/
structure Waiting where
  sub : Submission
  stamp : Stamp
deriving DecidableEq, Repr

/-- A code held on a tripped stall, with the input, output or peer concerned and the instant (R303). -/
structure Trip where
  stall : Nat
  code : Nat
  detail : Nat
  at_ : Nat
deriving DecidableEq, Repr

/-- A cause of the common safe state in force (R304). -/
structure Common where
  cause : Nat
  detail : Nat
  at_ : Nat
deriving DecidableEq, Repr

/-- What waits for the STL's next application of transitions (R201), by the step that takes it. -/
inductive Trig where
  /-- step 1: entry into SAFE with a cause of R202 -/
  | safe (cause : Nat)
  /-- step 2: a pilot class accepted, 0 to 4 for A to E, 6 INVALID (R209) -/
  | pilot (cls : Nat)
  /-- step 2: a proximity code accepted in a session mode that differs from the code before (R213) -/
  | ppChanged
  /-- step 2: the contactors reported closed or open (R200) -/
  | contactors
  /-- step 2: the idle proof of R199 has ended -/
  | proof (held : Bool)
  /-- step 3: end of the session with an END_CAUSE of R397 -/
  | endSession (cause : Nat)
  /-- step 3: EN written 0 or 1 (R200) -/
  | enable (on : Bool)
  /-- step 3: the command OFF -/
  | off
  /-- step 3: the command TAKE_OUT -/
  | takeOut
  /-- step 4: a pause cause raised: 0 COMMAND, 1 HARD, 2 VEHICLE, 3 ALLOCATOR (R218) -/
  | pause (cause : Nat)
  /-- step 5: the command LIMIT -/
  | limit (w : Nat)
  /-- step 6: the command ON -/
  | on (authRef : Nat)
  /-- step 6: an authorisation by the leading partition (R244) -/
  | authorise
  /-- step 6: a pause cause lifted -/
  | lift (cause : Nat)
  /-- step 6: the command RETURN, or the return the leading partition requests (R202) -/
  | return_
  /-- step 7: the leading partition reports that power delivery has started -/
  | delivery
  /-- step 7: the session record is written (R200) -/
  | closed
deriving DecidableEq, Repr

/-- A fault now active (R508, R519). -/
structure ActiveFault where
  code : Nat
  inst : Nat
  /-- 0 redundancy, 1 stall, 2 common -/
  scope : Nat
  /-- the stalls it names (R517) -/
  stalls : Nat
deriving DecidableEq, Repr

/-- A fault entry or exit on its way to the table and the log (R508). -/
structure FaultEvent where
  code : Nat
  inst : Nat
  scope : Nat
  entry : Bool
  counter : Nat
  seq : Nat
  /-- the stalls the fault names (R517) -/
  stalls : Nat
deriving DecidableEq, Repr

/-- A fault-log entry (R514). -/
structure LogEntry where
  num : Nat
  code : Nat
  inst : Nat
  kind : Nat
  scope : Nat
  counter : Nat
  tSec : Nat
  tNs : Nat
  seq : Nat
  restarts : Nat
  detail : List Nat
  suppressed : Nat
deriving DecidableEq, Repr

/-- A stored word of a queue with its tag (R325). -/
structure QWord where
  data : Nat
  vb : Nat
  soi : Bool
  eoi : Bool
  brk : Bool
  /-- counter at which the word was stored -/
  at_ : Nat
deriving DecidableEq, Repr

/-- One queue: stored words oldest first, the packer, and where its producer stands (R324 to R332). -/
structure Queue where
  words : List QWord
  /-- bytes waiting in the packer -/
  packer : List Byte
  /-- the producer is inside an item -/
  open_ : Bool
  /-- words of the open item stored so far, taken ones included -/
  stored : Nat
  /-- words of the open item still in the queue -/
  tail : Nat
  /-- bytes of the open item are discarded until its end (R331, R332) -/
  discard : Bool
  /-- the discard began with an overflow -/
  overflowed : Bool
  /-- the next word that is stored carries BREAK -/
  cut : Bool
  /-- the consumer has taken words of the open item -/
  taken : Bool
  /-- the interrupt is armed (R334) -/
  armed : Bool
  /-- units asked for by POP reads that stall, with the instant each began (R329) -/
  stalls : List (Nat × Nat)
deriving DecidableEq, Repr

/-- An empty queue. -/
def Queue.empty : Queue := ⟨[], [], false, 0, 0, false, false, false, false, true, []⟩

/-- A session as BIL accounts for it (R395, R397). Times are corrected time in units of 2^-16 ns. -/
structure Sess where
  stall : Nat
  /-- STL_SESSION -/
  seq : Nat
  /-- metering point, 0x7F for none -/
  mp : Nat
  /-- KIND of R243, 0 not authorised -/
  authKind : Nat
  authRef : Nat
  /-- END_CAUSE of R397, 0 while the session runs -/
  endCause : Nat
  /-- FLAGS of R398 gathered so far -/
  flags : Nat
  /-- counter of the first enabling of its contactors by both channels, plus 1 (R295) -/
  closedAt : Nat
  /-- the start reading is taken -/
  begun : Bool
  startT : Int
  /-- ACT_IMP, ACT_EXP, ACT_IMP_T0 to ACT_IMP_T7, UNMEASURED at the span start -/
  startAcc : List Nat
  /-- counter at which the open stall was confirmed, or OPEN_MS ran out, plus 1 (R374) -/
  openAt : Nat
  /-- the end reading is taken -/
  ended : Bool
  endT : Int
  endAcc : List Nat
  /-- first number of the READING entry of the span end -/
  seqLast : Nat
  sealCnt : Nat
  /-- gleaning bound of R376, µJ -/
  glean : Nat
  /-- contract identifier, 40 bytes -/
  emaid : Nat
  /-- FLAGS and CAL_ID at the end reading -/
  flagsEnd : Nat
  calEnd : Nat
deriving DecidableEq, Repr

/-- The TCP and TLS state of a session (R234). -/
structure Tcp where
  /-- bytes received and sent, modulo 2^32 -/
  rx : Nat
  tx : Nat
  /-- TLS records received and sent -/
  recRx : Nat
  recTx : Nat
  /-- handshake: 0 none, 1 running, 2 complete -/
  hs : Nat
  /-- handles of the traffic keys -/
  keys : Option (Nat × Nat)
  /-- the partition's application context -/
  ctx : Nat
deriving DecidableEq, Repr

/-- Before the first segment. -/
def Tcp.new : Tcp := ⟨0, 0, 0, 0, 0, none, 0⟩

/-- What a response answers (R230, R247). -/
inductive V2gCode where
  /-- the code that the partition gives -/
  | given (code : Nat)
  | failed
  | sequenceError
  | serviceSelectionInvalid
deriving DecidableEq, Repr

/-- A response as the engine sends it (R231, R233, R236, R238, R239, R241). -/
structure V2gRes where
  msg : Nat
  code : V2gCode
  /-- EVSEProcessing Ongoing -/
  ongoing : Bool
  /-- EVSE maximum power, W, or in AC what the maximum current carries -/
  max : Option Nat
  /-- the single schedule: start and duration in s, PMax in W -/
  schedule : Option (Nat × Nat × Nat)
  /-- EVSEPresentVoltage in mV and EVSEPresentCurrent in mA -/
  present : Option (Int × Int)
  /-- EVSENotification StopCharging -/
  stop : Bool
deriving DecidableEq, Repr

/-- What a session engine holds beside its registers (R228 to R237). -/
structure Veh where
  /-- what TCP and TLS have reached, and the partition's context (R234) -/
  tcp : Tcp
  /-- the last checkpoint, in the memory of both partitions: with the request in progress (R234) -/
  ckpt : Option (Tcp × Option (V2gReq × Nat))
  /-- the last response sent (R233) -/
  sent : Option V2gRes
  /-- FAILED is due for a refused authorisation (R244) -/
  refused : Bool
  /-- RunID, ATTEN_AVG and counter of each CM_SLAC_PARAM.REQ of this session -/
  runs : List (Nat × Nat × Nat)
  /-- handle of the network membership key, drawn in the key store, zeroised at the end of the link -/
  nmk : Option Nat
  /-- the decoded request in progress, with the counter of its arrival (R234) -/
  req : Option (V2gReq × Nat)
  emaid : Nat
  /-- KIND of the decision (R243) -/
  authKind : Nat
  /-- vehicle's maximum power, voltage and current (R237) -/
  evP : Nat
  evV : Nat
  evI : Nat
  /-- FLAGS, V_T and I_T of the last setpoint sheaf (R239) -/
  setpoint : Nat × Nat × Nat
  /-- EVSENotification StopCharging is due (R241) -/
  stop : Bool
  /-- OUTPUT_ON of the setpoint: power delivery started -/
  output : Bool
  /-- last journalled power-loop values and their counter (R235) -/
  loop : Nat × Nat
deriving DecidableEq, Repr

/-- A session engine without a link. -/
def Veh.idle : Veh := ⟨Tcp.new, none, none, false, [], none, none, 0, 0, 0, 0, 0, (0, 0, 0), false, false, (0, 0)⟩

/-- A valid copy of a safety-link frame that waits for its partner (R308). -/
structure SlCopy where
  peer : Nat
  path : Nat
  counter : Nat
  seq : Nat
  /-- bytes 2 to 19 of the frame -/
  body : List Byte
deriving DecidableEq, Repr

/-- Sums over one window of the grid: its number, the energy of its samples before settlement, the full-scale bounds added
to UNMEASURED, its samples and its gaps (R159, R166). -/
structure Win where
  per : Nat
  e : Int
  u : Nat
  n : Nat
  gaps : Nat
deriving DecidableEq, Repr

/-- A main-path sample of a metering point of an AC type, as its analyses keep it (R140, R180). -/
structure Wave where
  /-- its stamp, grid ns and counter -/
  g : Nat
  c : Nat
  gap : Bool
  /-- value and quality per channel slot; quality 3 for an unmapped one -/
  y : List (Int × Nat)
deriving DecidableEq, Repr

/-- A metering point as the metrology core holds it (R132 to R145). -/
structure Mp where
  /-- TYPE and SETTLE in force -/
  ty : Nat
  se : Nat
  /-- the 23 accumulators (R156), 96 bits each -/
  acc : List Nat
  /-- residue of R132 -/
  res : Nat
  /-- residue of the reactive accumulation (R141) -/
  qres : Nat
  /-- net sum and number of the settlement period in progress -/
  net : Int
  netPer : Nat
  /-- tariff index in force, and indexes to come with their switching instants in grid ns (R138) -/
  tar : Nat
  tarNext : List (Nat × Nat)
  gapN : Nat
  satN : Nat
  qInv : Nat
  /-- index of the last sample, plus 1 -/
  n : Nat
  /-- the last windows of 10 ms, newest first -/
  w10 : List Win
  /-- the two last windows of 100 ms and 200 ms -/
  w100 : Win × Win
  w200 : Win × Win
  /-- over the publication period: energy times 2^62 x 10^9, duration, channel sums and counts -/
  pe : Int
  pd : Nat
  cSum : List Int
  cCnt : List Nat
  pGap : Bool
  pSat : Bool
  wasGap : Bool
  worst : Nat
  /-- Q1 in mvar, f1, power factor and the RMS slots of the last window -/
  q1 : Int
  f1 : Nat
  pf : Int
  rms : List Nat
  /-- samples of the last 250 ms, newest first (R140, R180) -/
  wave : List Wave
  /-- number of the 200 ms window in progress -/
  win : Nat
deriving DecidableEq, Repr

/-- An empty window. -/
def Win.empty : Win := ⟨0, 0, 0, 0, 0⟩

/-- A metering point that has accumulated nothing. -/
def Mp.zero : Mp where
  ty := 0
  se := 0
  acc := List.replicate 23 0
  res := 0
  qres := 0
  net := 0
  netPer := 0
  tar := 0
  tarNext := []
  gapN := 0
  satN := 0
  qInv := 0
  n := 0
  w10 := []
  w100 := (Win.empty, Win.empty)
  w200 := (Win.empty, Win.empty)
  pe := 0
  pd := 0
  cSum := List.replicate 8 0
  cCnt := List.replicate 8 0
  pGap := false
  pSat := false
  wasGap := false
  worst := 0
  q1 := 0
  f1 := 0
  pf := 0
  rms := List.replicate 8 0
  wave := []
  win := 0

/-- A periodic save or a gleaning capture (R146, R373). -/
structure MetCopy where
  num : Nat
  capture : Bool
  /-- the power-on it was made in, counted as SYS_ID_RESTARTS does -/
  boot : Nat
  /-- counter and corrected time of its instant -/
  counter : Nat
  time : Int
  mps : List (Nat × Mp)
  /-- billing time (R384) -/
  bt : Int
  /-- stalls confirmed open, one bit each -/
  confirmed : Nat
  /-- counter values of each stall's enable withdrawal and of its confirmation, plus 1; 0 for none (R373) -/
  withdrawn : List Nat
  confAt : List Nat
  /-- counters of the power-quality detectors, by slot (R193) -/
  pq : List (Nat × Word)
  /-- CRC-32C over the copy's bytes (R146, R373) -/
  crc : Nat
deriving DecidableEq, Repr

/-- A harmonics page on its way: 1 ms after the window's end it is shown (R145, R157). -/
structure HarmSet where
  mp : Nat
  /-- grid ns -/
  due : Nat
  slots : List Nat
deriving DecidableEq, Repr

/-- A power-quality record on its way: records of one boundary are journalled by ascending metering point (R186). -/
structure PqRec where
  /-- detector as in pqOpen -/
  det : Nat
  /-- counter of the boundary that brings it -/
  at_ : Nat
  code : Nat
  flags : Nat
  /-- counter of its start or end time -/
  c : Nat
  ext : Nat
  dur : Nat
deriving DecidableEq, Repr

/-- An Ethernet frame that a block of the device sends from port I (R164). -/
structure EthTx where
  dst : Nat
  etherType : Nat
  pcp : Nat
  body : List Byte
deriving DecidableEq, Repr

/-- What the allocator uses of a stall at an instant (R166, R167). -/
structure AlcStall where
  cls : Nat
  weight : Nat
  min_ : Nat
  cap : Nat
  demand : Nat
  counted : Bool
  paused : Bool
deriving DecidableEq, Repr

/-- What the allocator uses at its instant number `k` (R166); no stalls before the first instant. -/
structure AlcIn where
  k : Nat
  cfg : Nat
  limit : Nat
  fallback : Nat
  stalls : List AlcStall
deriving DecidableEq, Repr

/-- A balance period of a group on its way (R161, R163). -/
structure BalPeriod where
  num : Nat
  /-- PERIOD_S -/
  secs : Nat
  src : Int
  snk : Int
  loss : Int
  u : Nat
  /-- local ticks evaluated -/
  ticks : Nat
  /-- remote terms taken: term, tick -/
  seen : List (Nat × Nat)
  /-- a restart, a supply loss or a power-on fell within it -/
  broken : Bool
deriving DecidableEq, Repr

/-- A tariff calendar (R387, R390). Instants are BT seconds. -/
structure Cal where
  id : Nat
  /-- ACTIVATE_AT -/
  at_ : Nat
  dflt : Nat
  demandMin : Nat
  /-- day profiles: (second of day, tariff), ascending -/
  days : List (List (Nat × Nat))
  /-- week profiles: day profile for Monday to Sunday -/
  weeks : List (List Nat)
  /-- seasons: month, day, week profile -/
  seasons : List (Nat × Nat × Nat)
  /-- special days: year, month, day, day profile -/
  specials : List (Nat × Nat × Nat × Nat)
  /-- offset table: instant, LOCAL_OFS in minutes -/
  ofs : List (Nat × Int)
deriving DecidableEq, Repr

/-- The demand interval in progress of a metering point (R392). -/
structure Dem where
  /-- BT seconds, counter and grid instant (ns) at its start -/
  start : Nat
  from_ : Nat
  grid : Nat
  /-- ACT_IMP at its start, µJ, once every sample stamped before it is accumulated -/
  acc : Option Nat
  tar : Nat
  /-- FLAGS gathered (R398) -/
  flags : Nat
deriving DecidableEq, Repr

/-- A demand interval that has ended and whose record is not made yet (R392, R393). -/
structure DemEnd where
  mp : Nat
  dem : Dem
  /-- counter, grid instant (ns) and BT seconds at its end -/
  to_ : Nat
  grid : Nat
  bt : Nat
  /-- DEMAND_MIN it ran under -/
  min : Nat
  /-- ACT_IMP at its end, as in the start -/
  acc : Option Nat
deriving DecidableEq, Repr

/-- The reading span of a metering point (R396). -/
structure Rdg where
  startT : Int
  acc : List Nat
  /-- SEQ_LAST of its previous reading record -/
  seq : Nat
  flags : Nat
deriving DecidableEq, Repr

/-- A composed record that waits for its signature and its BILLING entry (R399): 1 session, 2 reading; its stall and
session; bytes 0 to 239 with REC_NUM 0. -/
structure SRec where
  kind : Nat
  stall : Nat
  seq : Nat
  bytes : Nat
deriving DecidableEq, Repr

/-- A derived key's handle (R411, R414): its index and generation, its parent's handle, and whether the cache holds it. -/
structure DKey where
  index : Nat
  gen : Nat
  parent : Nat
  label : List Byte
  context : List Byte
  /-- its type, an ALG of R434 -/
  alg : Nat
  usage : Nat
  /-- levels below MROOT or a stored key -/
  level : Nat
  cached : Bool
  /-- number of its last use -/
  used : Nat
deriving DecidableEq, Repr

/-- An operation of the key store: waiting, or started once an engine has loaded its key (R417, R419). -/
structure KeyOp where
  req : KeyReq
  /-- engine kind: 0 public-key, 1 symmetric, 2 hash -/
  engine : Nat
  started : Bool
deriving DecidableEq, Repr

/-- A page operation that waits for a gap between field transactions (R443, R444). -/
structure MemOp where
  m : Master
  /-- both masters gave the command in one cycle (R46) -/
  both : Bool
  write : Bool
  page : Nat
  /-- the window at the committing boundary -/
  data : List Byte
  /-- SEQ of the command -/
  seq : Nat
  at_ : Nat
deriving DecidableEq, Repr

/-- A card in the field of a reader (R447). -/
structure Present where
  channel : Nat
  card : Card
  /-- consecutive polls without it -/
  missed : Nat
  /-- authentication result: 0 none, 1 OK, 2 FAIL, 3 NO_PROFILE -/
  auth : Nat
  /-- the presentation awaits its result (R448) -/
  wait : Bool
  multi : Bool
  overflow : Bool
deriving DecidableEq, Repr

/-- A link frame on its way: waiting, or sent and not yet acknowledged (R492, R494). -/
structure LinkOut where
  port : Nat
  /-- priority CA3 to CA0 -/
  prio : Nat
  dst : Nat
  /-- 1 BEACON, 2 RELAY -/
  ty : Nat
  payload : List Byte
  /-- counter of the crossing of a beacon, or at which the frame was queued -/
  at_ : Nat
  sent : Bool
  lseq : Nat
  resends : Nat
deriving DecidableEq, Repr

/-- A frame in an egress queue (R478). -/
structure EthOut where
  port : Nat
  queue : Nat
  len : Nat
  at_ : Nat
deriving DecidableEq, Repr

/-- What waits for a port's state machine at the next boundary (R480). -/
inductive NetTrig where
  | enable (on : Bool)
  /-- link up in full duplex: 1 1000, 2 100, 3 10 Mbit/s -/
  | up (speed : Nat)
  | down
  | qualified
  | readmit
  | takeOut
deriving DecidableEq, Repr

/-- A bale stored for a kind and an image (R458). -/
structure Stored where
  kind : Nat
  image : Nat
  index : Nat
  data : List Byte
deriving DecidableEq, Repr

/-- A piece held until its bale is whole (R460, R471). -/
structure Piece where
  kind : Nat
  bale : Nat
  crc : Nat
  piece : Nat
  data : List Byte
deriving DecidableEq, Repr

/-- The state of the block. -/
structure State where
  /-- commands waiting, first in, first out -/
  pending : List Instr
  /-- free-running counter, ns (R65) -/
  counter : Nat
  /-- offsets and rates of corrected time no longer in force, newest first (R69) -/
  clockSets : List ClockSet
  /-- changes of corrected time that wait for the boundary, oldest first (R76) -/
  clockQ : List ClockChange
  /-- foreign masters heard (R85) -/
  announces : List Foreign
  /-- PTP messages that the last event made the ordinary clock send (R85) -/
  ptpOut : List PtpOut
  /-- the last message the transparent clock forwarded (R86) -/
  tcOut : Option TcOut
  /-- live slot values by BAR0 address, banked copies above 2^26; an unlisted slot reads its reset value -/
  slots : List (Nat × Word)
  /-- the published set (R33, R35) -/
  pub : List (Nat × Word)
  /-- hidden counters -/
  vars : List ((Var × Nat) × Int)
  /-- writes of the command cycle in progress, in arrival order (R44) -/
  cycle : List Write
  /-- pages whose hardware values changed since the last boundary (R34) -/
  dirty : List Nat
  /-- shared slots and command groups with an accepted write at the boundary in progress (R34) -/
  commits : List Nat
  /-- register reads that wait for the boundary (R36) -/
  reads : List ReadReq
  /-- bytes returned by the host's last register or window read, or by those that one boundary answered, in 64-bit units (R26) -/
  hostReply : List Nat
  /-- bytes sent to the management port after its last frame (R55) -/
  mgmtReply : List Byte
  /-- MSI-X vectors sent, oldest first (R53) -/
  msix : List Nat
  /-- snapshot of the host -/
  snapH : Option Snapshot
  /-- snapshot of the management port -/
  snapM : Option Snapshot
  /-- journal records stored, newest first (R345, R355) -/
  records : List Record
  /-- submitted records that wait unnumbered -/
  waiting : List Waiting
  /-- token memory of the host, newest first: TOKEN and SEQ (R349) -/
  tokH : List (Nat × Nat)
  /-- token memory of the management port -/
  tokM : List (Nat × Nat)
  /-- active safety parameter set, by slot address (R311) -/
  safeSet : List (Nat × Word)
  /-- trip codes held per stall (R303) -/
  trips : List Trip
  /-- common causes in force (R304) -/
  commons : List Common
  /-- triggers that wait for the STL, with their stall (R201) -/
  trig : List (Nat × Trig)
  /-- active faults, in table order (R519) -/
  active : List ActiveFault
  /-- fault entries and exits that wait for the boundary (R508) -/
  faultQ : List FaultEvent
  /-- fault log, newest first (R514) -/
  log : List LogEntry
  /-- the 64 queues (R320) -/
  queues : List (Nat × Queue)
  /-- sessions whose record is not released yet, oldest first (R395) -/
  sessions : List Sess
  /-- the 32 session engines (R233) -/
  vehs : List (Nat × Veh)
  /-- clamp events of the last second: output, counter, energy in µJ (R266) -/
  clamps : List (Nat × Nat × Nat)
  /-- pin changes of the last second: trip input, counter (R289) -/
  tinChanges : List (Nat × Nat)
  /-- safety-link copies that wait for a partner (R308) -/
  slCopies : List SlCopy
  /-- the frames of the last transmit period, to SL_DST on E0 and on E1 (R307) -/
  slSent : List EthTx
  /-- the metering points that are not at their initial value -/
  mps : List (Nat × Mp)
  /-- metering points as they stood at the publication instant in progress (R145) -/
  mpCap : List (Nat × Mp)
  /-- completed saves and captures, newest first: two of each kind (R146, R373) -/
  copies : List MetCopy
  /-- the save being written (R146) -/
  saving : Option MetCopy
  /-- a periodic save that is due: the publication instant, grid ns, and its set (R146) -/
  saveSet : Option (Nat × List (Nat × Mp))
  /-- harmonics pages on their way (R145) -/
  harmDue : List HarmSet
  /-- power-quality records that wait for the boundary (R186) -/
  pqDue : List PqRec
  /-- fault entries of the last 60 s: input, counter (R117) -/
  inFaults : List (Nat × Nat)
  /-- event openings of the last second: detector as in pqOpen, counter (R187) -/
  pqOpens : List (Nat × Nat)
  /-- balance periods in progress or waiting for evaluation, by group, oldest first -/
  bals : List (Nat × List BalPeriod)
  /-- the balance frames of the last tick (R164) -/
  balSent : List EthTx
  /-- configuration of the balance at the start of the tick in progress and of the one before, newest first (R176) -/
  balCfgs : List (Nat × List (Nat × Word))
  /-- what the allocator uses at the last instant (R166) -/
  alcIn : AlcIn
  /-- active calendar (R391) -/
  calAct : Option Cal
  /-- pending calendar (R391) -/
  calPend : Option Cal
  /-- demand intervals in progress, by metering point (R392) -/
  dems : List (Nat × Dem)
  /-- demand intervals that have ended, in order, until their records are made (R393) -/
  demEnds : List DemEnd
  /-- reading spans, by metering point (R396) -/
  rdgs : List (Nat × Rdg)
  /-- signed records composed and not released, oldest first (R399) -/
  bilWait : List SRec
  /-- the billing store, newest first: REC_NUM and bytes 0 to 335 (R399) -/
  bilStore : List (Nat × Nat)
  /-- derived handles (R414) -/
  dkeys : List DKey
  /-- operations waiting or started, oldest first (R419, R420) -/
  keyOps : List KeyOp
  /-- operations that have ended since the last one was asked for or completed: number; 0 done, 1 STALE, 2 USAGE, 3 ZEROISED, 4 BUSY; a
  derived handle (R417) -/
  keyDone : List (Nat × Nat × Nat)
  /-- field memory: 32 KiB; an unlisted byte is 0 (R437) -/
  fmem : List (Nat × Byte)
  /-- the last response of the tag, data and status word (R439) -/
  fieldReply : List Byte
  /-- host page operations that wait, oldest first (R444) -/
  memOps : List MemOp
  /-- cards present, oldest first (R447) -/
  cards : List Present
  /-- mains-link frames waiting or unacknowledged, oldest first (R494) -/
  linkTx : List LinkOut
  /-- the last frame sent on each port (R491) -/
  linkSent : List (Nat × List Byte)
  /-- mode and resends of the last 16 unicast frames to a neighbour, by 2^48 x port + serial, newest first (R501) -/
  linkHist : List (Nat × List (Nat × Nat))
  /-- last LSEQ delivered of a sender, by 2^48 x port + serial (R492) -/
  linkRx : List (Nat × Nat)
  /-- frames in the egress queues, oldest first (R478) -/
  ethQ : List EthOut
  /-- address table: address, port, counter of its last frame (R477) -/
  macs : List (Nat × Nat × Nat)
  /-- receive errors of the last second: port, counter (R480) -/
  netErrs : List (Nat × Nat)
  /-- entries into DOWN of the last 60 s: port, counter (R480) -/
  netFlaps : List (Nat × Nat)
  /-- triggers that wait for the port state machines (R480) -/
  netTrig : List (Nat × NetTrig)
  /-- bales stored in the banks, the configuration stores and the billing store (R456, R458) -/
  bales : List Stored
  /-- pieces of bales not yet whole (R460) -/
  pieces : List Piece
  /-- fetches outstanding: kind, bale, host address (R459) -/
  fetches : List (Nat × Nat × Nat)
  /-- metering points at the capture instant in progress, before their first sample stamped at or after it (R373) -/
  capSet : List (Nat × Mp)
  /-- configuration of the slots whose register is read-only: ALC_LIMIT and STL_SUM_LEAD (R179, R224) -/
  roCfg : List (Nat × Word)
  /-- channel X's copy of the PQ_FL_CFG slots (R191, R285), canonical table -/
  fastX : List (Nat × Word)
  /-- channel Y's copy of the PQ_FL_CFG slots (R191, R285), canonical table -/
  fastY : List (Nat × Word)
  /-- GENERAL slots that a CONFIG trial changed, with the values of the image before (R468) -/
  cfgOld : List (Nat × Word)
  /-- GENERAL fields a stall takes later: stall, slot, value (R467) -/
  cfgDefer : List (Nat × Nat × Word)
deriving DecidableEq, Repr

/-- The module at its first power-on with supplies valid, before the power-on sequence (log entries 1 and 2): every slot at
its reset value, the common safe state with cause POWER_ON in force, every queue empty, nothing pending. -/
def State.reset : State where
  pending := []
  counter := 0
  clockSets := []
  clockQ := []
  announces := []
  ptpOut := []
  tcOut := none
  slots := []
  pub := []
  vars := []
  cycle := []
  dirty := []
  commits := []
  reads := []
  hostReply := []
  mgmtReply := []
  msix := []
  snapH := none
  snapM := none
  records := []
  waiting := []
  tokH := []
  tokM := []
  safeSet := []
  trips := []
  commons := [⟨1, 0, 0⟩]
  trig := []
  active := []
  faultQ := []
  log := []
  queues := []
  sessions := []
  vehs := []
  clamps := []
  tinChanges := []
  slCopies := []
  slSent := []
  mps := []
  mpCap := []
  copies := []
  saving := none
  saveSet := none
  harmDue := []
  pqDue := []
  inFaults := []
  pqOpens := []
  bals := []
  balSent := []
  balCfgs := []
  alcIn := ⟨0, 0, 0, 0, []⟩
  calAct := none
  calPend := none
  dems := []
  demEnds := []
  rdgs := []
  bilWait := []
  bilStore := []
  dkeys := []
  keyOps := []
  keyDone := []
  fmem := []
  fieldReply := []
  memOps := []
  cards := []
  linkTx := []
  linkSent := []
  linkHist := []
  linkRx := []
  ethQ := []
  macs := []
  netErrs := []
  netFlaps := []
  netTrig := []
  bales := []
  pieces := []
  fetches := []
  capSet := []
  roCfg := []
  fastX := []
  fastY := []
  cfgOld := []
  cfgDefer := []

end Sys2Proof.Machine
end

