-- ==== Sys2Proof/Machine/Tab.lean ====
section
/-! DEFINITION. Sparse tables in one canonical form: a list of (key, value) pairs, keys rising, no entry equal to what an
unlisted key reads as. Registers, buffers and hidden counters are all kept so. -/
namespace Sys2Proof.Machine.Tab

variable {κ : Type} [DecidableEq κ] {α : Type} [DecidableEq α]

/-- What the table reads as at a key; an unlisted key reads as its default. -/
def get (d : κ → α) : List (κ × α) → κ → α
  | [], k => d k
  | e :: t, k => if e.1 = k then e.2 else get d t k

/-- Put an entry before the first entry whose key is greater. -/
def insert (lt : κ → κ → Bool) (k : κ) (v : α) : List (κ × α) → List (κ × α)
  | [] => [(k, v)]
  | e :: t => if lt k e.1 then (k, v) :: e :: t else e :: insert lt k v t

/-- Remove every entry at a key. -/
def erase (k : κ) : List (κ × α) → List (κ × α)
  | [] => []
  | e :: t => if e.1 = k then erase k t else e :: erase k t

/-- Write a value; writing what an unlisted key reads as removes the entry. -/
def put (lt : κ → κ → Bool) (d : κ → α) (t : List (κ × α)) (k : κ) (v : α) : List (κ × α) :=
  if v = d k then erase k t else insert lt k v (erase k t)

/-- The canonical form, over Nat keys. -/
def wf {α : Type} [DecidableEq α] (d : Nat → α) : List (Nat × α) → Bool
  | [] => true
  | [e] => decide (e.2 ≠ d e.1)
  | e :: f :: t => decide (e.1 < f.1) && decide (e.2 ≠ d e.1) && wf d (f :: t)

end Sys2Proof.Machine.Tab
end

