-- ==== Sys2Proof/Machine/Ops.lean ====
section
/-! DEFINITION. The named operations over the register slots, the banked slots, the hidden counters and the time: every
meaning reads and writes State through these. -/
namespace Sys2Proof.Machine

/-- Order of slot keys. -/
def natLt (a b : Nat) : Bool := decide (a < b)

/-- Order of hidden-counter keys. -/
def varLt (a b : Var × Nat) : Bool := decide (a.1.ctorIdx < b.1.ctorIdx ∨ (a.1.ctorIdx = b.1.ctorIdx ∧ a.2 < b.2))

/-- A read-only slot with a Config reset (R179, R224). -/
def roConfig (a : Nat) : Bool := decide (a = Reg.alcLimit ∨ a = Reg.stlSumLead)

namespace State

/-- The live value of a slot (R26); the register's home. -/
def rd (s : State) (a : Nat) : Nat := (Tab.get resetVal s.slots a).toNat

/-- Write a slot, 48 bits. -/
def wr (s : State) (a v : Nat) : State := { s with slots := Tab.put natLt resetVal s.slots a (BitVec.ofNat 48 v) }

/-- A page has a hardware value that changed (R34). -/
def touch (s : State) (page : Nat) : State := if page ∈ s.dirty then s else { s with dirty := s.dirty ++ [page] }

/-- A hardware update of a slot: a new value, and the page publishes at the next boundary (R33, R34). -/
def hw (s : State) (a v : Nat) : State := if s.rd a = v % 2 ^ 48 then s else (s.wr a v).touch (a / 0x1000)

/-- What the configuration in force says of a slot with a Config reset: for a read-only register it is held apart (R179, R224). -/
def cfgValue (s : State) (a : Nat) : Nat := if roConfig a then (Tab.get resetVal s.roCfg a).toNat else s.rd a

/-- A field of a slot. -/
def fd (s : State) (a lo w : Nat) : Nat := field (s.rd a) lo w

/-- A hardware update of one field. -/
def hwf (s : State) (a lo w v : Nat) : State := s.hw a (setField (s.rd a) lo w v)

/-- Write one field without a publication. -/
def wrf (s : State) (a lo w v : Nat) : State := s.wr a (setField (s.rd a) lo w v)

/-- A counter field advances, wrapping modulo 2^w. -/
def inc (s : State) (a lo w n : Nat) : State := s.hwf a lo w (s.fd a lo w + n)

/-- A counter field advances and stops at its largest value. -/
def incSat (s : State) (a lo w n : Nat) : State := s.hwf a lo w (saturate w (s.fd a lo w + n))

/-- A single bit of a slot. -/
def bit (s : State) (a i : Nat) : Bool := decide (s.fd a i 1 = 1)

/-- A hardware update of one bit. -/
def hwb (s : State) (a i : Nat) (b : Bool) : State := s.hwf a i 1 b.toNat

/-- A hidden counter. -/
def v (s : State) (x : Var) (i : Nat := 0) : Int := Tab.get (fun _ => 0) s.vars (x, i)

/-- A hidden counter as a natural number. -/
def n (s : State) (x : Var) (i : Nat := 0) : Nat := (s.v x i).toNat

/-- Write a hidden counter. -/
def setV (s : State) (x : Var) (i : Nat) (k : Int) : State :=
  { s with vars := Tab.put varLt (fun _ => 0) s.vars (x, i) k }

/-- Advance a hidden counter. -/
def addV (s : State) (x : Var) (i : Nat) (k : Int) : State := s.setV x i (s.v x i + k)

/-- The next free value of `w` bits: a value the spec leaves open (log entry 6). -/
def draw (s : State) (w : Nat) : Nat := Config.free (s.n .free) % 2 ^ w

/-- The counter of free values moves on. -/
def drawn (s : State) (k : Nat := 1) : State := s.addV .free 0 k

end State

/-- Key of a master's copy of a banked slot (R40, R52, R356). -/
def bankKey (m : Master) (a : Nat) : Nat := a + bankSpan * (1 + m.ix)

namespace State

/-- A master's copy of a banked slot. -/
def rdB (s : State) (m : Master) (a : Nat) : Nat := s.rd (bankKey m a)

/-- Write a master's copy of a banked slot; banked slots never move an epoch (R34). -/
def wrB (s : State) (m : Master) (a v : Nat) : State := s.wr (bankKey m a) v

/-- A field of a banked slot. -/
def fdB (s : State) (m : Master) (a lo w : Nat) : Nat := field (s.rdB m a) lo w

/-- Write a field of a banked slot. -/
def wrfB (s : State) (m : Master) (a lo w v : Nat) : State := s.wrB m a (setField (s.rdB m a) lo w v)

/-- The role a master holds (R58, R63). -/
def role (s : State) (m : Master) : Nat :=
  match m with
  | .host => s.fd Reg.sysMstRoleH 0 3
  | .mgmt => s.fd Reg.sysMstRoleM 0 3

/-- The snapshot a master holds. -/
def snap (s : State) : Master → Option Snapshot
  | .host => s.snapH
  | .mgmt => s.snapM

/-- Replace a master's snapshot. -/
def setSnap (s : State) (m : Master) (x : Option Snapshot) : State :=
  match m with
  | .host => { s with snapH := x }
  | .mgmt => { s with snapM := x }

/-- The block that owns a page is in restart or fault, or its first publication since is still to come (R31). -/
def ownerFault (s : State) (page : Nat) : Bool := decide (s.v .ownerFault (page / 256) ≠ 0)

end State

/-- Address of PAGE_EVT of a page (R27). -/
def evtAddr (page : Nat) : Nat := page * 0x1000 + 0x18

/-- Address of PAGE_EVT_EN. -/
def evtEnAddr (page : Nat) : Nat := page * 0x1000 + 0x20

/-- Address of PAGE_EPOCH. -/
def epochAddr (page : Nat) : Nat := page * 0x1000 + 0x30

/-- Address of PAGE_SNAP. -/
def snapAddr (page : Nat) : Nat := page * 0x1000 + 0x38

/-- Page number of a slot address. -/
def pageOf (a : Nat) : Nat := a % bankSpan / 0x1000

/-! Corrected time (R66, R69). -/

/-- Corrected time in units of 2^-16 ns from offset, rate and counter (R66): `p / 2^32` rounds toward minus infinity. -/
def convert (ofs rate : Int) (c : Nat) : Int := ofs + c * 2 ^ 16 + c * rate / 2 ^ 32

/-- Seconds of a corrected time. -/
def secsOf (t : Int) : Nat := unsigned 48 (t / (10 ^ 9 * 2 ^ 16))

/-- Nanoseconds of a corrected time. -/
def nsOf (t : Int) : Nat := (t / 2 ^ 16 % 10 ^ 9).toNat

/-- Fraction of a corrected time, units of 2^-16 ns. -/
def fracOf (t : Int) : Nat := (t % 2 ^ 16).toNat

namespace State

/-- The offset o (R66): a signed 96-bit value in TIM_OFS_HI and TIM_OFS_LO. -/
def offset (s : State) : Int := signed 96 (s.rd Reg.timOfsHi * 2 ^ 48 + s.rd Reg.timOfsLo)

/-- Set the offset. -/
def setOffset (s : State) (o : Int) : State :=
  (s.hw Reg.timOfsHi (unsigned 96 o / 2 ^ 48)).hw Reg.timOfsLo (unsigned 96 o % 2 ^ 48)

/-- The base rate (R67). -/
def baseRate (s : State) : Int := signed 48 (s.rd Reg.timRate)

/-- The rate r in force: base rate plus slew term. -/
def rate (s : State) : Int := s.baseRate + s.v .slewTerm

/-- Corrected time at a counter value, with the offset and rate committed at the last boundary at or before it (R66, R69), units of
2^-16 ns. -/
def timeAt (s : State) (c : Nat) : Int :=
  match (s.clockSets.takeWhile fun x => decide (c < x.until_)).getLast? with
  | some x => convert x.offset x.rate c
  | none => convert s.offset s.rate c

/-- The base rate in force at a counter value (R185). -/
def baseRateAt (s : State) (c : Nat) : Int :=
  (((s.clockSets.takeWhile fun x => decide (c < x.until_)).getLast?).map (·.base)).getD s.baseRate

/-- Corrected time now. -/
def now (s : State) : Int := s.timeAt s.counter

/-- TIME_VALID (R71, R81). -/
def timeValid (s : State) : Bool := s.bit Reg.timState 8

end State

/-- Byte ACTOR of a record for the device (R345). -/
def actorDevice : Nat := 0

/-- Byte ACTOR for a master in its role. -/
def actorMaster (s : State) (m : Master) : Nat :=
  match m with
  | .host => 1 + s.role .host * 8
  | .mgmt => 2 + s.role .mgmt * 8

/-- Bit `i` of a mask. -/
def maskBit (x i : Nat) : Bool := decide (x / 2 ^ i % 2 = 1)

/-- Apply a step to every number below `k`, in ascending order. -/
def eachBelow (k : Nat) (f : Nat → State → State) (s : State) : State := (List.range k).foldl (fun t i => f i t) s

/-- Apply a step to every element of a list, in order. -/
def each {α : Type} (l : List α) (f : α → State → State) (s : State) : State := l.foldl (fun t x => f x t) s

end Sys2Proof.Machine
end

