-- ==== Sys2Proof/Machine/Flags.lean ====
section
/-! DEFINITION. What an effect raises beside its result: page events (R32), MSI-X messages (R53), triggers of the stall mode
machine (R201), fault entries and exits on their way to FLT (R508). -/
namespace Sys2Proof.Machine.State

/-- Send an MSI-X vector (R53): a masked vector sets its pending bit instead; without a host link nothing is sent. -/
def sendMsi (vec : Nat) (s : State) : State :=
  if s.bit Reg.sysMstLink 0 then
    if s.rd (0x8000 + 16 * vec + 12) % 2 = 1 then s.wrf (0x9000 + 4 * (vec / 32)) (vec % 32) 1 1
    else { s with msix := s.msix ++ [vec] }
  else s

/-- QUE_SUM_EVT follows the PAGE_EVT of the queue pages (R339). -/
def queEvtSum (page : Nat) (s : State) : State :=
  if 0xB00 ≤ page ∧ page < 0xB40 then
    let q := page - 0xB00
    s.hwb (if q < 32 then Reg.queSumEvtLo else Reg.queSumEvtHi) (q % 32) (decide (s.rd (evtAddr page) ≠ 0))
  else s

/-- Raise a PAGE_EVT bit (R32). The raising moves no epoch (R34); a bit enabled for the host signals on vector 64 (R53),
a bit enabled for the management port on MG_RDY (R56). -/
def evt (page bit : Nat) (s : State) : State :=
  let a := evtAddr page
  let s1 := s.wrf a bit 1 1
  let s2 := if s.bit a bit = false ∧ maskBit (s.rdB .host (evtEnAddr page)) bit then sendMsi 64 s1 else s1
  queEvtSum page s2

/-- MG_RDY while chip-select is inactive: an event enabled for the management port is pending on some page (R56). -/
def mgRdy (s : State) : Bool :=
  pageTable.any fun e => (List.range e.2.1).any fun i =>
    decide (Nat.land (s.rd (evtAddr (e.1 + i))) (s.rdB .mgmt (evtEnAddr (e.1 + i))) ≠ 0)

/-- A trigger waits for the stall's mode machine (R201). -/
def trigger (stall : Nat) (t : Trig) (s : State) : State := { s with trig := s.trig ++ [(stall, t)] }

/-- A fault is on: in the active table with no exit waiting, or with an entry waiting. -/
def faultOn (s : State) (code inst : Nat) : Bool :=
  match (s.faultQ.filter fun f => decide (f.code = code ∧ f.inst = inst)).getLast? with
  | some f => f.entry
  | none => s.active.any fun f => decide (f.code = code ∧ f.inst = inst)

/-- A fault enters or exits at its source: it waits for the next boundary (R508 step 4). An entry of a fault that is on
and an exit of one that is off are no transitions. -/
def faultMove (code inst scope stalls : Nat) (entry : Bool) (seq : Nat) (s : State) : State :=
  if s.faultOn code inst = entry then s
  else { s with faultQ := s.faultQ ++ [⟨code, inst, scope, entry, s.counter, seq, stalls⟩] }

/-- MODE of a stall (R198). -/
def mode (s : State) (stall : Nat) : Nat := s.fd (Reg.stlMode stall) 0 4

/-- The stall is in a session mode, CONNECTED to ENDING (R198). -/
def inSession (s : State) (stall : Nat) : Bool := decide (2 ≤ s.mode stall ∧ s.mode stall ≤ 6)

end Sys2Proof.Machine.State
end

