-- ==== Sys2Proof/Machine/Kdf.lean ====
section
/-! DEFINITION. Key derivation (16_key_store.md R406 to R408, R412): the KDF, the built-in keys, and the key that a handle names. The seed,
imported and generated keys and the public key of a private one are free. -/
namespace Sys2Proof.Machine

/-- HMAC-SHA-384 (R412); the function itself is that of FIPS 198-1 (log entry 11). -/
def hmac384 (key msg : List Byte) : List Byte :=
  let k := if 128 < key.length then Sha.sha384 key else key
  let pad (x : Byte) : List Byte := (k ++ List.replicate (128 - k.length) 0).map fun b => b ^^^ x
  Sha.sha384 (pad 0x5C ++ Sha.sha384 (pad 0x36 ++ msg))

/-- The KDF of R412, as a number of `bits` bits: the leftmost ones of T[1], T[2], ... -/
def kdf (key label context : List Byte) (bits : Nat) : Nat :=
  let n := (bits + 383) / 384
  let t (i : Nat) := hmac384 key (toBE 4 (i + 1) ++ label ++ toBE 1 0 ++ context ++ toBE 4 bits)
  ofBE ((List.range n).flatMap t) / 2 ^ (384 * n - bits)

/-- The order of the curve of a private ECDSA or ECDH key by its ALG (R434); the curves are those of FIPS 186-4 (log entry 11). -/
def curveOrder : Nat → Option Nat
  | 3 => some 0xFFFFFFFF00000000FFFFFFFFFFFFFFFFBCE6FAADA7179E84F3B9CAC2FC632551
  | 4 => some 0xFFFFFFFFFFFFFFFFFFFFFFFFFFFFFFFFFFFFFFFFFFFFFFFFC7634D81F4372DDF581A0DB248B0A77AECEC196ACCC52973
  | 5 => some (0x1FFFFFFFFFFFFFFFFFFFFFFFFFFFFFFFFFFFFFFFFFFFFFFFFFFFFFFFFFFFFFFFFF * 2 ^ 260
      + 0xA51868783BF2F966B7FCC0148F709A5D03BB5C9B8899C47AEBB6FB71E91386409)
  | _ => none

/-- Bytes of a secret or private key of an ALG (R434). -/
def secretLen : Nat → Nat
  | 1 | 3 => 32
  | 2 | 4 => 48
  | 5 => 66
  | 6 => 57
  | 7 => 56
  | _ => 0

/-- A child key of an ALG (R412): L by its type; the scalar of an ECDSA or ECDH key on a curve of order n. -/
def childKey (key label context : List Byte) (alg : Nat) : List Byte :=
  match curveOrder alg with
  | some n => toBE (secretLen alg) (kdf key label context (n.log2 + 1 + 64) % (n - 1) + 1)
  | none => toBE (secretLen alg) (kdf key label context (8 * secretLen alg))

/-- A label in ASCII. -/
def ascii (s : String) : List Byte := s.toList.map fun c => BitVec.ofNat 8 c.toNat

namespace State

/-- The seed in force (R406): that of the row that KEY_STATE names. -/
def seed (s : State) : List Byte := toBE 32 (Config.seedRow (s.fd Reg.keyState 6 2))

/-- SYS_ID_SERIAL as derivation takes it (R412). -/
def serialBytes (s : State) : List Byte := toLE 6 (s.rd Reg.sysIdSerial)

/-- M as KEY_MEAS shows it (R407). -/
def measBytes (s : State) : List Byte := (List.range 8).flatMap fun k => toBE 6 (s.rd (Reg.keyMeas k))

/-- MROOT (R407). -/
def mroot (s : State) : List Byte := toBE 48 (kdf s.seed (ascii "SFN-MROOT") s.measBytes 384)

/-- The context of a child (R412): SYS_ID_SERIAL, the parent's handle, the caller's context. -/
def childContext (s : State) (parent : Nat) (context : List Byte) : List Byte := s.serialBytes ++ toLE 4 parent ++ context

/-- The handle of MROOT (R408, R411). -/
def mrootHandle : Nat := 0xC0000000

/-- The built-in keys (R408): MROOT, IDENTITY, METER_RECORD, KWRAP, KINT. -/
def builtinKey (s : State) (i : Nat) : List Byte :=
  let child (label : String) (alg : Nat) := childKey s.mroot (ascii label) (s.childContext mrootHandle []) alg
  match i with
  | 0 => s.mroot
  | 1 => childKey s.seed (ascii "SFN-IDENTITY") s.serialBytes 4
  | 2 => child "SFN-METER-RECORD" 4
  | 3 => child "SFN-WRAP" 1
  | _ => child "SFN-INTEGRITY" 2

/-- What a stored slot holds: a free value fixed when its key was made, or at the factory (R415). -/
def slotValue (s : State) (i : Nat) : Nat := Config.free (if s.n .keyMat i = 0 then 2 ^ 64 + i else s.n .keyMat i - 1)

/-- The secret or private key of a stored slot. -/
def slotSecret (s : State) (i : Nat) : List Byte := toBE (secretLen (s.fd (Reg.keySlot i) 0 4)) (s.slotValue i)

/-- The secret or private key that a handle names (R411, R412): derivation is deterministic, and an evicted key is derived again on its
next use (R414). The fuel is the levels of R413. -/
def keyBytes (s : State) : Nat → Nat → List Byte
  | 0, _ => []
  | n + 1, h =>
    let i := field h 16 14
    match h / 2 ^ 30 % 4 with
    | 0 => s.slotSecret i
    | 1 => match s.dkeys.find? fun d => decide (d.index = i) with
      | some d => childKey (s.keyBytes n d.parent) d.label (s.childContext d.parent d.context) d.alg
      | none => []
    | 2 => []
    | _ => s.builtinKey i

end State
end Sys2Proof.Machine
end

