-- ==== Sys2Proof/Machine/SafCore.lean ====
section
/-! DEFINITION. The safety island's hold on the outputs (11_safety_functions.md R283, R290, R303, R304) and what makes a drive
output conduct (10_drive_outputs.md R253, R254): the part that acts before any record is made (R344). -/
namespace Sys2Proof.Machine.State

/-! The active safety parameter set (R311). -/

/-- A slot of the active safety parameter set. -/
def safeRd (s : State) (a : Nat) : Nat := (Tab.get resetVal s.safeSet a).toNat

/-- SAF_ST_MAP of the active set (layout of STL_MAP, R222). -/
def stMap (s : State) (stall : Nat) : Nat := s.safeRd (Reg.safStMap stall)

/-- Contactor outputs of a stall: DRV_A and DRV_B where enabled. -/
def outsOf (s : State) (stall : Nat) : List Nat :=
  let m := s.stMap stall
  (if maskBit m 6 then [field m 0 6] else []) ++ (if maskBit m 14 then [field m 8 6] else [])

/-- Feedback inputs of a stall's mapped contactors. -/
def fbsOf (s : State) (stall : Nat) : List Nat :=
  let m := s.stMap stall
  (if maskBit m 6 then [field m 16 6] else []) ++ (if maskBit m 14 then [field m 24 6] else [])

/-- Lock output of a stall, where LOCK_EN. -/
def lockOf (s : State) (stall : Nat) : List Nat :=
  let m := s.stMap stall
  if maskBit m 46 then [field m 40 6] else []

/-- The stall that an output serves, with its USE: 1 CONTACTOR, 2 LOCK (R254). -/
def userOf (s : State) (o : Nat) : Option (Nat × Nat) :=
  (List.range 32).findSome? fun t =>
    if o ∈ s.outsOf t then some (t, 1) else if o ∈ s.lockOf t then some (t, 2) else none

/-- USE of an output (R254). -/
def useOf (s : State) (o : Nat) : Nat :=
  match s.userOf o with
  | some (_, u) => u
  | none => 0

/-! Drive outputs. -/

/-- A condition of the output's bank that forces it off: UV, OV or GND_LOSS (R256, R274). -/
def bankOff (s : State) (o : Nat) : Bool :=
  let b := Reg.drvBankStat (o / 8)
  s.bit b 32 || s.bit b 35 || s.bit b 37

/-- REVERSE on the output's bank (R273). -/
def bankReverse (s : State) (o : Nat) : Bool := s.bit (Reg.drvBankStat (o / 8)) 36

/-- A protective stop of the output itself: SHORT wait, FUSE_TRIP, THERMAL_LATCH, RETRY_LATCH, CLAMP_HOT, SHED (R253). -/
def outStop (s : State) (o : Nat) : Bool :=
  let a := Reg.drvOutStat o
  s.bit a 6 || s.bit a 7 || s.bit a 8 || s.bit a 9 || s.bit a 12 || s.bit a 17

/-- The output conducts (R253, R273): both enables, no protective stop, DEMAND; every output of a reversed bank. -/
def conducts (s : State) (o : Nat) : Bool :=
  let a := Reg.drvOutStat o
  s.bankReverse o || (s.bit a 4 && s.bit a 5 && s.bit a 3 && !s.outStop o && !s.bankOff o)

/-- The output is on but for a dark pulse in progress, which is no transition (R269). -/
def drivenOn (s : State) (o : Nat) : Bool :=
  let a := Reg.drvOutStat o
  s.bankReverse o || ((decide (s.v .pulse o ≠ 0) || (s.bit a 4 && s.bit a 5)) && s.bit a 3 && !s.outStop o && !s.bankOff o)

/-- STATE of an output (R281). With NO_FW a coil is held fully on for the rest of that on period (R267). -/
def outState (s : State) (o : Nat) (on : Bool) : Nat :=
  let a := Reg.drvOutStat o
  let md := s.fd (Reg.drvOutCfg o) 3 2
  if s.bankOff o || s.bankReverse o || s.bit a 12 then 7
  else if s.bit a 7 || s.bit a 8 || s.bit a 9 || s.bit a 17 then 6
  else if s.bit a 6 then (if s.useOf o = 0 then 5 else 6)
  else if on then
    (if md = 1 then (if s.v .noFw o = 1 then 3 else if s.v .pullDone o = 1 then 2 else 1) else if md = 2 then 4 else 3)
  else 0

/-- Bring STATE, OUT_HIGH and the conduction summary of an output in line with what decides them. An off-to-on
transition starts pull-in and is counted (R267, R279); a dark pulse in progress is no transition (R269). -/
def drvRefresh (o : Nat) (s : State) : State :=
  let a := Reg.drvOutStat o
  let sum := if o < 32 then Reg.drvSumOnLo else Reg.drvSumOnHi
  let on := s.drivenOn o
  let was := s.bit sum (o % 32)
  let s1 := if on && !was then
      (((s.inc (Reg.drvOutCnt o) 0 16 1).setV .pullStart o s.counter).setV .pullDone o 0).setV .noFw o 0
    else s
  ((s1.hwf a 0 3 (s1.outState o on)).hwb a 16 (s.conducts o)).hwb sum (o % 32) on

/-- DRV_SUM_FAULT of an output (R282): SHORT, FUSE_TRIP, THERMAL_LATCH, RETRY_LATCH, NO_FW, CLAMP_HOT or SHED. -/
def drvFaultSum (o : Nat) (s : State) : State :=
  let a := Reg.drvOutStat o
  s.hwb (if o < 32 then Reg.drvSumFaultLo else Reg.drvSumFaultHi) (o % 32)
    (s.bit a 6 || s.bit a 7 || s.bit a 8 || s.bit a 9 || s.bit a 11 || s.bit a 12 || s.bit a 17)

/-- Both channels give or withdraw an output's enables (R283). -/
def setEnables (o : Nat) (on : Bool) (s : State) : State :=
  drvRefresh o ((s.hwb (Reg.drvOutStat o) 4 on).hwb (Reg.drvOutStat o) 5 on)

/-- Withdraw both enables of an output; a dark pulse in progress ends without a verdict (R284, R299). -/
def dropEnables (o : Nat) (s : State) : State := setEnables o false (s.setV .pulse o 0)

/-- TP_FAIL of an output (R317). -/
def tpFailSlot (o : Nat) : Nat := if o < 32 then Reg.safTpFailLo else Reg.safTpFailHi

/-- The island holds a FREE output off: in the common safe state (R254, R304) or after a failed pulse (R300). -/
def freeHeld (s : State) (o : Nat) : Bool :=
  s.bit Reg.safState 0 || s.bit (tpFailSlot o) (o % 32)

/-- Both channels give a FREE output its enables, unless the island holds it off or a dark pulse runs (R254). -/
def giveFree (o : Nat) (s : State) : State := if s.freeHeld o ∨ s.v .pulse o ≠ 0 then s else setEnables o true s

/-- Set or clear an output's DEMAND (R253). -/
def setDemand (o : Nat) (on : Bool) (s : State) : State := drvRefresh o (s.hwb (Reg.drvOutStat o) 3 on)

/-! Contactors, locks and trip outputs. -/

/-- Every mapped feedback input of the stall reads open. -/
def fbAllOpen (s : State) (stall : Nat) : Bool := (s.fbsOf stall).all fun i => decide (s.v .fb i = 0)

/-- Every mapped feedback input of the stall reads closed. -/
def fbAllClosed (s : State) (stall : Nat) : Bool :=
  (s.fbsOf stall).all (fun i => decide (s.v .fb i = 1)) && decide (s.fbsOf stall ≠ [])

/-- The stall is tripped (R303). -/
def tripped (s : State) (stall : Nat) : Bool := s.bit (Reg.safStStat stall) 0

/-- The common safe state is in force (R304). -/
def commonSafe (s : State) : Bool := s.bit Reg.safState 0

/-- The lock enable of a tripped stall goes once every mapped FB reads open; it stays, with LOCK_HELD, while a contactor
reads closed (R303). -/
def lockRefresh (stall : Nat) (s : State) : State :=
  if s.tripped stall then
    (s.lockOf stall).foldl (fun t o =>
      if t.fbAllOpen stall then (dropEnables o t).hwb (Reg.safStStat stall) 9 false
      else if t.bit (Reg.drvOutStat o) 4 then t.hwb (Reg.safStStat stall) 9 true else t) s
  else s.hwb (Reg.safStStat stall) 9 false

/-- Withdraw the contactor enables of a stall (R297, R303). A withdrawal with a current at or above OPEN_I_LIM is counted
in OPEN_UNDER_LOAD; the opening is then supervised from now (R296). -/
def withdraw (stall : Nat) (s : State) : State :=
  if s.bit (Reg.safStStat stall) 4 then
    let load := decide (field (s.safeRd (Reg.safStCtr stall)) 28 16 * 100 ≤ s.n .feedI stall)
    let s1 := (s.outsOf stall).foldl (fun t o => setDemand o false (dropEnables o t)) s
    let s2 := ((s1.hwb (Reg.safStStat stall) 4 false).hwb (Reg.safStStat stall) 3 false)
    let s3 := ((s2.setV .openAt stall (s2.counter + 1)).setV .closeAt stall 0).setV .openReq stall 0
    if load then (s3.inc (Reg.safStCnt stall) 16 16 1).evt (pageOf (Reg.safStCnt stall)) 19 else s3
  else
    let on := (s.outsOf stall).any fun o => s.bit (Reg.drvOutStat o) 4 || s.bit (Reg.drvOutStat o) 5
    let s1 := (s.outsOf stall).foldl (fun t o => setDemand o false (dropEnables o t)) s
    if on then s1.setV .openAt stall (s1.counter + 1) else s1

/-- Is any source of TRIP_OUT j present (R290)? -/
def tripOutSource (s : State) (j : Nat) : Bool :=
  let c := s.safeRd (Reg.safTout j)
  (List.range 16).any (fun k => maskBit c k && maskBit (s.safeRd (Reg.safTin k)) 33 && s.bit Reg.safTinStat k)
  || (maskBit c 16 && s.commonSafe)
  || (List.range 32).any fun t =>
      maskBit (s.stMap t) 35 && decide (field (s.stMap t) 32 3 = j) && (s.tripped t || decide (s.mode t = 8))

/-- Bring TRIP_OUT j in line with its sources: it asserts at once; once its last source has gone it waits for its
holding time (R290). -/
def tripOutRefresh (j : Nat) (s : State) : State :=
  if s.tripOutSource j then
    let s1 := s.setV .toutGone j 0
    if s.bit Reg.safToutStat j then s1 else (s1.hwb Reg.safToutStat j true).evt (pageOf Reg.safToutStat) (32 + j)
  else if s.bit Reg.safToutStat j ∧ s.v .toutGone j = 0 then s.setV .toutGone j (s.counter + 1)
  else s

/-- All eight trip outputs. -/
def tripOuts (s : State) : State := eachBelow 8 tripOutRefresh s

/-- STL cause of a trip code (R303). -/
def causeOfTrip : Nat → Nat
  | 0x08 => 0x28
  | 0x0D => 0x27
  | _ => 0x25

/-- A stall trip (R303), before its record: enables withdrawn, pilot forced to F, trip output, signal to STL. A further
code on a stall already tripped is held beside the first. The common safe state is no trip of the count (R304). -/
def tripRaw (stall code detail stlCause : Nat) (s : State) : State :=
  let st := Reg.safStStat stall
  let s0 := { s with trips := s.trips ++ [Trip.mk stall code detail s.counter] }
  let s1 := s0.setV .quiet stall s0.counter
  if s.tripped stall then s1
  else
    let s2 := (((withdraw stall s1).hwb st 8 true).hwb st 0 true).inc st 32 16 (decide (code ≠ 0x0D)).toNat
    let s3 := ((s2.setV .prfStep stall 0).hwb Reg.safTripped stall true).hwb st 5 false
    let s4 := (s3.hwf (Reg.safStCause stall) 0 8 code).hwf (Reg.safStCause stall) 8 8 detail
    let s5 := (lockRefresh stall s4).tripOuts
    ((s5.evt (pageOf st) 16).evt (pageOf Reg.safTripped) 18).trigger stall (.safe stlCause)

/-- Withdraw the enables of every output that no stall uses (R254, R304). -/
def freeDrop (s : State) : State := eachBelow 64 (fun o t => if t.useOf o = 0 then dropEnables o t else t) s

/-- The stalls not yet tripped, as a mask. -/
def untripped (s : State) : Nat := 2 ^ 32 - 1 - s.fd Reg.safTripped 0 32

/-- Entry into the common safe state, or a further cause while it is in force (R304), before its record. -/
def commonRaw (cause detail : Nat) (s : State) : State :=
  let s0 := ({ s with commons := s.commons ++ [Common.mk cause detail s.counter] }).setV .quiet 32 s.counter
  if s.commonSafe then s0
  else
    let a := Reg.safState
    let s1 := (((s0.hwb a 0 true).hwf a 8 8 cause).hwf a 16 8 detail).inc a 32 16 1
    let s2 := freeDrop s1
    let s3 := eachBelow 32 (fun t u => if u.tripped t then u else tripRaw t 0x0D detail 0x27 u) s2
    (s3.tripOuts).evt (pageOf a) 16

/-- SAFE_STATE_N is low: the common safe state is in force (R287). -/
def safeStateN (s : State) : Bool := !s.commonSafe

end Sys2Proof.Machine.State
end

