-- ==== Sys2Proof/Machine/Journal.lean ====
section
/-! DEFINITION. The granary journal (13_granary_journal.md): numbering, the record, space and its states, the safety reserve,
and the record each block submits. -/
namespace Sys2Proof.Machine

/-- Records of the general area (R355). -/
def generalRecords : Nat := 1015808

/-- Records of the safety reserve (R355). -/
def reserveRecords : Nat := 32768

/-- The number at which the granary is FULL for good (R341). -/
def numbersEnd : Nat := 0xFFFFFFF00000

/-- Bytes 0 to 59 of a record (R345). -/
def Record.body (r : Record) : List Byte :=
  toLE 6 r.seq ++ toLE 2 (r.cls % 16 * 4096 + r.code % 4096) ++ toLE 8 r.counter ++ toLE 6 r.tSec ++ toLE 4 r.tNs
    ++ toLE 1 r.source ++ toLE 1 r.flags ++ toLE 2 r.inst ++ toLE 1 r.actor ++ toLE 1 r.parts ++ toLE 24 r.payload
    ++ toLE 4 r.prev

/-- The 64 bytes of a record (R345). -/
def Record.bytes (r : Record) : List Byte := r.body ++ toLE 4 r.check

/-- Records that may enter the reserve: class SAFETY or GRANARY, and the SECURITY records of role sessions (R357). -/
def mayReserve (x : Submission) : Bool :=
  decide (x.cls = 8 ∨ x.cls = 0 ∨ (x.cls = 9 ∧ 1 ≤ x.code ∧ x.code ≤ 4))

namespace State

/-- FREE: general records that are free or acknowledged (R356). -/
def free (s : State) : Nat := s.fd Reg.jnlFree 0 20

/-- A state of R356: 0 LOW_SPACE, 1 FULL, 2 HALT, 3 EXHAUSTED. -/
def space (s : State) (i : Nat) : Bool := s.bit Reg.jnlStat i

/-- The granary numbers nothing for the moment: recovery (R363) or a JNL block restart (R364). -/
def jnlHalted (s : State) : Bool := s.bit Reg.jnlStat 5 || decide (s.v .ownerFault 0xC = 1)

/-- FLAGS of a record submitted now (R345): a gleaning bound carries GLEANED as well (R376). -/
def recordFlags (s : State) (x : Submission) : Nat :=
  (if s.timeValid then 0 else 1) + (if s.v .gleaning = 1 ∨ (x.cls = 5 ∧ x.code = 3) then 4 else 0)
    + (if s.bit Reg.metSealStat 0 then 16 else 0)

/-- The stamp of a record of an event at counter `c` (R69, R345). -/
def stampOf (s : State) (c : Nat) (x : Submission) : Stamp := ⟨c, s.timeAt c, s.recordFlags x⟩

/-- The record that part `i` of an entry becomes. -/
def makeRecord (s : State) (t : Stamp) (x : Submission) (i : Nat) (reserve : Bool) : Record :=
  let r : Record :=
    { seq := s.rd Reg.jnlHead, cls := x.cls, code := x.code, counter := t.counter, tSec := secsOf t.time, tNs := nsOf t.time,
      source := x.source, flags := t.flags + (if reserve then 2 else 0) + (if s.v .replay = 1 then 8 else 0), inst := x.inst,
      actor := x.actor, parts := i + (x.parts - 1) * 16, payload := x.payload / 2 ^ (192 * i) % 2 ^ 192,
      prev := (s.records.head?.map (·.check)).getD 0, check := 0 }
  { r with check := crc32c r.body }

/-- Drop the oldest record of the general area (R355): the list is newest first. -/
def dropOldestGeneral (l : List Record) : List Record :=
  match l.reverse.span (fun r => r.flags / 2 % 2 = 1) with
  | (a, _ :: b) => (a ++ b).reverse
  | (a, []) => a.reverse

/-- Drop the oldest record of the safety reserve (R357). -/
def dropOldestReserve (l : List Record) : List Record :=
  match l.reverse.span (fun r => r.flags / 2 % 2 = 0) with
  | (a, _ :: b) => (a ++ b).reverse
  | (a, []) => a.reverse

/-- One record enters the staging buffer: numbered, durable, counted against its area (R340, R342, R355, R357). -/
def storePart (t : Stamp) (x : Submission) (i : Nat) (reserve : Bool) (s : State) : State :=
  let r := s.makeRecord t x i reserve
  let ring := !reserve && decide (s.v .genStored = generalRecords)
  let rsv := reserve && decide (reserveRecords ≤ (s.records.filter fun x => decide (x.flags / 2 % 2 = 1)).length)
  let old := if ring then dropOldestGeneral s.records else if rsv then dropOldestReserve s.records else s.records
  let s1 := { s with records := r :: old }
  let s2 := (s1.hw Reg.jnlHead (r.seq + 1)).hw Reg.jnlDurable (r.seq + 1)
  let s3 := if ring || rsv then s2.hw Reg.jnlTail ((old.getLast?.map (·.seq)).getD r.seq)
            else if reserve then s2 else s2.addV .genStored 0 1
  let s4 : State := if s3.v .oldestAt = 0 then s3.setV .oldestAt 0 (s.counter + 1) else s3
  if reserve then
    let first := decide (s4.v .resUsed = 0)
    let s5 := (s4.addV .resUsed 0 1).hwf Reg.jnlFree 20 16 (reserveRecords - (s4.n .resUsed + 1))
    let s6 := s5.hwb Reg.jnlStat 4 true
    if first then s6.evt (pageOf Reg.jnlStat) 23 else s6
  else s4.hwf Reg.jnlFree 0 20 (s4.free - 1)

/-- All parts of an entry in one operation (R346). -/
def storeEntry (t : Stamp) (x : Submission) (reserve : Bool) (s : State) : State :=
  (List.range x.parts).foldl (fun u i => storePart t x i reserve u) s

/-- A record that finds no room is suppressed and counted (R356, R357). -/
def suppress (t : Stamp) (s : State) : State :=
  let s1 := s.inc Reg.jnlSuppr 0 32 1
  let s2 := if s1.v .suppressedN = 0 then s1.setV .supprFirst 0 t.time else s1
  (s2.setV .supprLast 0 t.time).addV .suppressedN 0 1

/-- The granary takes a record (R342, R356, R357, R363). -/
def append (t : Stamp) (x : Submission) (s : State) : State :=
  if s.jnlHalted then { s with waiting := s.waiting ++ [Waiting.mk x t] }
  else if mayReserve x then
    if x.parts ≤ s.free then storeEntry t x false s
    else if s.n .resUsed + x.parts ≤ reserveRecords then storeEntry t x true s
    else suppress t s
  else if s.space 3 = false ∧ x.parts ≤ s.free then storeEntry t x false s
  else suppress t s

/-- The granary takes a record of its own, of this instant. -/
def appendOwn (x : Submission) (s : State) : State := append (s.stampOf s.counter x) x s

/-- A record with one part. -/
def rec1 (source cls code inst actor : Nat) (fields : List (Nat × Nat)) : Submission :=
  ⟨source, cls, code, inst, actor, 1, packLE fields⟩

/-- Payload of a GRANARY space record (R560). -/
def spaceFields (s : State) : List (Nat × Nat) :=
  [(3, s.free), (2, reserveRecords - s.n .resUsed), (6, s.rd Reg.jnlAck)]

/-- Number that the next record of class SAFETY or GRANARY takes; 0 while nothing is numbered or it would be suppressed (R357). -/
def safetySeq (s : State) : Nat :=
  if s.jnlHalted then 0 else if 1 ≤ s.free ∨ s.n .resUsed < reserveRecords then s.rd Reg.jnlHead else 0

/-- The PROOF_RESULT record (R563): 1 pass, 2 fail, 3 aborted. -/
def proofRecord (stall res : Nat) : Submission :=
  rec1 9 8 0xA stall 0 [(1, if res = 2 then 0x0C else 0), (1, 0), (4, 2 ^ stall), (1, res)]

/-- Enter the common safe state, with its record and fault (R304, R563); `put` takes the record. It aborts every proof test (R302). -/
def commonWith (put : Submission → State → State) (cause detail : Nat) (s : State) : State :=
  let mask := if s.commonSafe then 0 else s.untripped
  let s0 := commonRaw cause detail s
  let s1 := faultMove 0x0902 cause 2 0 true s0.safetySeq (put (rec1 9 8 4 0xFFFF 0 [(1, cause), (1, detail), (4, mask)]) s0)
  each ((List.range 32).filter fun t => s.bit (Reg.safStStat t) 5 && !s1.bit (Reg.safStStat t) 5)
    (fun t u => put (proofRecord t 3) (u.hwf (Reg.safStProofStat t) 0 2 3)) s1

/-- Threshold of a state of R356. -/
def spaceThreshold (s : State) (i : Nat) : Nat :=
  match i with
  | 0 => s.fd Reg.jnlCfg 0 18
  | 1 => s.fd Reg.jnlCfg 18 18
  | 2 => 2048
  | _ => 1

/-- HALT takes every stall in a session mode to ENDING with cause GRANARY_FULL (R356). -/
def haltSessions (s : State) : State :=
  eachBelow 32 (fun t u => if u.inSession t then u.trigger t (.endSession 0x0D) else u) s

/-- Enter or leave one state of R356, with its flag, event, record and fault. -/
def spaceState (i : Nat) (s : State) : State :=
  let page := pageOf Reg.jnlStat
  let low := decide (s.free < s.spaceThreshold i) || (decide (i = 1) && s.bit Reg.jnlStat 7)
  if low && !s.space i then
    let s1 := (s.hwb Reg.jnlStat i true).evt page (17 + i)
    let s2 := appendOwn (rec1 0xC 0 (2 + i) 0xFFFF 0 s1.spaceFields) s1
    let s3 := faultMove 0x0C02 (1 + i) (if i = 3 then 2 else 0) 0 true s1.safetySeq s2
    if i = 2 then haltSessions s3
    else if i = 3 then commonWith appendOwn 0x0C 0 s3
    else s3
  else if s.space i && !low && decide (s.spaceThreshold i + 1024 ≤ s.free) then
    let s1 := s.hwb Reg.jnlStat i false
    let s2 := appendOwn (rec1 0xC 0 (0x802 + i) 0xFFFF 0 s1.spaceFields) s1
    let s3 := faultMove 0x0C02 (1 + i) (if i = 3 then 2 else 0) 0 false s1.safetySeq s2
    if i = 1 then s3.evt page 21
    else if i = 3 then
      let s4 := s3.setV .granaryClear 0 (s3.counter + 1)
      if 0 < s4.v .suppressedN then
        let f := s4.v .supprFirst
        let l := s4.v .supprLast
        let s5 := appendOwn
          (rec1 0xC 0 6 0xFFFF 0 [(4, s4.n .suppressedN), (6, secsOf f), (4, nsOf f), (6, secsOf l), (4, nsOf l)]) s4
        s5.setV .suppressedN 0 0
      else s4
    else s3
  else s

/-- The states of R356 follow FREE, and NUMBERS_END follows HEAD (R341, R367). -/
def spaceCheck (s : State) : State :=
  let s0 := if numbersEnd ≤ s.rd Reg.jnlHead ∧ s.bit Reg.jnlStat 7 = false then s.hwb Reg.jnlStat 7 true else s
  if s0.jnlHalted then s0 else spaceState 3 (spaceState 2 (spaceState 1 (spaceState 0 s0)))

/-- RECORDS_PENDING once HEAD - 1 - JNL_ACK reaches NOTIFY_N (R354). -/
def notifyCheck (s : State) : State :=
  let k := s.fd Reg.jnlNotify 0 18
  if k ≠ 0 ∧ k ≤ s.rd Reg.jnlHead - 1 - s.rd Reg.jnlAck ∧ s.v .notified = 0 then
    (s.evt (pageOf Reg.jnlStat) 16).setV .notified 0 1
  else s

/-- A record goes to the granary, and what follows HEAD and FREE. -/
def submitAs (t : Stamp) (x : Submission) (s : State) : State := notifyCheck (spaceCheck (append t x s))

/-- A block submits a record of an event at counter `c` (R342). -/
def submitAt (c : Nat) (x : Submission) (s : State) : State := submitAs (s.stampOf c x) x s

/-- A block submits a record of an event now. -/
def submit (x : Submission) (s : State) : State := submitAt s.counter x s

/-- Number that the next record takes; 0 while the granary numbers nothing or suppresses it (R356, R515). -/
def nextSeq (s : State) : Nat := if s.jnlHalted || s.space 3 then 0 else s.rd Reg.jnlHead

/-- A STATE record (R561). -/
def stateRec (source code inst old new cause : Nat) (more : List (Nat × Nat) := []) : Submission :=
  rec1 source 3 code inst 0 ([(2, old), (2, new), (2, cause)] ++ more)

/-- The first three read-only slots after the header of a page (R514). -/
def firstRoSlots (page : Nat) : List Nat :=
  match pageEntry page with
  | none => []
  | some (c, _) =>
    (((rowsOf c).filter fun r => decide (r.acc = .ro)).flatMap fun r =>
      (List.range (min r.count 3)).map fun k => page * 0x1000 + r.off + r.stride * k).take 3

/-- Addresses of the DETAIL slots of a fault (R514); 0 for none. -/
def detailAddrs (s : State) (code inst : Nat) : List Nat :=
  match code / 256 with
  | 0x06 => [Reg.stlMode inst, Reg.stlPilot inst, Reg.stlPp inst]
  | 0x07 => [Reg.vhsLink inst, Reg.vhsSess inst, Reg.vhsErrCnt inst]
  | 0x08 =>
    if code = 0x0802 then [Reg.drvBankStat inst, Reg.drvBankMax inst, 0]
    else [Reg.drvOutStat inst, Reg.drvOutMeas inst, Reg.drvBankStat (inst / 8)]
  | 0x09 =>
    if code = 0x0901 ∨ code = 0x0905 then [Reg.safStCause inst, Reg.safStStat inst, Reg.safChStat]
    else [Reg.safState, 0, Reg.safChStat]
  | 0x04 =>
    if code = 0x0402 ∨ code = 0x0403 then
      [Reg.metInStat inst, Reg.metInSample inst, Reg.metMclk (s.fd (Reg.metInCfg inst) 2 4)]
    else if code = 0x0401 then [0, 0, Reg.metMclk inst]
    else firstRoSlots (pageOf Reg.metSealStat)
  | 0x03 => [Reg.netPStat inst, Reg.netPDrop inst, Reg.netStat]
  | 0xFE => [Reg.fltPart, if inst = 0 then Reg.jnlPartA else Reg.jnlPartB, Reg.vhsToStat]
  | 0x00 => firstRoSlots 1
  | 0x0A => firstRoSlots (0xA01 + inst)
  | 0x0F => firstRoSlots (if inst = 0 then 0xF00 else 0xF01)
  | 0x10 => firstRoSlots (if code = 0x1002 then 0x1000 + inst else 0x1000)
  | b => firstRoSlots (b * 256)

/-- DETAIL of a fault: three slot values (R514). -/
def faultDetail (s : State) (code inst : Nat) : List Nat :=
  (s.detailAddrs code inst).map fun a => if a = 0 then 0 else s.rd a

/-- A fault of the catalogue enters or exits at its owning block, with the FAULT record (R508, R561). -/
def fault (code inst scope stalls : Nat) (entry : Bool) (s : State) : State :=
  if s.faultOn code inst = entry then s
  else
    let q := s.nextSeq
    let src := if code / 256 = 0xFE then 0x11 else code / 256
    let s1 := submit (rec1 src 3 0xF00 inst 0
      ([(2, 1 - entry.toNat), (2, entry.toNat), (2, code)] ++ (s.faultDetail code inst).map fun d => (6, d))) s
    faultMove code inst scope stalls entry q s1

end State
end Sys2Proof.Machine
end

