-- ==== Sys2Proof/Machine/Safe.lean ====
section
/-! DEFINITION. Trips and the common safe state with their records, events and faults (11_safety_functions.md R303 to R305,
R563; 21_faults_and_service.md R508): the operations every block's reaction calls. -/
namespace Sys2Proof.Machine.State

/-- Enter the common safe state with a cause of R304. -/
def commonEnter (cause detail : Nat) (s : State) : State := commonWith submit cause detail s

/-- Enter the common safe state for a cause that is not yet in force with this detail; one in force is seen again. -/
def commonOnce (cause detail : Nat) (s : State) : State :=
  if s.commons.any fun c => decide (c.cause = cause ∧ c.detail = detail) then s.setV .quiet 32 s.counter
  else commonEnter cause detail s

/-- The result of a proof test and its record (R302, R563). -/
def proofRec (stall res : Nat) (s : State) : State := submit (proofRecord stall res) (s.hwf (Reg.safStProofStat stall) 0 2 res)

/-- A proof test in progress is aborted: all enables are withdrawn at once (R302). -/
def proofAbort (stall : Nat) (s : State) : State :=
  if s.bit (Reg.safStStat stall) 5 then proofRec stall 3 (withdraw stall ((s.setV .prfStep stall 0).hwb (Reg.safStStat stall) 5 false))
  else s

/-- A stall trip with a code of R303: the protective action first (R344), then its record, fault and SAF_ST_CAUSE. A code
already held on the stall is not held twice. `stlCause` is the cause of R202 that STL takes. -/
def tripAs (stall code detail stlCause : Nat) (s : State) : State :=
  if s.trips.any fun t => decide (t.stall = stall ∧ t.code = code ∧ t.detail = detail) then
    s.setV .quiet stall s.counter
  else
    let first := !s.tripped stall
    let proving := s.bit (Reg.safStStat stall) 5
    let firstCode := s.fd (Reg.safStCause stall) 0 8
    let s1 := tripRaw stall code detail stlCause s
    let q := s1.safetySeq
    if first then
      let s2 := submit (rec1 9 8 1 stall 0 [(1, code), (1, detail), (4, 2 ^ stall)]) s1
      let s3 := faultMove 0x0901 stall 1 (2 ^ stall) true q (s2.hwf (Reg.safStCause stall) 16 32 q)
      if proving then proofRec stall 3 s3 else s3
    else submit (rec1 9 8 2 stall 0 [(1, code), (1, detail), (4, 2 ^ stall), (1, firstCode)]) s1

/-- A stall trip with the STL cause that R303 gives its code. -/
def trip (stall code detail : Nat) (s : State) : State := tripAs stall code detail (causeOfTrip code) s

/-- Trip every stall of a mask, in ascending order. -/
def tripMask (mask code detail : Nat) (s : State) : State :=
  eachBelow 32 (fun t u => if maskBit mask t then trip t code detail u else u) s

end Sys2Proof.Machine.State
end

