-- ==== Sys2Proof/Machine/Tim.lean ====
section
/-! DEFINITION. The time block (03_time_base.md): steps, slews and rate, the clock state machine, the servo, the PTP engine and
the pulse per second. -/
namespace Sys2Proof.Machine

/-- Write statuses of R43. -/
def stAccepted : Nat := 0x01
def stDuplicate : Nat := 0x02
def stGuardMiss : Nat := 0x10
def stContradicted : Nat := 0x11
def stDenied : Nat := 0x12
def stNoToken : Nat := 0x13
def stBusy : Nat := 0x14
def stRefused : Nat := 0x15
def stMalformed : Nat := 0x16
def stGranaryFull : Nat := 0x17
def stUnmapped : Nat := 0x18
def stBadWidth : Nat := 0x19
def stLinkCrc : Nat := 0x1A
def stLinkFormat : Nat := 0x1B
def stReadOnly : Nat := 0x1C

/-- One second in units of 2^-16 ns. -/
def unitSec : Int := 10 ^ 9 * 2 ^ 16

/-- The limit of the base rate and of base rate plus slew term (R67). -/
def rateLimit : Int := 281474976711

/-- A slew of `ppm` in units of 2^-48, rounded to the nearest unit as the limit of R67 is (log entry 9). -/
def ppmRate (ppm : Nat) : Int := (ppm * 2 ^ 48 + 500000) / 1000000

namespace State

/-- Page number of TIM page 0. -/
def timPage : Nat := 0x200

/-- STATE of the clock (R71). -/
def clock (s : State) : Nat := s.fd Reg.timState 3 3

/-- SOURCE of the clock (R71). -/
def clockSource (s : State) : Nat := s.fd Reg.timState 0 3

/-- MODE of the discipline (R72). -/
def timMode (s : State) : Nat := s.fd Reg.timMode 0 2

/-- Holdover limit in ns (R81). -/
def holdoverNs (s : State) : Nat := s.fd Reg.timHoldoverLim 0 10 * 3600 * 10 ^ 9

/-- Restart the countdown of VALID_LEFT (R81). -/
def restartValid (s : State) : State := s.setV .validEnd 0 (s.counter + s.holdoverNs)

/-- Move the clock to a state and source (R79), with TIME_VALID (R81), the events and the CLOCK_STATE record (R561). -/
def setClock (st src cause : Nat) (s : State) : State :=
  let old := s.clock
  let oldSrc := s.clockSource
  let src' := if st = 0 then 0 else src
  if old = st ∧ oldSrc = src' then s
  else
    let was := s.timeValid
    let s1 := ((s.hwf Reg.timState 3 3 st).hwf Reg.timState 0 3 src').hwb Reg.timState 8 (decide (st ≠ 0))
    let s2 := if old = st then s1 else s1.evt timPage 18
    let s3 := if was ∧ st = 0 then s2.evt timPage 19 else if !was ∧ st ≠ 0 then s2.evt timPage 20 else s2
    let s4 := if st = 0 then s3.setV .servoSeen 0 0 else if st = 3 then s3.setV .everLocked 0 1 else s3
    let s5 := if st = 0 ∧ s4.bit Reg.timPpsOutCfg 1 then s4.setV .ppsOut 0 0 else s4
    submit (stateRec 2 1 0xFFFF old st cause [(1, oldSrc), (1, src')]) s5

/-! The modulator grid (R93, R133, R137): its time runs with the counter and the base rate, and takes part in no step and no slew.
After one, each MCLK frequency is steered by 10 ppm to the nearest phase that puts its sample windows on corrected seconds. -/

/-- Bit period in ns of a FREQ (R98). -/
def bitNs : Nat → Nat
  | 0 => 200
  | 1 => 100
  | 2 => 80
  | 3 => 60
  | _ => 50

/-- Main-path period in ns of a FREQ (R98). -/
def mainNs (f : Nat) : Nat := 625 * bitNs f

/-- What a change of rate from `b` to `r` has made of corrected time between two counter values, units of 2^-16 ns (R66). -/
def rateGain (r b : Int) (c0 c : Nat) : Int := ((c : Int) * r / 2 ^ 32 - c0 * r / 2 ^ 32) - ((c : Int) * b / 2 ^ 32 - c0 * b / 2 ^ 32)

/-- A slew term is in force (R71). -/
def slewing (s : State) : Bool := s.bit Reg.timState 10

/-- Adjustment that the slew in force has accumulated at a counter value (R73), units of 2^-16 ns. -/
def slewed (s : State) (c : Nat) : Int :=
  if s.slewing then s.v .slewAcc + rateGain s.rate s.baseRate (s.n .slewFrom) c else 0

/-- Time without steps and slews since power-on at a counter value (R133), units of 2^-16 ns. -/
def baseTime (s : State) (c : Nat) : Int := convert s.offset s.rate c - s.v .gridShift - s.slewed c

/-- Displacement of the grid of a FREQ at a base time: steered by 10 ppm from where its steering began to where it ends. -/
def gridAdj (s : State) (f : Nat) (b : Int) : Int :=
  let a0 := s.v .gridFromAdj f
  let a1 := s.v .gridToAdj f
  let k := max 0 ((b - s.v .gridSteerAt f) / 100000)
  if (a1 - a0).natAbs ≤ k then a1 else if a0 < a1 then a0 + k else a0 - k

/-- Grid time of a FREQ at a counter value, units of 2^-16 ns. -/
def gridUnits (s : State) (f c : Nat) : Int := s.baseTime c + s.gridAdj f (s.baseTime c)

/-- Base time of a grid instant of a FREQ, given in ns; the second round is exact to below a unit. -/
def gridBase (s : State) (f g : Nat) : Int :=
  let u : Int := (g : Nat) * 2 ^ 16
  u - s.gridAdj f (u - s.gridAdj f (u - s.v .gridToAdj f))

/-- Counter value at a base time, rounded down. -/
def baseCounter (s : State) (b : Int) : Nat :=
  let k := s.offset - s.v .gridShift -
    (if s.slewing then s.v .slewAcc + (s.n .slewFrom * s.baseRate / 2 ^ 32 - s.n .slewFrom * s.rate / 2 ^ 32) else 0)
  ((b - k) * 2 ^ 32 / (2 ^ 48 + s.baseRate)).toNat

/-- Corrected time of a grid instant of a FREQ (R69): that of its counter value, with the part of a ns that is left. -/
def gridTimeOf (s : State) (f g : Nat) : Int :=
  let b := s.gridBase f g
  let c := s.baseCounter b
  s.timeAt c + (b - s.baseTime c)

/-- The phase nearest to `a` in which the windows of a FREQ end on corrected seconds. -/
def gridPhase (f : Nat) (shift a : Int) : Int :=
  let p : Int := mainNs f * 2 ^ 16
  a + ((shift - a + p / 2) % p - p / 2)

/-- The grid is in phase: no slew, and every FREQ within 2 ns (R93). -/
def gridInPhase (s : State) : Bool :=
  !s.slewing && (List.range 5).all fun f =>
    decide ((s.v .gridToAdj f - s.gridAdj f (s.baseTime s.counter)).natAbs ≤ 2 * 2 ^ 16)

/-- GRID_ALIGNED (R71, R93). -/
def gridShow (s : State) : State := s.hwb Reg.timState 11 s.gridInPhase

/-- Corrected time has moved by `d` at counter `c` beside the base rate: the grid keeps running and is steered to its new phase. -/
def gridMoved (d : Int) (c : Nat) (s : State) : State :=
  let s1 := s.addV .gridShift 0 d
  let b := s1.baseTime c
  (eachBelow 5 (fun f t =>
    let a := s.gridAdj f b
    ((t.setV .gridFromAdj f a).setV .gridToAdj f (gridPhase f (t.v .gridShift) a)).setV .gridSteerAt f b) s1).hwb Reg.timState 11 false

/-- The grid starts with the time it is seeded with; its first phase is free (R93, log entry 6). -/
def gridStart (s : State) : State :=
  let b := s.baseTime s.counter
  (eachBelow 5 (fun f t =>
    let p : Int := mainNs f * 2 ^ 16
    (((t.setV .gridFromAdj f ((t.draw 64 : Int) % p - p / 2)).setV .gridToAdj f 0).setV .gridSteerAt f b).drawn) s).hwb Reg.timState 11 false

/-! Rates, slews and steps. -/

/-- The set in force is kept for stamps of events before counter `c` (R69). -/
def keepSet (c : Nat) (s : State) : State := { s with clockSets := ⟨c, s.offset, s.rate, s.baseRate⟩ :: s.clockSets }

/-- Change the rate at counter `c` without a jump of corrected time (R68): base rate and slew term are replaced and
q_old(c) - q_new(c) is added to the offset. -/
def setRates (base slew : Int) (c : Nat) (s : State) : State :=
  let o := s.offset + c * s.rate / 2 ^ 32 - c * (base + slew) / 2 ^ 32
  let acc := s.slewed c
  let s1 := ((keepSet c s).setOffset o).hw Reg.timRate (unsigned 48 base)
  ((s1.setV .slewTerm 0 slew).setV .slewAcc 0 acc).setV .slewFrom 0 c

/-- A new base rate at counter `c`; a slew goes on. -/
def setBase (base : Int) (c : Nat) (s : State) : State :=
  if base = s.baseRate then s else setRates base (s.v .slewTerm) c s

/-- The slew in force ends at counter `c` (R73); what it has accumulated stays, and the grid is steered to it (R93). -/
def slewStop (c : Nat) (s : State) : State :=
  if s.slewing then
    let acc := s.slewed c
    let s1 := (setRates s.baseRate 0 c s).hwb Reg.timState 10 false
    let s2 := ((s1.setV .slewAcc 0 0).setV .slewParam 0 0).setV .slewFrom 0 0
    gridMoved acc c ((s2.setV .slewLast 0 0).setV .slewDone 0 0)
  else s

/-- A slew term of `term` is in force from counter `c` until it has adjusted corrected time by `p` (R73). -/
def slewStart (term p : Int) (c : Nat) (s : State) : State :=
  let s1 := slewStop c s
  if term = 0 ∨ p = 0 then s1
  else
    let s2 := ((setRates s1.baseRate term c s1).hwb Reg.timState 10 true).hwb Reg.timState 11 false
    (s2.setV .slewAcc 0 0).setV .slewParam 0 p

/-- A step of the offset by `d` units at counter `c` (R75), with its counts, events and CLOCK_STEP record (R562). -/
def step (d : Int) (c : Nat) (servo : Bool) (s : State) : State :=
  let t0 := convert s.offset s.rate c
  let s1 := (keepSet c s).setOffset (s.offset + d)
  let t1 := t0 + d
  let back := decide (d < 0)
  let s2 := (s1.inc Reg.timStepCnt 0 16 1).setV .stepAt (s1.fd Reg.timStepCnt 0 16 % 16) (c + 1)
  let s3 := if back then s2.inc Reg.timStepCnt 16 16 1 else s2
  let s4 := (s3.hw Reg.timLastStepSec (unsigned 48 (Int.tdiv d unitSec))).hwf Reg.timLastStepNs 0 32
    (unsigned 32 (Int.tdiv (Int.tmod d unitSec) (2 ^ 16)))
  let s5 := s4.evt timPage 16
  let s6 := if back then s5.evt timPage 17 else s5
  let x := rec1 2 7 0x30 0xFFFF 0 [(6, secsOf t0), (4, nsOf t0), (6, secsOf t1), (4, nsOf t1),
    (1, back.toNat + 2 * servo.toNat)]
  gridMoved d c (submitAt c x s6)

/-! The end of a slew (R73): its last cycle takes the remainder, at a rate that makes the sum exact. -/

/-- The slew term of the last cycle, from counter `c`: the one of a few near the remainder with which the cycle adds exactly that. -/
def lastTerm (s : State) (c : Nat) : Int :=
  let rem := s.v .slewParam - s.slewed c
  let want := rem + ((c + 1000 : Nat) * s.baseRate / 2 ^ 32 - c * s.baseRate / 2 ^ 32)
  let r0 := (want * 2 ^ 32 + 999) / 1000 - s.baseRate
  ([0, 1, 2, 3, -1, -2].map (r0 + ·)).find? (fun r => decide (rateGain (s.baseRate + r) s.baseRate c (c + 1000) = rem)) |>.getD r0

/-- The boundary at which the last cycle of the slew begins, or ends. -/
def slewFinish (s : State) : State :=
  let c := s.counter
  let ends (e : Nat) : State :=
    let left := s.v .slewParam - s.slewed e
    let s1 := slewStop e s
    if left = 0 then s1 else (s1.setOffset (s1.offset + left)).addV .gridShift 0 left
  if s.slewing = false then s
  else if s.v .slewDone ≠ 0 ∧ s.v .slewDone ≤ c then ends (s.n .slewDone)
  else if s.v .slewLast ≠ 0 ∧ s.v .slewLast ≤ c ∧ s.v .slewDone = 0 then
    if 0 < (s.v .slewParam - s.slewed c) * s.v .slewParam then (setRates s.baseRate (s.lastTerm c) c s).setV .slewDone 0 (c + 1000)
    else ends c
  else s

/-- A change that waits for the boundary. -/
def later (x : ClockChange) (s : State) : State := { s with clockQ := s.clockQ ++ [x] }

/-- One kind of the waiting changes, at the boundary at `c`. -/
def clockChange (k c : Nat) (x : ClockChange) (s : State) : State :=
  match x with
  | .base r => if k = 0 then setBase r c s else s
  | .slew t p => if k = 1 then slewStart t p c s else s
  | .step d v => if k = 2 then step d c v s else s
  | .leap => s

/-- The changes of the cycle that ends: rates, then slews, then steps (R76). The leap second follows the writes. -/
def clockDue (s : State) : State :=
  let q := s.clockQ
  let s0 := slewFinish { s with clockQ := q.filter fun x => decide (x = .leap) }
  eachBelow 3 (fun k t => each q (clockChange k t.counter) t) s0

/-- The base rate once the waiting changes are made. -/
def nextBase (s : State) : Int :=
  s.clockQ.foldl (fun r x => match x with
    | .base b => b
    | _ => r) s.baseRate

/-! The TIM command group (R73, R74, R567). -/

/-- The parameter P of STEP_BY and SLEW_BY, units of 2^-16 ns (R567). -/
def timParam (s : State) (m : Master) : Int :=
  signed 48 (s.rdB m Reg.timParamSec) * unitSec + signed 48 (s.rdB m Reg.timParamNs)

/-- TIM_PARAM_NS as a signed magnitude of 10^9 ns or more (R567). -/
def timNsBad (s : State) (m : Master) : Bool := decide (unitSec ≤ (signed 48 (s.rdB m Reg.timParamNs)).natAbs)

/-- The slew term a SLEW_BY asks for: ARGUMENT [8:0] ppm, 0 meaning 100, with the parameter's sign (R73). -/
def slewAsked (s : State) (m : Master) (arg : Nat) : Int :=
  let ppm := if field arg 0 9 = 0 then 100 else field arg 0 9
  if s.timParam m < 0 then -ppmRate ppm else if s.timParam m = 0 then 0 else ppmRate ppm

/-- A total rate outside the limit of R67. -/
def rateBad (r : Int) : Bool := decide (r < -rateLimit ∨ rateLimit < r)

/-- The answer of the time block to a command (R72 to R74, R567). -/
def timAnswer (m : Master) (code arg : Nat) (s : State) : Nat :=
  match code with
  | 1 =>
    if s.timMode = 1 then stRefused
    else if 10 ^ 9 ≤ field (s.rdB m Reg.timParamNs) 16 32 then stMalformed
    else if s.timMode = 2 ∧ s.rdB m Reg.timParamNs ≠ 0 then stMalformed
    else if signed 48 (s.rdB m Reg.timParamSec) < 0 then stRefused
    else stAccepted
  | 2 => if s.timMode ≠ 0 then stRefused else if s.timNsBad m then stMalformed else stAccepted
  | 3 =>
    if s.timMode ≠ 0 then stRefused
    else if s.timNsBad m ∨ unitSec < (s.timParam m).natAbs ∨ 500 < field arg 0 9 then stMalformed
    else if s.bit Reg.timState 10 ∨ rateBad (s.baseRate + s.slewAsked m arg) then stRefused
    else stAccepted
  | 4 =>
    let r := signed 48 (s.rdB m Reg.timParamSec)
    if s.timMode ≠ 0 then stRefused
    else if rateBad r ∨ rateBad (r + s.v .slewTerm) then stRefused
    else stAccepted
  | 5 => if field arg 16 2 = 3 then stMalformed else stAccepted
  | _ => stMalformed

/-- An accepted STEP_TO, STEP_BY, SLEW_BY or SET_RATE makes the source HOST and restarts the countdown (R79, R81). -/
def hostTime (cause : Nat) (s : State) : State :=
  if s.clock = 1 then restartValid (setClock 1 2 cause s) else s

/-- STEP_TO (R73). -/
def stepTo (m : Master) (s : State) : State :=
  if s.timMode = 0 then
    let target := (s.rdB m Reg.timParamSec : Int) * unitSec + s.rdB m Reg.timParamNs
    let s1 := step (target - s.now) s.counter false s
    if s1.clock = 0 then restartValid (setClock 1 2 3 s1) else hostTime 3 s1
  else s.setV .ppsNextSec 0 (s.rdB m Reg.timParamSec + 1)

/-- STEP_BY (R73). -/
def stepBy (m : Master) (s : State) : State := hostTime 3 (step (s.timParam m) s.counter false s)

/-- SLEW_BY (R73): a parameter of 0 completes at once with no slew term in force. -/
def slewBy (m : Master) (arg : Nat) (s : State) : State :=
  let p := s.timParam m
  if p = 0 then hostTime 3 s
  else hostTime 3 (slewStart (s.slewAsked m arg) p s.counter s)

/-- SET_RATE (R73), continuous under R68. -/
def setRate (m : Master) (s : State) : State :=
  hostTime 3 (setBase (signed 48 (s.rdB m Reg.timParamSec)) s.counter s)

/-- UTC day of the corrected time now. -/
def utcDay (s : State) : Int := (s.now / unitSec - s.fd Reg.timUtc 0 16) / 86400

/-- SET_UTC (R73, R77). -/
def setUtc (arg : Nat) (s : State) : State :=
  let s1 := s.hwf Reg.timUtc 0 18 (field arg 0 18)
  s1.setV .leapDay 0 s1.utcDay

/-- What an accepted TIM command does at its committing boundary. -/
def timEffect (m : Master) (code arg : Nat) (s : State) : State :=
  match code with
  | 1 => stepTo m s
  | 2 => stepBy m s
  | 3 => slewBy m arg s
  | 4 => setRate m s
  | 5 => setUtc arg s
  | _ => s

/-- SLEW_END (R73): in the cycle after the next boundary the accumulated adjustment would reach the parameter, so that cycle is the
last and takes the remainder. -/
def slewEnd (s : State) : State :=
  let p := s.v .slewParam
  let c := (s.counter / 1000 + 1) * 1000
  if s.slewing ∧ s.v .slewLast = 0 ∧ p.natAbs ≤ (s.slewed (c + 1000)).natAbs then s.setV .slewLast 0 c else s

/-! Clock state machine and servo (R79 to R81). -/

/-- Source of the discipline mode: 3 PTP, 4 PPS_IN. -/
def modeSource (md : Nat) : Nat := if md = 1 then 3 else 4

/-- A committed TIM_MODE: what the change of MODE does to the clock (R79). -/
def timModeSet (old : Nat) (s : State) : State :=
  let md := s.timMode
  if md = old then s
  else if md = 0 then
    if 2 ≤ s.clock then restartValid (setClock 1 2 2 (slewStop s.counter s)) else s
  else if s.clock = 1 ∨ s.clock = 2 ∨ s.clock = 3 then
    ((setClock 2 (modeSource md) 2 s).setV .lockRun 0 0).setV .unlockRun 0 0
  else s

/-- Clock state after an update with offset estimate `e` (R79): lock and unlock runs. -/
def lockUpdate (e : Nat) (s : State) : State :=
  let lk := s.fd Reg.timServo 8 16 * 2 ^ 16
  if s.clock = 2 then
    if e ≤ lk then
      let s1 := s.addV .lockRun 0 1
      if 16 ≤ s1.v .lockRun then ((setClock 3 s1.clockSource 1 s1).setV .lockRun 0 0).setV .unlockRun 0 0 else s1
    else s.setV .lockRun 0 0
  else if s.clock = 3 then
    if 4 * lk < e then
      let s1 := s.addV .unlockRun 0 1
      if 4 ≤ s1.v .unlockRun then ((setClock 2 s1.clockSource 1 s1).setV .lockRun 0 0).setV .unlockRun 0 0 else s1
    else s.setV .unlockRun 0 0
  else s

/-- A measurement of a source, 1 PTP or 2 PPS_IN: the offset estimate (R70), and work for the servo. `off` is the source minus
corrected time, units of 2^-16 ns. -/
def measured (src : Nat) (off : Int) (s : State) : State :=
  ((s.hw Reg.timOfsEst (saturateSigned 48 off)).setV .measNew 0 src).setV .measOff 0 off

/-- The base rate of a proportional-integral loop in its velocity form (R80); the gains for LOOP_TC are free (log entry 10). -/
def loopRate (off : Int) (s : State) : Int :=
  let tc := s.fd Reg.timServo 0 4
  let dt := (s.counter - s.n .measAt)
  let prev := if s.v .loopOn = 1 then s.v .measPrev else off
  let r := s.nextBase + (Config.servoGain 0 tc dt * (off - prev) + Config.servoGain 1 tc dt * off) / 2 ^ 32
  max (-rateLimit) (min rateLimit r)

/-- The servo corrects a measurement (R80): a step, a slew within SLEW_MAX whose size is free (log entry 10), or the loop. -/
def servoActs (off : Int) (s : State) : State :=
  let first := decide (s.v .servoSeen = 0)
  let s1 := s.setV .servoSeen 0 1
  if s1.fd Reg.timMode 16 16 * 1000 * 2 ^ 16 < off.natAbs then
    let s2 := s1.setV .loopOn 0 0
    if first || s2.bit Reg.timMode 2 then later (.step off true) (later (.slew 0 0) s2)
    else
      let room := rateLimit - (if off < 0 then -s2.nextBase else s2.nextBase)
      let mx := max 0 (min (ppmRate (s2.fd Reg.timMode 32 9)) room)
      let k := if mx = 0 then 0 else (s2.draw 48 : Int) % mx + 1
      (later (.slew (if off < 0 then -k else k) off) s2).drawn
  else (later (.base (s1.loopRate off)) (later (.slew 0 0) s1)).setV .loopOn 0 1

/-- SERVO_UPDATE (R79, R80): a measurement of the source of the discipline mode is handled; one of another source is not. -/
def servoUpdate (s : State) : State :=
  if s.v .measNew = 0 then s
  else if s.v .measNew ≠ s.timMode then s.setV .measNew 0 0
  else
    let off := s.v .measOff
    let s1 := s.setV .measNew 0 0
    let s2 := if s1.clock = 0 ∨ s1.clock = 4 then (setClock 2 (modeSource s1.timMode) 1 s1).setV .lockRun 0 0 else s1
    ((lockUpdate off.natAbs (servoActs off s2)).setV .measPrev 0 off).setV .measAt 0 s.counter

/-- VALID_LEFT reaches 0 (R79, R81). -/
def validExpiry (s : State) : State :=
  if (s.clock = 1 ∨ s.clock = 4) ∧ s.v .validEnd ≤ s.counter then setClock 0 0 5 s else s

/-- VALID_LEFT as a read forms it (R71, R81). -/
def validLeft (s : State) : Nat :=
  if s.clock = 1 ∨ s.clock = 4 then saturate 32 ((s.v .validEnd - s.counter + 999999999) / 1000000000).toNat
  else 0xFFFFFFFF

/-- Into HOLDOVER from ACQUIRING or LOCKED (R79): the base rate stays, a slew ends at the boundary (log entry 10). -/
def holdover (cause : Nat) (s : State) : State :=
  if s.clock = 2 ∨ s.clock = 3 then restartValid (setClock 4 s.clockSource cause ((later (.slew 0 0) s).setV .loopOn 0 0)) else s

/-- The announced leap second at the end of its UTC day (R77), for the boundary that follows. -/
def leapSecond (s : State) : State :=
  if s.fd Reg.timUtc 16 2 ≠ 0 ∧ s.v .leapDay < s.utcDay ∧ ClockChange.leap ∉ s.clockQ then later .leap s else s

/-- The UTC offset moves at the boundary, after everything else there (R76, R77). -/
def leapDue (s : State) : State :=
  if ClockChange.leap ∈ s.clockQ then
    let s1 : State := { s with clockQ := s.clockQ.filter fun x => decide (x ≠ .leap) }
    if s1.fd Reg.timUtc 16 2 = 0 ∨ s1.utcDay ≤ s1.v .leapDay then s1
    else
      let o := s1.fd Reg.timUtc 0 16
      ((s1.hwf Reg.timUtc 0 16 (if s1.bit Reg.timUtc 16 then o + 1 else o + 65535)).hwf Reg.timUtc 16 2 0).evt timPage 21
  else s

/-! PTP engine (R82 to R88). -/

/-- PTP runs on a port (R85, R87). -/
def ptpOn (s : State) (port : Nat) : Bool := s.bit Reg.timPtpPort (8 * port)

/-- A port measures peer delay (R85, R87). -/
def peerDelay (s : State) (port : Nat) : Bool := s.ptpOn port && s.bit Reg.timPtpPort (8 * port + 1)

/-- PTP is carried on a port: PTP_EN, the message's transport and domain are enabled (R85, R87). -/
def ptpTakes (s : State) (port : Nat) (g : PtpMsg) : Bool :=
  s.ptpOn port && s.bit Reg.timPtpCfg (8 + g.transport % 3) && decide (g.domain = s.fd Reg.timPtpCfg 0 7)

/-- ING_FIX and ING_ASYM, EGR_FIX and EGR_ASYM of a port, units of 2^-16 ns (R82, R83); the internal port has none. -/
def ingressFix (s : State) (port : Nat) : Int :=
  if 4 ≤ port then 0 else (s.fd (Reg.timEFix port) 0 24 * 2 ^ 8 : Nat) + signed 48 (s.rd (Reg.timEIngAsym port))

/-- The correction of an egress stamp. -/
def egressFix (s : State) (port : Nat) : Int :=
  if 4 ≤ port then 0 else (s.fd (Reg.timEFix port) 24 24 * 2 ^ 8 : Nat) + signed 48 (s.rd (Reg.timEEgrAsym port))

/-- Ingress stamp of a frame, moved to the reference plane (R82), as corrected time. -/
def ingressStamp (s : State) (port mac : Nat) : Int := s.timeAt mac - s.ingressFix port

/-- Egress stamp of a frame, moved to the reference plane (R82), as corrected time. -/
def egressStamp (s : State) (port mac : Nat) : Int := s.timeAt mac + s.egressFix port

/-- The path delay in use on a port: link delay with peer delay, else the mean path delay (R85). -/
def pathDelay (s : State) (port : Nat) : Int :=
  if s.peerDelay port then s.rd (Reg.timELinkDelay port) else s.rd Reg.timPtpMpd

/-- A port is the slave port (R87): portState UNCALIBRATED or SLAVE. -/
def isSlave (s : State) (port : Nat) : Bool :=
  (decide (s.fd Reg.timPtpStat 0 4 = 8) || decide (s.fd Reg.timPtpStat 0 4 = 9)) && decide (s.fd Reg.timPtpStat 4 3 = port)

/-- The ordinary clock sends a message. -/
def ptpSend (x : PtpOut) (s : State) : State := { s with ptpOut := s.ptpOut ++ [x] }

/-- A delay request leaves a port at the end of an exchange (R85): 1 Delay_Req, 2 Pdelay_Req. -/
def delayRequest (port kind : Nat) (s : State) : State :=
  ptpSend ⟨port, if kind = 1 then .delayReq else .pdelayReq, s.egressStamp port s.counter, 0⟩
    ((s.setV .reqOut port kind).addV .delaySent port 1)

/-- A Sync difference becomes a measurement, unless the port still estimates its path only (R88); with the delay request-response
mechanism a Delay_Req follows (R85). -/
def syncMeasured (port : Nat) (d : Int) (s : State) : State :=
  let s1 := s.setV .syncDiff 0 d
  let s2 := if 0 < s1.v .pdOnly port then s1.addV .pdOnly port (-1) else measured 1 (s1.pathDelay port - d) s1
  if s2.peerDelay port then s2 else delayRequest port 1 s2

/-- The mean link delay of a port from one exchange of peer delay (R83, R85). -/
def linkDelay (port : Nat) (tx rx receipt stamp corr : Int) (s : State) : State :=
  (s.hw (Reg.timELinkDelay port) (unsigned 48 ((rx - tx - (stamp - receipt) - corr) / 2))).setV .reqOut port 0

/-- An Announce is heard (R85): the record of its foreign master moves on. -/
def announceHeard (port : Nat) (g : PtpMsg) (s : State) : State :=
  let old := s.announces.find? fun x => decide (x.port = port ∧ x.sender = g.sender)
  let rest := s.announces.filter fun x => decide (¬ (x.port = port ∧ x.sender = g.sender))
  { s with announces := rest ++ [⟨port, g.sender, g.prio1, g.quality, g.prio2, g.gm, g.steps, s.counter,
      ((old.map (·.last + 1)).getD 0)⟩] }

/-- A PTP message reaches the ordinary clock (R85). -/
def ptpMessage (port : Nat) (g : PtpMsg) (s : State) : State :=
  if s.ptpTakes port g then
    let c := s.counter + g.dt
    let slave := s.isSlave port && decide (s.v .ptpParent = g.sender + 1)
    let rx := s.ingressStamp port c
    let tx := s.egressStamp port (c - g.request)
    match g.kind with
    | .sync =>
      let s1 := ((s.inc Reg.timPtpCnt 0 16 1).setV .syncRx port rx).setV .syncCorr port g.correction
      if slave && !g.twoStep then syncMeasured port (rx - g.stamp - g.correction) s1 else s1
    | .followUp =>
      if slave then syncMeasured port (s.v .syncRx port - s.v .syncCorr port - g.stamp - g.correction) s else s
    | .delayResp =>
      if slave && decide (s.v .reqOut port = 1) then
        (s.hw Reg.timPtpMpd (unsigned 48 ((s.v .syncDiff + (g.stamp - g.correction - tx)) / 2))).setV .reqOut port 0
      else s
    | .pdelayResp =>
      if s.peerDelay port && decide (s.v .reqOut port = 2) then
        if g.twoStep then
          (((s.setV .pdRx port rx).setV .pdTx port tx).setV .pdReceipt port g.receipt).setV .pdCorr port g.correction
        else linkDelay port tx rx g.receipt g.stamp g.correction s
      else s
    | .pdelayRespFollowUp =>
      if s.peerDelay port && decide (s.v .reqOut port = 2) && decide (s.v .pdRx port ≠ 0) then
        (linkDelay port (s.v .pdTx port) (s.v .pdRx port) (s.v .pdReceipt port) g.stamp (s.v .pdCorr port + g.correction) s).setV .pdRx port 0
      else s
    | .delayReq =>
      if s.fd Reg.timPtpStat 0 4 = 6 ∧ s.peerDelay port = false then
        ptpSend ⟨port, .delayResp, rx, g.correction⟩ (s.addV .delaySent port 1)
      else s
    | .pdelayReq =>
      if s.peerDelay port then
        ptpSend ⟨port, .pdelayResp, s.egressStamp port c - rx, g.correction⟩ (s.addV .delaySent port 1)
      else s
    | .announce => if g.steps < 255 then announceHeard port g s else s
  else s

/-- The ordinary clock is master: SLAVE_ONLY 0 and portState MASTER (R85, R87). -/
def ptpMaster (s : State) (port : Nat) : Bool :=
  s.ptpOn port && !s.bit Reg.timPtpCfg 12 && decide (s.fd Reg.timPtpStat 0 4 = 6)

/-- The interval of Sync as master, ns: 2^LOG_SYNC s (R85). -/
def syncNs (s : State) : Nat := 10 ^ 9 / 2 ^ (-signed 8 (s.fd Reg.timPtpCfg 32 8)).toNat

/-- As master, Sync leaves a port every 2^LOG_SYNC s (R85), stamped as it leaves (R82). -/
def syncTransmit (port : Nat) (s : State) : State :=
  if s.ptpMaster port ∧ (s.v .syncAt port = 0 ∨ s.n .syncAt port - 1 + s.syncNs ≤ s.counter + 1000) then
    let t := s.egressStamp port s.counter
    ptpSend ⟨port, .sync, t, 0⟩ (((s.addV .syncSent port 1).setV .syncTx port t).setV .syncAt port (s.counter + 1))
  else s

/-- As master, Announce leaves a port every second (R85). -/
def announceTransmit (port : Nat) (s : State) : State :=
  if s.ptpMaster port ∧ (s.v .announceAt port = 0 ∨ s.n .announceAt port - 1 + 10 ^ 9 ≤ s.counter + 1000) then
    ptpSend ⟨port, .announce, s.timeAt s.counter, 0⟩ ((s.addV .announceSent port 1).setV .announceAt port (s.counter + 1))
  else s

/-! The best master clock algorithm: IEEE 1588-2019's default (R85), as log entry 10 says it. -/

/-- Lexicographic order of two lists of numbers. -/
def lexLt : List Nat → List Nat → Bool
  | [], [] => false
  | [], _ => true
  | _, [] => false
  | x :: l, y :: k => decide (x < y) || (decide (x = y) && lexLt l k)

/-- One foreign master is better than another: of one grandmaster the nearer, else the better grandmaster. -/
def betterMaster (a b : Foreign) : Bool :=
  if a.gm = b.gm then lexLt [a.steps, a.sender, a.port] [b.steps, b.sender, b.port]
  else lexLt [a.prio1, a.quality, a.prio2, a.gm] [b.prio1, b.quality, b.prio2, b.gm]

/-- clockIdentity of the device, from NET_MAC (R486). -/
def clockIdentity (s : State) : Nat :=
  let a := s.rd Reg.netMac
  a / 2 ^ 24 * 2 ^ 40 + 0xFFFE * 2 ^ 24 + a % 2 ^ 24

/-- The device as grandmaster: priorities, quality and identity. -/
def ownMaster (s : State) : List Nat :=
  [s.fd Reg.timPtpCfg 16 8, (if s.bit Reg.timPtpCfg 12 then 255 else 248) * 2 ^ 24 + 0xFEFFFF, s.fd Reg.timPtpCfg 24 8, s.clockIdentity]

/-- Announce interval, ns (R85). -/
def announceNs : Nat := 10 ^ 9

/-- A foreign master is qualified: heard on a port with PTP, twice within four intervals, the last time within three (R85). -/
def qualifiedMaster (s : State) (x : Foreign) : Bool :=
  s.ptpOn x.port && decide (x.before ≠ 0 ∧ s.counter < x.last + 3 * announceNs ∧ x.last < x.before - 1 + 4 * announceNs)
    && decide (x.sender / 2 ^ 16 ≠ s.clockIdentity)

/-- The best qualified master. -/
def bestMaster (s : State) : Option Foreign :=
  (s.announces.filter s.qualifiedMaster).foldl (fun b x => match b with
    | none => some x
    | some y => if betterMaster x y then some x else some y) none

/-- PTP_STAT and the grandmaster take new values, with their events (R87). -/
def ptpRole (st port steps gm : Nat) (s : State) : State :=
  let oldGm := s.rd Reg.timPtpGmHi * 2 ^ 16 + s.fd Reg.timPtpGmLo 0 16
  let oldPort := s.fd Reg.timPtpStat 4 3
  let s1 := ((s.hwf Reg.timPtpStat 0 4 st).hwf Reg.timPtpStat 4 3 port).hwf Reg.timPtpStat 8 8 steps
  let s2 := (s1.hw Reg.timPtpGmHi (gm / 2 ^ 16)).hwf Reg.timPtpGmLo 0 16 gm
  let s3 := if oldGm = gm % 2 ^ 64 then s2 else s2.evt 0x201 16
  if oldPort = port then s3 else s3.evt 0x201 17

/-- ANNOUNCE_EVALUATION (R85, R87, R88): the slave port is the best master's, unless the device itself is better and may be master.
Ports with peer delay send their request. -/
def announceEvaluation (s : State) : State :=
  let s1 := eachBelow 4 (fun p t => if t.peerDelay p then delayRequest p 2 t else t)
    { s with announces := s.announces.filter fun x => decide (s.counter < x.last + 4 * announceNs) }
  let only := s1.bit Reg.timPtpCfg 12
  let gm := s1.rd Reg.timPtpGmHi * 2 ^ 16 + s1.fd Reg.timPtpGmLo 0 16
  let own := s1.ownMaster
  match s1.bestMaster with
  | some x =>
    if only || lexLt [x.prio1, x.quality, x.prio2, x.gm] own then
      let same := s1.isSlave x.port && decide (s1.v .ptpParent = x.sender + 1)
      (ptpRole (if same then 9 else 8) x.port (x.steps + 1) x.gm s1).setV .ptpParent 0 (x.sender + 1)
    else (ptpRole 6 7 0 s1.clockIdentity s1).setV .ptpParent 0 0
  | none =>
    if only then (ptpRole 4 7 0 gm s1).setV .ptpParent 0 0 else (ptpRole 6 7 0 s1.clockIdentity s1).setV .ptpParent 0 0

/-- The slave port has lost its master: no slave port until the next evaluation (R88). -/
def masterLost (s : State) : State :=
  (ptpRole 4 7 0 (s.rd Reg.timPtpGmHi * 2 ^ 16 + s.fd Reg.timPtpGmLo 0 16) s).setV .ptpParent 0 0

/-- ANNOUNCE_TIMEOUT (R79, R85, R87): three intervals without an announce of the master that the clock follows. With another qualified
master the clock goes on. -/
def announceTimeout (s : State) : State :=
  let port := s.fd Reg.timPtpStat 4 3
  let heard := s.announces.any fun x => decide (x.port = port ∧ (x.sender : Int) + 1 = s.v .ptpParent ∧ s.counter < x.last + 3 * announceNs)
  if s.isSlave port = false ∨ heard then s
  else
    let s1 : State := { s with announces := s.announces.filter fun x => decide (¬ (x.port = port ∧ (x.sender : Int) + 1 = s.v .ptpParent)) }
    let s2 := masterLost ((s1.inc Reg.timPtpCnt 32 16 1).evt 0x201 18)
    if s2.timMode = 1 ∧ s2.bestMaster = none then holdover 4 s2 else s2

/-- A port leaves UP (R88): what was heard on it is forgotten; the loss of the slave port brings HOLDOVER. -/
def ptpPortDown (port : Nat) (s : State) : State :=
  let slave := s.isSlave port
  let s1 : State := { s with announces := s.announces.filter fun x => decide (x.port ≠ port) }
  let s2 := (s1.setV .reqOut port 0).setV .pdRx port 0
  if slave then
    let s3 := masterLost s2
    if s3.timMode = 1 then holdover 4 s3 else s3
  else s2

/-- A port reaches UP (R88): after a return its first 8 Sync measurements estimate the path only. -/
def ptpPortUp (port : Nat) (s : State) : State :=
  if s.v .portWasUp port = 1 then s.setV .pdOnly port 8 else s.setV .portWasUp port 1

/-- A committed TIM_PTP_PORT (R83, R87): where peer delay does not run, the link delay reads 0; a slave port without PTP is lost. -/
def ptpPortSet (s : State) : State :=
  eachBelow 4 (fun p t =>
    let t1 := if t.peerDelay p then t else t.hw (Reg.timELinkDelay p) 0
    if t1.ptpOn p then t1 else ptpPortDown p t1) s

/-- LOG_SYNC is within -4 to 0 (R85). -/
def ptpCfgAnswer (v : Nat) : Nat := if field v 32 8 = 0 ∨ 0xFC ≤ field v 32 8 then stAccepted else stMalformed

/-! The transparent clock (R86). -/

/-- Event messages of PTP. -/
def eventKind : PtpKind → Bool
  | .sync | .delayReq | .pdelayReq | .pdelayResp => true
  | _ => false

/-- A message that the transparent clock forwards (R86). An event message's residence runs from its ingress stamp to its egress stamp,
`ns` later; a Follow_Up takes the correction held for its Sync. -/
def tcForward (ingress egress : Nat) (g : PtpMsg) (ns : Nat) (s : State) : State :=
  let held := 8 * ingress + egress
  if s.bit Reg.timTcCfg 0 = false ∨ ingress = egress then s
  else if eventKind g.kind = false then
    let k := if g.kind = .followUp then s.v .tcHeld held else 0
    let s1 := if g.kind = .followUp then s.setV .tcHeld held 0 else s
    { s1 with tcOut := some ⟨egress, g.kind, g.twoStep, g.correction + k, none⟩ }
  else
    let res := (ns : Int) * 2 ^ 16 + s.ingressFix ingress + s.egressFix egress
    if 1000000 * 2 ^ 16 < res then s.inc Reg.timPtpCnt 16 16 1
    else
      let r := if s.bit Reg.timTcCfg 3 then res + res * s.baseRate / 2 ^ 48 else res
      let sync := decide (g.kind = .sync)
      let k := if s.bit Reg.timTcCfg 2 && sync && decide (ingress < 4) then r + s.rd (Reg.timELinkDelay ingress) else r
      let s1 := s.addV .tcForwarded 0 1
      if sync && g.twoStep then
        { s1.setV .tcHeld held k with tcOut := some ⟨egress, g.kind, true, g.correction, none⟩ }
      else if sync && s.bit Reg.timTcCfg 1 then
        { s1 with tcOut := some ⟨egress, g.kind, true, g.correction, some (g.stamp, k)⟩ }
      else { s1 with tcOut := some ⟨egress, g.kind, g.twoStep, g.correction + k, none⟩ }

/-! Pulse per second (R89 to R91). -/

/-- Expected PPS_IN edges between the reference and counter `c`, an edge counting once its window, or half a second where no window is
applied, has passed (R91). -/
def ppsExpected (s : State) (c : Nat) : Nat :=
  let win : Int := if s.v .everLocked = 0 then unitSec / 2 else s.fd Reg.timPpsInCfg 8 16 * 1000 * 2 ^ 16
  ((convert s.offset s.rate c - convert s.offset s.rate (s.n .ppsRef - 1) - win) / unitSec).toNat

/-- Missing edges are counted up to counter `c`; the second in a row brings HOLDOVER in PPS_IN mode (R79, R91). -/
def ppsCount (c : Nat) (s : State) : State :=
  let k := s.ppsExpected c
  let old := s.n .ppsMiss
  if s.bit Reg.timPpsInCfg 0 = false ∨ s.v .ppsRef = 0 ∨ k ≤ old then s
  else
    let s1 := (s.inc Reg.timPpsInCnt 32 16 (k - old)).setV .ppsMiss 0 k
    if old < 2 ∧ 2 ≤ k then
      let s2 := s1.evt 0x203 16
      if s2.timMode = 2 then holdover 4 s2 else s2
    else s1

/-- PPS_IN_MISSING (R79, R91). -/
def ppsMissing (s : State) : State := ppsCount s.counter s

/-- An edge on PPS_IN at counter + dt (R89, R96). -/
def ppsIn (dt : Nat) (falling : Bool) (s : State) : State :=
  if s.bit Reg.timPpsInCfg 0 ∧ s.bit Reg.timPpsInCfg 1 = falling then
    let c := (s.counter + dt) / 2 * 2
    let t := s.timeAt c - signed 48 (s.rd Reg.timPpsInDly)
    let d := (t + unitSec / 2) % unitSec - unitSec / 2
    let win := s.fd Reg.timPpsInCfg 8 16 * 1000 * 2 ^ 16
    if s.v .everLocked = 0 ∨ d.natAbs ≤ win then
      let s0 := ppsCount c s
      let s1 := ((s0.inc Reg.timPpsInCnt 0 16 1).setV .ppsRef 0 (c + 1)).setV .ppsMiss 0 0
      let s2 := (s1.hw Reg.timPpsInSec (secsOf t)).hw Reg.timPpsInNs (nsOf t * 2 ^ 16 + fracOf t)
      if s2.timMode = 2 ∧ 0 < s2.v .ppsNextSec then
        (later (.step ((s2.v .ppsNextSec - 1) * unitSec - t) false) s2).setV .ppsNextSec 0 0
      else measured 2 (-d) s2
    else (s.inc Reg.timPpsInCnt 16 16 1).evt 0x203 17
  else s

/-- A committed TIM_PPS_IN_CFG: edges are expected from the enabling on. -/
def ppsInSet (old : Nat) (s : State) : State :=
  if s.bit Reg.timPpsInCfg 0 = false then (s.setV .ppsRef 0 0).setV .ppsMiss 0 0
  else if field old 0 1 = 0 then (s.setV .ppsRef 0 (s.counter + 1)).setV .ppsMiss 0 0
  else s

/-- PPS_OUT may be high (R90). -/
def ppsAllowed (s : State) : Bool := s.bit Reg.timPpsOutCfg 0 && (!s.bit Reg.timPpsOutCfg 1 || s.timeValid)

/-- PPS_OUT falls where it may no longer be high (R90). -/
def ppsOutShow (s : State) : State := if s.ppsAllowed then s else s.setV .ppsOut 0 0

/-- PPS_OUT_PULSE (R90) at counter + dt: it rises within 2 ns of a corrected second less PPS_OUT_COMP, and falls after WIDTH. -/
def ppsPulse (dt : Nat) (high : Bool) (s : State) : State :=
  let c := (s.counter + dt) / 2 * 2
  if high then
    let x := s.timeAt c + signed 48 (s.rd Reg.timPpsOutComp)
    let e := (x + unitSec / 2) % unitSec - unitSec / 2
    if s.ppsAllowed ∧ e.natAbs ≤ 2 * 2 ^ 16 then (s.setV .ppsOut 0 1).setV .ppsOutAt 0 c else s
  else if s.v .ppsOutAt + s.fd Reg.timPpsOutCfg 8 24 * 1000 ≤ c + 2 then s.setV .ppsOut 0 0
  else s

/-! Kept values and captures (R70, R94). -/

/-- While LOCKED, the base rate is saved every 60 s (R94). -/
def rateSave (s : State) : State :=
  if s.clock = 3 ∧ s.v .rateSavedAt + 60000000000 ≤ s.counter then
    (s.setV .savedRate 0 s.baseRate).setV .rateSavedAt 0 s.counter
  else s

/-- Corrected time in ns. -/
def nanosOf (t : Int) : Nat := (t / 2 ^ 16).toNat

/-- Corrected time goes to the real-time clock once per second (R94). -/
def rtcWrite (s : State) : State :=
  if s.v .rtcAt = 0 ∨ s.n .rtcAt - 1 + 10 ^ 9 ≤ s.counter + 1000 then
    (s.setV .rtcNs 0 (nanosOf s.now)).setV .rtcAt 0 (s.counter + 1)
  else s

/-- A read covering TIM_NOW_SEC captures corrected time and the counter at counter + dt, an even value (R65, R70). A
master whose snapshot freezes the page keeps the frozen capture (R48). -/
def nowCapture (m : Master) (dt : Nat) (s : State) : State :=
  let c := (s.counter + dt) / 2 * 2
  let t := s.timeAt c
  if (s.snap m).any (fun x => decide (timPage ∈ x.pages)) then s
  else
    let s1 := (s.wrB m Reg.timNowSec (secsOf t)).wrB m Reg.timNowNs (nsOf t * 2 ^ 16 + fracOf t)
    let s2 := (s1.wrB m Reg.timNowCntLo c).wrB m Reg.timNowCntHi (c / 2 ^ 48)
    s2.setV .capTag m.ix (s.rd (epochAddr timPage) % 2 ^ 16 : Nat)

/-- Device reset and TIM block restart (R95): the PTP engine restarts; ACQUIRING and LOCKED become HOLDOVER. -/
def timReset (s : State) : State :=
  let s1 := ((s.hw Reg.timPtpStat 0).setV .ptpParent 0 0).setV .syncDiff 0 0
  let s2 := eachBelow 4 (fun p t => (((t.hw (Reg.timELinkDelay p) 0).setV .reqOut p 0).setV .pdRx p 0).setV .pdOnly p 0)
    { s1 with announces := [] }
  holdover 7 ((s2.setV .lockRun 0 0).setV .measNew 0 0)

/-- Power-on of the time block (R94): seeding from the real-time clock and the saved rate. `rtc` is the clock's time now in ns, none
where RTC_LOST. -/
def timPowerOn (rtc : Option Nat) (s : State) : State :=
  let s1 := (s.hw Reg.timRate (unsigned 48 (s.v .savedRate))).hwb Reg.timState 9 rtc.isNone
  let q := s1.counter * 2 ^ 16 + s1.counter * s1.rate / 2 ^ 32
  gridStart (match rtc with
    | some t => restartValid (setClock 1 1 6 (s1.setOffset (t * 2 ^ 16 - q)))
    | none => s1.setOffset (-q))

end State
end Sys2Proof.Machine
end

