-- ==== Sys2Proof/Machine/Que.lean ====
section
/-! DEFINITION. Queues (12_queues.md): packing, framing, visibility, overflow, flush, watermarks and interrupts, and the two
operations device producers and consumers use. -/
namespace Sys2Proof.Machine

/-- Data bytes of a stored word that are valid, as bytes (R325). -/
def QWord.bytes (w : QWord) : List Byte := (toLE 8 w.data).take w.vb

/-- Tag of a stored word (R325). -/
def QWord.tag (w : QWord) : Nat := w.vb + 16 * w.soi.toNat + 32 * w.eoi.toNat + 64 * w.brk.toNat

namespace State

/-- A queue. -/
def queue (s : State) (q : Nat) : Queue := Tab.get (fun _ => Queue.empty) s.queues q

/-- Replace a queue. -/
def setQueue (s : State) (q : Nat) (x : Queue) : State :=
  { s with queues := Tab.put natLt (fun _ => Queue.empty) s.queues q x }

/-- EN of a queue (R338). -/
def queEn (s : State) (q : Nat) : Bool := s.bit (Reg.queCfg q) 0

/-- DIR of a queue: true for host to device. -/
def queDir (s : State) (q : Nat) : Bool := s.bit (Reg.queCfg q) 1

/-- Capacity of a queue in words (R321). -/
def queCap (s : State) (q : Nat) : Nat := 2 ^ s.fd (Reg.queCfg q) 13 4 * 512

/-- The queue block is in restart (R335). -/
def queDown (s : State) : Bool := decide (s.v .ownerFault 0xB = 1)

/-- Words visible to the consumer (R327). -/
def queVisible (s : State) (q : Nat) : Nat :=
  let x := s.queue q
  let c := s.fd (Reg.queCfg q) 17 12
  if x.open_ && (decide (c = 0) || decide (x.stored < c)) then x.words.length - x.tail else x.words.length

/-- The queue's interrupt (R334): sent once its level condition holds while it is armed. -/
def queIrq (q : Nat) (s : State) : State :=
  let lvl := s.fd (Reg.queIrq q) 0 18
  let have_ := if s.queDir q then s.queCap q - (s.queue q).words.length else s.queVisible q
  if s.queEn q && (s.queue q).armed && decide (lvl ≠ 0) && decide (lvl ≤ have_) then
    sendMsi q (s.setQueue q { s.queue q with armed := false })
  else s

/-- Watermark crossings between two levels (R333). -/
def queMarks (q old new : Nat) (s : State) : State :=
  let w := Reg.queWm q
  let hi := s.fd w 0 18
  let lo := s.fd w 18 18
  let page := pageOf w
  if s.bit w 36 then
    if s.bit (Reg.queLevel q) 38 && decide (old < hi) && decide (hi ≤ new) then
      ((s.inc (Reg.queWmCnt q) 0 16 1).hwb (Reg.queLevel q) 38 false).evt page 16
    else if !s.bit (Reg.queLevel q) 38 && decide (lo < old) && decide (new ≤ lo) then
      ((s.inc (Reg.queWmCnt q) 16 16 1).hwb (Reg.queLevel q) 38 true).evt page 17
    else s
  else s

/-- QUE_LEVEL, QUE_MAX, the summary and the watermarks follow a queue that held `old` words (R333, R337). -/
def queLevels (q old : Nat) (s : State) : State :=
  let x := s.queue q
  let lvl := x.words.length
  let vis := s.queVisible q
  let a := Reg.queLevel q
  let s1 := (((s.hwf a 0 18 lvl).hwf a 18 18 vis).hwb a 36 (x.discard && !x.overflowed)).hwb a 37 x.open_
  let s2 := if s1.fd (Reg.queMax q) 0 18 < lvl then s1.hwf (Reg.queMax q) 0 18 lvl else s1
  let s3 := s2.hwb (if q < 32 then Reg.queSumVisLo else Reg.queSumVisHi) (q % 32) (decide (0 < vis))
  queMarks q old lvl s3

/-- The same, and the interrupt (R334). -/
def queSync (q old : Nat) (s : State) : State := queIrq q (queLevels q old s)

/-- Discarded bytes are counted (R337). -/
def queDiscard (q k : Nat) (s : State) : State := s.inc (Reg.queDisc q) 0 32 k

/-- A wrong-direction access is counted (R330). -/
def queWrong (q : Nat) (s : State) : State := s.inc (Reg.queDisc q) 32 16 1

/-- The open item overflows with `k` bytes that found no room (R331). -/
def queOverflow (q k : Nat) (s : State) : State :=
  let x := s.queue q
  let c := s.fd (Reg.queCfg q) 17 12
  let seen := (decide (c ≠ 0) && decide (c ≤ x.stored)) || x.taken
  let keep := if seen then x.words else x.words.take (x.words.length - x.tail)
  let out := if seen then [] else x.words.drop (x.words.length - x.tail)
  let gone := (out.map (·.vb)).sum
  let s1 := s.setQueue q { x with words := keep, packer := [], tail := 0, discard := true, overflowed := true,
                                  cut := x.cut || seen || out.any (·.brk) }
  ((queDiscard q (k + gone) s1).inc (Reg.queDropCnt q) 0 16 1).evt (pageOf (Reg.queDropCnt q)) 18

/-- Store a word of the open item, the last one with `eoi` (R325). -/
def queStore (q : Nat) (bs : List Byte) (eoi : Bool) (s : State) : State :=
  let x := s.queue q
  queLevels q x.words.length (if s.queCap q ≤ x.words.length then queOverflow q bs.length s
    else
      let soi := decide (x.stored = 0)
      let w : QWord := ⟨ofLE bs, bs.length, soi, eoi, soi && x.cut, s.counter⟩
      s.setQueue q { x with words := x.words ++ [w], stored := x.stored + 1, tail := x.tail + 1,
                            cut := x.cut && !soi, packer := [] })

/-- One byte of a host item (R324, R325). -/
def queByte (q : Nat) (b : Byte) (s : State) : State :=
  let x := s.queue q
  if x.open_ && x.discard then queDiscard q 1 s
  else
    let s1 := if x.open_ then s
      else s.setQueue q { x with open_ := true, stored := 0, tail := 0, taken := false, packer := [] }
    if (s1.queue q).packer.length = 8 then
      let s2 := queStore q (s1.queue q).packer false s1
      if (s2.queue q).discard then queDiscard q 1 s2
      else s2.setQueue q { s2.queue q with packer := [b] }
    else s1.setQueue q { s1.queue q with packer := (s1.queue q).packer ++ [b] }

/-- The open item ends (R324); the end of a partial discard is counted (R332). -/
def queEnd (q : Nat) (s : State) : State :=
  let x := s.queue q
  if !x.open_ then s
  else if x.discard then
    let s1 := s.setQueue q { x with open_ := false, discard := false, overflowed := false, stored := 0, tail := 0, packer := [] }
    if x.overflowed then s1 else (s1.inc (Reg.queDropCnt q) 16 16 1).evt (pageOf (Reg.queDropCnt q)) 19
  else
    let s1 := queStore q x.packer true s
    let y := s1.queue q
    let s2 := s1.setQueue q { y with open_ := false, discard := false, overflowed := false, stored := 0, tail := 0,
                                     taken := false, packer := [] }
    if y.discard then s2 else s2.inc (Reg.queItemsIn q) 0 48 1

/-- A host write to PUSH or PUSH_END (R324, R330, R335). During the block's restart it is discarded; the rest of an item that the
restart's flush cut short counts as R332 says. -/
def quePush (q : Nat) (bs : List Byte) (last : Bool) (s : State) : State :=
  if s.queDown && !((s.queue q).open_ && (s.queue q).discard) then s
  else if !s.queDir q || !s.queEn q then queWrong q s
  else
    let s1 := bs.foldl (fun t b => queByte q b t) (s.setQueue q { s.queue q with armed := true })
    let s2 := if last then queEnd q s1 else s1
    queSync q (s2.queue q).words.length s2

/-- Take the first `k` words (R328). -/
def queTake (q k : Nat) (s : State) : State :=
  let x := s.queue q
  let old := x.words.length
  let left := old - k
  let cutOpen := decide (left < x.tail)
  let s1 := s.setQueue q { x with words := x.words.drop k, tail := min x.tail left, taken := x.taken || (x.open_ && cutOpen) }
  queSync q old (s1.inc (Reg.queItemsOut q) 0 48 ((x.words.take k).filter (·.eoi)).length)

/-- The units of a POP completion: data and tag of each word, then units with VB 0 (R328). -/
def popUnits (ws : List QWord) (units : Nat) : List Nat :=
  ws.flatMap (fun w => [w.data, w.tag]) ++ List.replicate (2 * (units - ws.length)) 0

/-- A POP read completes with the words visible now (R328, R329). -/
def popNow (q units : Nat) (s : State) : State :=
  let k := min units (s.queVisible q)
  { queTake q k s with hostReply := popUnits ((s.queue q).words.take k) units }

/-- A POP read of `units` 16-byte units (R328 to R330, R335). It arms the interrupt again (R334), and waits behind the reads that stall. -/
def quePop (q units : Nat) (s : State) : State :=
  if s.queDown then { s with hostReply := popUnits [] units }
  else if s.queDir q || !s.queEn q then { queWrong q s with hostReply := popUnits [] units }
  else
    let s1 := s.setQueue q { s.queue q with armed := true }
    if (s1.queVisible q = 0 ∧ s1.fd (Reg.queCfg q) 29 4 ≠ 0) ∨ (s1.queue q).stalls ≠ [] then
      s1.setQueue q { s1.queue q with stalls := (s1.queue q).stalls ++ [(units, s1.counter)] }
    else popNow q units s1

/-- A stalled POP read completes once a word is visible or STALL_LIM x 100 ns have passed (R329). -/
def popStallEnd (q : Nat) (s : State) : State :=
  match (s.queue q).stalls with
  | [] => s
  | (units, t0) :: rest =>
    if 0 < s.queVisible q ∨ t0 + s.fd (Reg.queCfg q) 29 4 * 100 ≤ s.counter then
      popNow q units (s.setQueue q { s.queue q with stalls := rest })
    else s

/-- FLUSH (R332); `off` where EN is written 0 (R321). The next word carries BREAK where the consumer has taken some words of an item
and not its end. -/
def queFlush (q : Nat) (off : Bool) (s : State) : State :=
  let x := s.queue q
  let old := x.words.length
  let gone := (x.words.map (·.vb)).sum + x.packer.length
  let cut := x.cut || (x.open_ && x.taken) || x.words.any (·.brk) || x.words.head?.any (fun w => !w.soi)
  let s1 := s.setQueue q (if off then { Queue.empty with stalls := x.stalls, cut := cut }
    else { x with words := [], packer := [], stored := 0, tail := 0, discard := x.open_, taken := false,
                  overflowed := false, cut := cut })
  let s2 := ((queDiscard q gone s1).inc (Reg.queDropCnt q) 32 16 1).evt (pageOf (Reg.queDropCnt q)) 20
  queSync q old s2

/-- MAX_RESET (R337). -/
def queMaxReset (q : Nat) (s : State) : State := s.hwf (Reg.queMax q) 0 18 (s.queue q).words.length

/-- A device producer places a whole sheaf, or drops it where it does not fit (R326). True where it was placed. -/
def queFits (s : State) (q : Nat) (bs : List Byte) : Bool :=
  s.queEn q && !s.queDir q && !s.queDown && decide ((s.queue q).words.length + (bs.length + 7) / 8 ≤ s.queCap q)

/-- The words of a sheaf of `k` words (R325); `brk` on the first where the item before was cut short. -/
def sheafWords (t : Nat) (brk : Bool) : Nat → Bool → List Byte → List QWord
  | 0, _, _ => []
  | k + 1, first, bs =>
    ⟨ofLE (bs.take 8), (bs.take 8).length, first, decide (k = 0), brk && first, t⟩ :: sheafWords t brk k false (bs.drop 8)

/-- Place a sheaf that fits (R326). -/
def quePlace (q : Nat) (bs : List Byte) (s : State) : State :=
  let x := s.queue q
  let old := x.words.length
  let s1 := s.setQueue q { x with words := x.words ++ sheafWords s.counter x.cut ((bs.length + 7) / 8) true bs, cut := false }
  queSync q old (s1.inc (Reg.queItemsIn q) 0 48 1)

/-- The first whole item of a host-to-device queue, with its word count: device consumers wait for EOI (R327). -/
def queItem (s : State) (q : Nat) : Option (List Byte × Nat) :=
  let ws := (s.queue q).words
  match ws.span (fun w => !w.eoi) with
  | (_, []) => none
  | (a, w :: _) => if s.queEn q && s.queDir q then some ((a ++ [w]).flatMap QWord.bytes, a.length + 1) else none

/-- IRQ_AGE: the oldest visible word has waited (R334). -/
def irqAge (q : Nat) (s : State) : State :=
  let age := s.fd (Reg.queIrq q) 18 16
  match (s.queue q).words with
  | [] => s
  | w :: _ =>
    if s.queEn q && !s.queDir q && (s.queue q).armed && decide (age ≠ 0) && decide (0 < s.queVisible q)
        && decide (w.at_ + age * 1000 ≤ s.counter) then
      sendMsi q (s.setQueue q { s.queue q with armed := false })
    else s

/-! Configuration (R321, R322, R333). -/

/-- The enabled uses of queues (R322): the register that names the queue, the queue, the direction it needs. -/
def queUses (s : State) : List (Nat × Nat × Bool) :=
  let use (a lo en : Nat) (dir : Bool) := if s.bit a en then [(a * 64 + lo, s.fd a lo 6, dir)] else []
  use Reg.pqCfg 0 6 false ++ use Reg.alcCfg 35 41 false ++ use Reg.vhsGcfg 0 6 false ++ use Reg.vhsGcfg 8 14 false
    ++ use Reg.alcCfg 28 34 true

/-- A write that leaves `v` in a slot enables no use on a queue of the wrong direction or on one that another enabled use names (R322). -/
def queUsesOk (s : State) (a v : Nat) : Bool :=
  let had := s.queUses
  let u := (s.wr a v).queUses
  u.all fun x => decide (x ∈ had) || (decide (s.queDir x.2.1 = x.2.2) && u.all fun y => decide (x.1 = y.1 ∨ x.2.1 ≠ y.2.1))

/-- First 4 KiB unit and end of a queue's range (R321). -/
def queRange (v : Nat) : Nat × Nat := (field v 2 11, field v 2 11 + 2 ^ field v 13 4)

/-- The answer to a write of QUE_CFG with stored value `v` (R321, R338). -/
def queCfgAnswer (q v : Nat) (s : State) : Nat :=
  let old := s.rd (Reg.queCfg q)
  let (b, e) := queRange v
  if maskBit old 0 ∧ field v 1 16 ≠ field old 1 16 then stRefused
  else if maskBit v 0 then
    if b % 2 ^ field v 13 4 ≠ 0 ∨ 2048 < e then stRefused
    else if (List.range 64).any (fun r => decide (r ≠ q) && s.queEn r &&
        (let (b', e') := queRange (s.rd (Reg.queCfg r)); decide (b < e') && decide (b' < e))) then stRefused
    else stAccepted
  else stAccepted

/-- The answer to a write of QUE_WM (R333). -/
def queWmAnswer (v : Nat) : Nat := if maskBit v 36 ∧ field v 0 18 ≤ field v 18 18 then stRefused else stAccepted

/-- QUE_SUM_MEM: 4 KiB units of the enabled queues (R339). -/
def queMem (s : State) : State :=
  s.hwf Reg.queSumMem 0 12 (((List.range 64).map fun q => if s.queEn q then 2 ^ s.fd (Reg.queCfg q) 13 4 else 0).sum)

/-- A committed QUE_CFG: EN written 0 discards the contents (R321); EN written 1 starts with an empty queue and an
armed interrupt. -/
def queCfgSet (q old : Nat) (s : State) : State :=
  let s1 := if maskBit old 0 ∧ !s.queEn q then queFlush q true s
    else if !maskBit old 0 ∧ s.queEn q then
      (s.setQueue q { Queue.empty with cut := (s.queue q).cut, stalls := (s.queue q).stalls }).hwf (Reg.queMax q) 0 18 0
    else s
  queMem (queSync q (s1.queue q).words.length s1)

/-- A committed QUE_WM: the high mark is armed when WM_EN becomes 1 (R333). -/
def queWmSet (q old : Nat) (s : State) : State :=
  if !maskBit old 36 ∧ s.bit (Reg.queWm q) 36 then
    s.hwb (Reg.queLevel q) 38 true
  else s

/-- The queues at a power-on: empty, configured from the configuration in force, the high marks armed (R333, R335). -/
def quePowerOn (s : State) : State :=
  eachBelow 64 (fun q t =>
    let t1 := if t.bit (Reg.queWm q) 36 then t.hwb (Reg.queLevel q) 38 true else t
    if t1.queEn q then queSync q 0 t1 else t1) (queMem s)

/-- Host link loss (R335): an open host item is treated as an overflow and counted as a partial discard. -/
def queLinkLoss (q : Nat) (s : State) : State :=
  let x := s.queue q
  if s.queEn q && s.queDir q && x.open_ then
    let old := x.words.length
    let s1 := if x.discard then s else queOverflow q x.packer.length s
    let y := s1.queue q
    let s2 := s1.setQueue q { y with open_ := false, discard := false, overflowed := false, stored := 0, tail := 0, packer := [] }
    queSync q old ((s2.inc (Reg.queDropCnt q) 16 16 1).evt (pageOf (Reg.queDropCnt q)) 19)
  else s

end State
end Sys2Proof.Machine
end

