-- ==== Sys2Proof/Machine/MetMap.lean ====
section
/-! DEFINITION. Which inputs a metering point uses and which stalls an input serves (04_sensor_inputs.md R111 to R119,
05_energy_registers.md R130). -/
namespace Sys2Proof.Machine

/-- Power-carrying channel pairs of a TYPE (R130); each pair's two slots are also the slots the TYPE requires. -/
def powerPairs : Nat → List Nat
  | 1 => [0]
  | 2 => [0, 1]
  | 3 => [0]
  | 4 => [0, 1, 2]
  | 5 => [0, 1]
  | _ => []

/-- An AC type: 3 AC1, 4 AC3_4W, 5 AC3_3W (R130). -/
def acType (ty : Nat) : Bool := decide (3 ≤ ty ∧ ty ≤ 5)

namespace State

/-- A metering point. -/
def mp (s : State) (m : Nat) : Mp := Tab.get (fun _ => Mp.zero) s.mps m

/-- TYPE of a metering point (R155). -/
def mpType (s : State) (mp : Nat) : Nat := s.fd (Reg.metMpCfg mp) 0 3

/-- SETTLE of a metering point (R155). -/
def mpSettle (s : State) (mp : Nat) : Nat := s.fd (Reg.metMpCfg mp) 4 2

/-- Input in channel slot `c`, 0 to 7, of a metering point; 0x1FF for none (R129). -/
def mpSlot (s : State) (mp c : Nat) : Nat :=
  if c < 4 then s.fd (Reg.metMpMapV mp) (12 * c) 9 else s.fd (Reg.metMpMapI mp) (12 * (c - 4)) 9

/-- Inputs in the power-carrying slots of a metering point (R130, R134). -/
def powerInputs (s : State) (mp : Nat) : List Nat :=
  (powerPairs (s.mpType mp)).flatMap fun k => [s.mpSlot mp k, s.mpSlot mp (k + 4)]

/-- Inputs in the power-carrying current slots of a metering point (R292). -/
def currentInputs (s : State) (mp : Nat) : List Nat := (powerPairs (s.mpType mp)).map fun k => s.mpSlot mp (k + 4)

/-- The metering point of a stall, 64 or more for none (R223). -/
def stallMp (s : State) (stall : Nat) : Nat := s.fd (Reg.stlCfg stall) 9 7

/-- Stalls whose metering point uses an input in a power-carrying slot (R119). -/
def stallsOfInput (s : State) (i : Nat) : List Nat :=
  (List.range 32).filter fun t => decide (s.stallMp t < 64) && decide (i ∈ s.powerInputs (s.stallMp t))

/-- Stalls that have a metering point. -/
def stallsOfMp (s : State) (mp : Nat) : List Nat := (List.range 32).filter fun t => decide (s.stallMp t = mp)

/-- QUALITY of an input: 0 GOOD, 1 SATURATED, 2 INVALID, 3 OUT (R105, R128). -/
def quality (s : State) (i : Nat) : Nat := s.fd (Reg.metInStat i) 0 2

/-- Every input of the stall's metering point reads GOOD (R119, R202). -/
def inputsGood (s : State) (stall : Nat) : Bool :=
  decide (64 ≤ s.stallMp stall) || (s.powerInputs (s.stallMp stall)).all fun i => decide (s.quality i = 0)

/-- The stall is in a mode that carries no session: DISABLED, IDLE or OUT_OF_SERVICE (R150, R219). -/
def stallFree (s : State) (stall : Nat) : Bool := decide (s.mode stall = 0 ∨ s.mode stall = 1 ∨ s.mode stall = 9)

end State
end Sys2Proof.Machine
end

