-- ==== Sys2Proof/Machine/VhsCore.lean ====
section
/-! DEFINITION. What the stall mode machine asks of a session engine (09_vehicle_sessions.md): the decision sheaf and its
deadline, the link of a new session, checkpoints and steps, and the end of a session. -/
namespace Sys2Proof.Machine.State

/-- The session engine of a stall. -/
def veh (s : State) (stall : Nat) : Veh := Tab.get (fun _ => Veh.idle) s.vehs stall

/-- Replace a session engine. -/
def setVeh (stall : Nat) (x : Veh) (s : State) : State :=
  { s with vehs := Tab.put natLt (fun _ => Veh.idle) s.vehs stall x }

/-- HLC of a stall (R222). -/
def hlc (s : State) (stall : Nat) : Bool := s.bit (Reg.stlMode stall) 20

/-- KIND DC (R223). -/
def isDc (s : State) (stall : Nat) : Bool := decide (s.fd (Reg.stlCfg stall) 1 2 = 2)

/-- LINK of a stall's modem (R252). -/
def link (s : State) (stall : Nat) : Nat := s.fd (Reg.vhsLink stall) 0 3

/-- PROTO of a stall's session: 3 none (R252). -/
def proto (s : State) (stall : Nat) : Nat := s.fd (Reg.vhsSess stall) 0 2

/-- PROTO as the sheaf and the SESSION records carry it (R243). -/
def protoByte (s : State) (stall : Nat) : Nat := if s.proto stall = 3 then 0xFF else s.proto stall

/-- The host link carries data (R21, R244). -/
def hostUp (s : State) : Bool := s.bit Reg.sysMstLink 0

/-- SLAC_INIT_S in ns (R251). -/
def slacInit (s : State) : Nat := s.fd Reg.vhsGcfg 32 6 * 10 ^ 9

/-- The decision sheaf, 64 bytes (R243). -/
def decisionSheaf (s : State) (stall kind seq secs : Nat) : List Byte :=
  toLE 6 seq ++ toLE 1 stall ++ toLE 1 kind ++ toLE 6 (s.rd (Reg.stlSession stall)) ++ toLE 1 (s.protoByte stall)
    ++ toLE 1 (s.n .certResult stall) ++ toLE 2 secs ++ toLE 6 (s.rd (Reg.vhsEvccid stall))
    ++ toLE 40 (s.veh stall).emaid

/-- Ask the host for a decision (R243): push the sheaf, or count its drop, and start the deadline (R244). -/
def askHost (stall kind seq : Nat) (s : State) : State :=
  let en := s.bit Reg.vhsGcfg 6
  let q := s.fd Reg.vhsGcfg 0 6
  let full := if s.hostUp then s.fd Reg.vhsGcfg 16 8 else 2
  let bs := s.decisionSheaf stall kind seq full
  let fits := en && s.queFits q bs
  let s1 := if fits then quePlace q bs s else if en then s.inc Reg.vhsQCnt 0 16 1 else s
  let secs := if fits then full else 2
  let s2 := (s1.setV .decEnd stall (s1.counter + secs * 10 ^ 9 + 1)).setVeh stall { s1.veh stall with authKind := kind }
  (s2.hwb (Reg.vhsSess stall) 4 true).hwf (Reg.vhsSess stall) 32 16 secs

/-- The decision is taken: nobody is awaited any longer. -/
def answered (stall : Nat) (s : State) : State :=
  ((s.setV .decEnd stall 0).hwb (Reg.vhsSess stall) 4 false).hwf (Reg.vhsSess stall) 32 16 0

/-- A session begins: with HLC the modem awaits SLAC (R228), and the host is asked (R243). -/
def vhsPlug (stall : Nat) (s : State) : State :=
  let a := Reg.vhsSess stall
  let s1 := ((s.hw a (setField (setField (s.rd a) 0 16 3) 32 16 0)).setV .certResult stall 0).setV .vhsOngoing stall 0
  let s2 := (s1.setVeh stall Veh.idle).hw (Reg.vhsEvccid stall) 0
  let s3 := s2.setV .lastReq stall 0
  let s4 := if s3.hlc stall then
      (((s3.hwf (Reg.vhsLink stall) 0 3 1).hwf (Reg.vhsLink stall) 8 12 0).setV .slacEnd stall
        (s3.counter + s3.slacInit + 1)).setV .slacTried stall 0 |>.setV .slacRetry stall 0
    else s3
  askHost stall (if s4.hlc stall then 1 else 3) (s4.rd (Reg.stlSession stall)) s4

/-- The handle of what an ephemeral slot of the key store holds next (R411, R421). -/
def ephHandle (s : State) (i : Nat) : Nat := 2 ^ 31 + i * 2 ^ 16 + s.n .ephGen i % 2 ^ 16

/-- A key is drawn into an ephemeral slot (R421). -/
def ephNew (i : Nat) (s : State) : State := s.addV .ephGen i 1

/-- The engine closes TLS and TCP, zeroises the network key and returns the modem to waiting for SLAC (R247). `cause` is
the END_CAUSE of R247, 0 where the session ended otherwise. -/
def vhsClose (stall cause : Nat) (s : State) : State :=
  let was := decide (s.link stall = 3)
  let s1 := if s.link stall = 0 then s else s.hwf (Reg.vhsLink stall) 0 3 1
  let s2 := if was then s1.evt (0x700 + stall) 17 else s1
  let s3 := (s2.hwb Reg.vhsSumLink stall false).hwb Reg.vhsSumSess stall false
  let s4 := (((s3.setV .slacEnd stall 0).setV .sdpEnd stall 0).setV .lastReq stall 0).setV .stopAt stall 0
  let s5 := (s4.setVeh stall { s4.veh stall with
    nmk := none, req := none, stop := false, output := false, refused := false, tcp := Tcp.new, ckpt := none }).setV .tcpAt stall 0
  let s6 := (s5.hwf (Reg.vhsSess stall) 0 2 3).hwb (Reg.vhsSess stall) 2 false
  if cause = 0 then s6 else s6.hwf (Reg.vhsSess stall) 16 8 cause

/-- The engine is still open: SLAC matched and the session not closed (R206). -/
def engineOpen (s : State) (stall : Nat) : Bool := decide (s.link stall = 3)

/-! Checkpoints, steps and responses (R230, R233 to R235). -/

/-- A checkpoint (R234): what TCP, TLS and the partition have reached, and the request in progress. -/
def checkpoint (stall : Nat) (s : State) : State :=
  let x := s.veh stall
  (s.setVeh stall { x with ckpt := some (x.tcp, x.req) }).inc (Reg.vhsCkptCnt stall) 0 32 1

/-- A response leaves the engine: TCP and TLS move on, the checkpoint follows (R234), and its acknowledgement is awaited (R247). -/
def sendRes (stall len : Nat) (r : V2gRes) (s : State) : State :=
  let x := s.veh stall
  let tls := s.bit (Reg.vhsSess stall) 2
  let t : Tcp := { x.tcp with tx := (x.tcp.tx + len) % 2 ^ 32, recTx := x.tcp.recTx + tls.toNat }
  let s1 := s.setVeh stall { x with tcp := t, req := none, sent := some r }
  checkpoint stall (if s1.v .tcpAt stall = 0 then s1.setV .tcpAt stall (s1.counter + 1) else s1)

/-- A SESSION record (R347) of happening 0 a step, 1 a decision event, 2 a power-loop exchange; the spec states no CODE for them (log
entry 6). -/
def sessRec (s : State) (stall code msg resp : Nat) (values : List (Nat × Nat)) : Submission :=
  rec1 7 4 (Config.recordCode 4 code % 2 ^ 12) stall 0 ([(6, s.rd (Reg.stlSession stall)), (1, s.protoByte stall), (2, msg), (2, resp)] ++ values)

/-- A step is journalled before its response is sent (R235, R343); VHS_CKPT names it. -/
def sessStep (stall msg resp : Nat) (values : List (Nat × Nat)) (s : State) : State :=
  let q := s.nextSeq
  (submit (s.sessRec stall 0 msg resp values) s).hw (Reg.vhsCkpt stall) q

/-- The number of a response code in the message set of the session's protocol (R347). -/
def codeNum (s : State) (stall : Nat) : V2gCode → Nat
  | .given c => c
  | .failed => Config.responseCode (s.proto stall) 0
  | .sequenceError => Config.responseCode (s.proto stall) 1
  | .serviceSelectionInvalid => Config.responseCode (s.proto stall) 2

/-- The engine answers a request with a failure of its own (R244, R247): a step. -/
def sendFailure (stall msg : Nat) (c : V2gCode) (s : State) : State :=
  sendRes stall 0 ⟨msg, c, false, none, none, none, false⟩ (sessStep stall msg (s.codeNum stall c % 2 ^ 16) [] s)

/-- A refused authorisation is sent as FAILED (R244): to the request in progress, or to the next one while the link stands. -/
def vhsRefuse (stall : Nat) (s : State) : State :=
  if s.proto stall = 3 then vhsClose stall 0xC s
  else match (s.veh stall).req with
    | some (r, _) => vhsClose stall 0xC (sendFailure stall r.msg .failed s)
    | none => (s.setVeh stall { s.veh stall with refused := true }).hwf (Reg.vhsSess stall) 16 8 0xC

/-- Maximum current per phase that basic charging can offer: the smaller of I_CABLE and I_MAX, A (R207). -/
def iLim (s : State) (stall : Nat) : Nat :=
  let imax := s.fd (Reg.stlPwrCfg stall) 12 8
  if s.fd (Reg.stlCfg stall) 7 2 = 0 then imax else min (s.fd (Reg.stlPp stall) 24 8) imax

/-- N_PH x U_NOM of a stall (R207). -/
def phaseVolts (s : State) (stall : Nat) : Nat := s.fd (Reg.stlPwrCfg stall) 10 2 * s.fd (Reg.stlPwrCfg stall) 0 10

/-- SESSION_LIMIT_W; 2^24 - 1 for none (R216). -/
def sessionLimit (s : State) (stall : Nat) : Nat := s.fd (Reg.stlDemand stall) 24 24

/-- A demand is counted: PREPARING and DELIVERING, and PAUSED with neither COMMAND nor HARD in force (R167). -/
def demandCounted (s : State) (stall : Nat) : Bool :=
  decide (s.mode stall = 3 ∨ s.mode stall = 4 ∨ (s.mode stall = 5 ∧ s.fd (Reg.stlMode stall) 16 2 = 0))

/-- DEMAND_W of a stall (R207, R237). -/
def demandW (s : State) (stall : Nat) : Nat :=
  let lim := s.sessionLimit stall
  let cap (x : Nat) := if lim = 2 ^ 24 - 1 then min x lim else min lim x
  if !s.demandCounted stall then 0
  else if s.hlc stall then
    let x := s.veh stall
    if s.isDc stall then
      let p := if x.evP = 0 then x.evV * x.evI / 10 else x.evP
      cap (min p (s.fd (Reg.vhsDcPmax stall) 0 24))
    else min (cap (x.evI * s.phaseVolts stall / 10)) (s.fd (Reg.stlPwrCfg stall) 12 8 * s.phaseVolts stall)
  else cap (s.iLim stall * s.phaseVolts stall)

/-- STL_DEMAND follows what decides it. -/
def demandRefresh (stall : Nat) (s : State) : State :=
  if s.fd (Reg.stlDemand stall) 0 24 = s.demandW stall then s else s.hwf (Reg.stlDemand stall) 0 24 (s.demandW stall)

end Sys2Proof.Machine.State
end

