-- ==== Sys2Proof/Machine/Stl.lean ====
section
/-! DEFINITION. The stall mode machine, pilot, proximity, insulation bridge and stall commands (08_stalls_and_pilot.md). -/
namespace Sys2Proof.Machine

/-- Class of a high plateau in units of 10 mV: 0 to 4 for A to E, 6 INVALID (R208). -/
def pilotClass (hi : Int) : Nat :=
  if 1050 ≤ hi then 0 else if 750 ≤ hi then 1 else if 450 ≤ hi then 2 else if 150 ≤ hi then 3
  else if -150 ≤ hi then 4 else 6

/-- Proximity code of a resistance in ohms (R212): a boundary value belongs to the higher band. -/
def ppCode (ohms : Nat) : Nat :=
  if ohms < 50 then 6 else if ohms < 150 then 4 else if ohms < 400 then 3 else if ohms < 1000 then 2
  else if ohms < 2700 then 1 else if ohms < 4500 then 5 else 0

/-- I_CABLE of a proximity code, A (R212). -/
def cableAmps : Nat → Nat
  | 4 => 63
  | 3 => 32
  | 2 => 20
  | 1 => 13
  | _ => 0

/-- Duty of an offered current, 0.1 % from 0.1 A (R207). -/
def offerDuty (i : Nat) : Nat :=
  if i < 60 then 1000 else if i ≤ 510 then i * 10 / 6 else min (i * 2 / 5 + 640) 960

namespace State

/-- PAUSE_CAUSES: bit 0 COMMAND, 1 HARD, 2 VEHICLE, 3 ALLOCATOR (R218, R222). -/
def pauseCauses (s : State) (stall : Nat) : Nat := s.fd (Reg.stlMode stall) 16 4

/-- EN of a stall (R223). -/
def stallEn (s : State) (stall : Nat) : Bool := s.bit (Reg.stlCfg stall) 0

/-- OOS_PENDING (R222). -/
def oosPending (s : State) (stall : Nat) : Bool := s.bit (Reg.stlMode stall) 23

/-- PP_MODE (R223). -/
def ppMode (s : State) (stall : Nat) : Nat := s.fd (Reg.stlCfg stall) 7 2

/-- Class last accepted, 5 for none since state F ended (R209). -/
def accepted (s : State) (stall : Nat) : Nat := if s.v .pilotAcc stall = 0 then 5 else s.n .pilotAcc stall - 1

/-- What the accepted class counts as: D without VENT_OK is treated as B (R209). -/
def effective (s : State) (stall : Nat) : Nat :=
  let c := s.accepted stall
  if c = 3 ∧ s.bit (Reg.stlCfg stall) 5 = false then 1 else c

/-- The contactor enables of the stall are given. -/
def enabled (s : State) (stall : Nat) : Bool := s.bit (Reg.safStStat stall) 4

/-- Both contactors reported closed: enabled and every mapped feedback closed (R200). -/
def contactorsClosed (s : State) (stall : Nat) : Bool := s.enabled stall && s.fbAllClosed stall

/-- Both contactors reported open (R200). -/
def contactorsOpen (s : State) (stall : Nat) : Bool := !s.enabled stall && s.fbAllOpen stall

/-- Every mapped feedback has read open for 20 ms with the drives off (R199). -/
def idleProved (s : State) (stall : Nat) : Bool :=
  s.contactorsOpen stall && (s.fbsOf stall).all (fun i => decide (s.v .fbSince i + 20000000 ≤ s.counter))

/-- State of a partition (R510): 0 SERVING. -/
def partState (s : State) (p : Nat) : Nat := s.fd Reg.fltPart (3 * p) 3

/-- The partition that leads a stall, 0 A, 1 B (R14). -/
def leader (s : State) (stall : Nat) : Nat := s.fd Reg.stlSumLead stall 1

/-- The partition that the configuration assigns to a stall (R14, R16, R224). -/
def homeOf (s : State) (stall : Nat) : Nat := field (s.cfgValue Reg.stlSumLead) stall 1

/-- A stall's lead goes to a partition (R14). -/
def setLead (stall p : Nat) (s : State) : State := (s.hwf Reg.stlSumLead stall 1 p).hwf (Reg.stlMode stall) 21 1 p

/-- TAKEOVER of a stall (R203). -/
def takeover (s : State) (stall : Nat) : Bool := s.bit (Reg.stlMode stall) 22

/-- A request of partition `p` for a stall is taken up: it leads, serves and is not fenced (R14, R245). -/
def leads (s : State) (p : Partition) (stall : Nat) : Bool :=
  let k := match p with
    | .a => 0
    | .b => 1
  decide (s.leader stall = k) && decide (s.partState k = 0) && !s.takeover stall

/-- The stall page's summary entries (R224). -/
def stlSum (stall : Nat) (s : State) : State :=
  let m := s.mode stall
  let a := if stall < 12 then Reg.stlSumMode0 else if stall < 24 then Reg.stlSumMode1 else Reg.stlSumMode2
  ((s.hwf a (4 * (stall % 12)) 4 m).hwb Reg.stlSumSafe stall (decide (m = 8))).hwb Reg.stlSumOos stall
    (decide (m = 9) || s.oosPending stall)

/-! Pilot duty (R205, R206). -/

/-- The duty that the mode and session ask for, 0 for state F (R206). -/
def dutyOf (s : State) (stall : Nat) : Nat :=
  let m := s.mode stall
  let offer := offerDuty (s.fd (Reg.stlOffer stall) 0 12)
  if m = 0 ∨ m = 8 ∨ m = 9 then 0
  else if m = 1 ∨ m = 7 then 1000
  else if s.hlc stall then (if m = 6 ∧ s.engineOpen stall = false then 1000 else 50)
  else if m = 3 then (if s.v .granted stall = 1 then offer else 1000)
  else if m = 4 then offer
  else if m = 5 then (if s.pauseCauses stall = 4 then offer else 1000)
  else 1000

/-- The wanted duty follows R206. State F is forced at once; a duty waits for its period (R205). -/
def dutyRefresh (stall : Nat) (s : State) : State :=
  let w := s.dutyOf stall
  if s.n .dutyWant stall = w then s
  else
    let s1 := (s.setV .dutyWant stall w).setV .dutyAt stall s.counter
    if w = 0 then
      ((s1.hwf (Reg.stlPilot stall) 0 3 5).hwf (Reg.stlPilot stall) 4 12 0).setV .pilotAcc stall 0
    else s1

/-- C or D accepted since the VEHICLE cause was raised lifts it, in AC, where it is the only cause in force and the duty is below
100 % (R209). -/
def vehicleLift (stall : Nat) (s : State) : State :=
  let c := s.effective stall
  if s.mode stall = 5 ∧ s.isDc stall = false ∧ s.pauseCauses stall = 4 ∧ (c = 2 ∨ c = 3)
      ∧ s.fd (Reg.stlPilot stall) 4 12 < 1000 ∧ s.v .vehAt stall ≤ s.v .pilotAt stall + 1 then
    s.trigger stall (.lift 2)
  else s

/-- The wanted duty comes into force; after state F no class is accepted yet. -/
def dutyApply (stall : Nat) (s : State) : State :=
  let w := s.n .dutyWant stall
  let was := s.fd (Reg.stlPilot stall) 4 12
  if w = 0 ∨ was = w then s
  else
    let s1 := s.hwf (Reg.stlPilot stall) 4 12 w
    let s2 := if was = 0 then s1.setV .pilotAcc stall 0 else s1
    vehicleLift stall (if w = 1000 then s2.hwf (Reg.stlPilot stall) 32 16 0 else s2)

/-- PILOT_DUTY_APPLY (R205): at least 10 µs after the boundary that set the duty. -/
def pilotDutyApply (stall : Nat) (s : State) : State :=
  if s.v .dutyAt stall + 10000 ≤ s.counter then dutyApply stall s else s

/-! The mode machine. -/

/-- Change the running session of a stall. -/
def sessMap (stall : Nat) (f : Sess → Sess) (s : State) : State :=
  { s with sessions := s.sessions.map fun x => if x.stall = stall ∧ x.endCause = 0 then f x else x }

/-- The record of a stall's last session is still to be written (R200). -/
def sessWaits (s : State) (stall : Nat) : Bool :=
  s.sessions.any fun x => decide (x.stall = stall ∧ x.seq = s.rd (Reg.stlSession stall))

/-- EXCESS of R211: a phase whose RMS exceeds I x 0.11 A + 1 A in AC basic charging, by the last window's RMS slots. -/
def excess (s : State) (stall : Nat) : Bool :=
  let m := s.stallMp stall
  let i := s.fd (Reg.stlOffer stall) 0 12
  !s.hlc stall && !s.isDc stall && decide (s.mode stall = 4 ∨ s.mode stall = 5) && decide (m < 64) &&
    (powerPairs (s.mpType m)).any fun k =>
      decide ((i * 110 + 1000) * 2 ^ 23 < (s.mp m).rms.getD (k + 4) 0 % 2 ^ 24 * s.fd (Reg.metInKfs (s.mpSlot m (k + 4))) 0 32)

/-- STL_OFFER.EXCESS and the count of R211 follow the RMS of a window. -/
def excessRefresh (stall : Nat) (s : State) : State :=
  let e := s.excess stall
  if s.bit (Reg.stlOffer stall) 12 = e then s
  else (s.hwb (Reg.stlOffer stall) 12 e).setV .excessAt stall (if e then s.counter + 1 else 0)

/-- A window of a metering point ends: the excess of its stalls (R140, R211). -/
def excessWindow (m : Nat) (s : State) : State :=
  eachBelow 32 (fun t u => if u.stallMp t = m then excessRefresh t u else u) (s.setV .winDone m 0)

/-- The windows that have ended since the last boundary. -/
def excessWindows (s : State) : State := eachBelow 64 (fun m t => if t.v .winDone m = 1 then excessWindow m t else t) s

/-- INS_SWn to a level (R214). -/
def insSw (stall : Nat) (high : Bool) (s : State) : State :=
  let a := Reg.stlIns stall
  if s.bit a 0 = high then s else (s.hwb a 0 high).inc a 16 32 1

/-- The insulation bridge of the stall may run: KIND DC with INS_EN in the safety set (R214). -/
def insAllowed (s : State) (stall : Nat) : Bool := s.isDc stall && maskBit (s.stMap stall) 36

/-- INS_SWn is to alternate: during the cable check, and in DELIVERING with INS_CONT (R214). -/
def insWanted (s : State) (stall : Nat) : Bool :=
  s.insAllowed stall && (decide (s.v .cableChk stall = 1) || (decide (s.mode stall = 4) && s.bit (Reg.stlCfg stall) 6))

/-- RUNNING follows what asks for it; every change of INS_SWn itself waits for its grid instant (INS_SW_TOGGLE), the first one being to
high (R214). -/
def insRun (stall : Nat) (s : State) : State :=
  let a := Reg.stlIns stall
  let on := s.insWanted stall
  if s.bit a 1 = on then s
  else
    let s1 := s.hwb a 1 on
    if on ∧ s1.bit a 0 = false then s1.setV .insK stall 0 else s1

/-- In SAFE, OUT_OF_SERVICE and DISABLED the output is held low (R214; log entry 53). -/
def insHeld (stall : Nat) (s : State) : State :=
  if s.mode stall = 0 ∨ s.mode stall = 8 ∨ s.mode stall = 9 then insSw stall false (insRun stall (s.setV .cableChk stall 0)) else insRun stall s

/-- A transition (R200, R566): STL_MODE, its record (R561), the events and what follows the mode. -/
def setMode (stall new cause : Nat) (s : State) : State :=
  let a := Reg.stlMode stall
  let old := s.mode stall
  let page := 0x600 + stall
  let s1 := (((s.hwf a 4 4 old).hwf a 0 4 new).hwf a 8 8 cause).inc a 32 16 1
  let s2 := submit (stateRec 6 1 stall old new cause
    [(6, s1.rd (Reg.stlSession stall)), (1, s1.pauseCauses stall), (1, s1.leader stall)]) s1
  let s3 := s2.evt page 16
  let s4 := if new = 8 then (s3.evt page 17).evt 0x621 16 else if new = 2 then s3.evt page 20 else s3
  insHeld stall (excessRefresh stall (demandRefresh stall (dutyRefresh stall ((stlSum stall s4).tripOuts))))

/-- Demand the connector lock on or off (R215). -/
def lockDemand (stall : Nat) (on : Bool) (s : State) : State := each (s.lockOf stall) (fun o => setDemand o on) s

/-- Enter CONNECTED (R200, R206, R218): a new session whose number is that of its plug-in record. -/
def connect (stall cause : Nat) (s : State) : State :=
  let a := Reg.stlMode stall
  let q := s.nextSeq
  let s1 := ((s.hwb a 20 (s.bit (Reg.stlCfg stall) 3)).hwf a 16 4 0).hwb a 24 false
  let s2 := ((s1.hw (Reg.stlSession stall) q).hw (Reg.stlAuthRef stall) 0).hw (Reg.stlOffer stall) 0
  let s3 := ((s2.setV .granted stall 0).setV .connectedAt stall s2.counter).hwf (Reg.stlDemand stall) 24 24 (2 ^ 24 - 1)
  let x : Sess :=
    { stall := stall, seq := q, mp := s3.stallMp stall, authKind := 0, authRef := 0, endCause := 0, flags := 0, closedAt := 0,
      begun := false, startT := 0, startAcc := [], openAt := 0, ended := false, endT := 0, endAcc := [], seqLast := 0,
      sealCnt := 0, glean := 0, emaid := 0, flagsEnd := 0, calEnd := 0 }
  vhsPlug stall (setMode stall 2 cause { s3 with sessions := s3.sessions ++ [x] })

/-- A stall in IDLE goes to the partition that the configuration assigns, where that serves and no takeover is under way (R16). -/
def leadBack (stall : Nat) (s : State) : State :=
  let home := s.homeOf stall
  if s.mode stall = 1 ∧ s.leader stall ≠ home ∧ s.partState home = 0 ∧ s.takeover stall = false then setLead stall home s else s

/-- A stall enters IDLE (R199, R200). A partition readmitted meanwhile leads again (R16). -/
def enterIdle (stall cause : Nat) (s : State) : State :=
  let s1 := ((s.hwb (Reg.stlPilot stall) 3 false).hwb (Reg.stlMode stall) 25 false).hwb (Reg.stlMode stall) 24 false
  leadBack stall ((setMode stall 1 cause (s1.setV .proofWait stall 0)).setV .idleAt stall s1.counter)

/-- Enter IDLE now if the proof of R199 already holds, else once it does. -/
def idleAfterProof (stall cause : Nat) (s : State) : State :=
  if s.idleProved stall ∧ s.tripped stall = false then enterIdle stall cause s else s.setV .proofWait stall 4

/-- What the end of a session clears (R216, R222). -/
def sessionOver (stall : Nat) (s : State) : State :=
  let s1 := (s.hw (Reg.stlSession stall) 0).hwf (Reg.stlDemand stall) 24 24 (2 ^ 24 - 1)
  let s2 := insRun stall (demandRefresh stall ((s1.hw (Reg.stlOffer stall) 0).setV .cableChk stall 0))
  if s2.link stall = 0 then s2 else vhsClose stall 0 s2

/-- ENDING is left once both contactors are reported open and the session record is written (R200). -/
def endingDone (stall : Nat) (s : State) : State :=
  if s.mode stall = 6 ∧ s.contactorsOpen stall ∧ s.sessWaits stall = false then
    if s.oosPending stall then
      sessionOver stall (setMode stall 9 0x45 ((s.hwb (Reg.stlMode stall) 23 false).setV .proofWait stall 0))
    else if s.accepted stall = 0 then
      let s1 := idleAfterProof stall 0x45 s
      if s1.mode stall = 1 then sessionOver stall s1 else s1
    else sessionOver stall (setMode stall 7 0x45 (s.setV .proofWait stall 0))
  else s

/-- The HARD_PAUSE record (R561). -/
def hardPauseRec (stall cause : Nat) (on : Bool) (s : State) : State :=
  submit (stateRec 6 2 stall (1 - on.toNat) on.toNat cause
    [(1, s.fd (Reg.alcStall stall) 0 3), (3, s.fd Reg.alcLimit 0 24), (3, saturate 24 (s.n .pg10))]) s

/-- End a stall's hard pause (R172): 2 automatic, 3 RELEASE_PAUSE, 4 OFF. -/
def hardPauseEnd (stall cause : Nat) (s : State) : State :=
  if s.bit Reg.alcPaused stall then hardPauseRec stall cause false (s.hwb Reg.alcPaused stall false) else s

/-- The session engine's part of an end (R241, R244, R247): StopCharging for OFF, TAKE_OUT, over-draw and HALT, FAILED for a refusal; the
link closed for the others but a vehicle stop, whose link closes when the contactors are open. -/
def engineEnd (stall cause : Nat) (s : State) : State :=
  if s.hlc stall = false then s
  else if cause = 1 then s
  else if cause = 2 ∨ cause = 3 ∨ cause = 6 ∨ cause = 0xD then
    if s.proto stall = 3 then vhsClose stall 0 s
    else (s.setVeh stall { s.veh stall with stop := true }).setV .stopAt stall (s.counter + 1)
  else if cause = 0xC then vhsRefuse stall s
  else vhsClose stall (if 8 ≤ cause then cause else 0) s

/-- A cause of order OFF: CONNECTED to PAUSED go to ENDING (R200, R566). -/
def toEnding (stall cause : Nat) (s : State) : State :=
  if 2 ≤ s.mode stall ∧ s.mode stall ≤ 5 then
    let s1 := (sessMap stall (fun x => { x with endCause := cause }) s).hwf (Reg.stlMode stall) 16 4 0
    let s2 := engineEnd stall cause (answered stall s1)
    (setMode stall 6 cause s2).trigger stall .contactors
  else s

/-- Both contactors reported open in ENDING: the lock demand ends (R215) and the engine closes (R206). -/
def endingOpen (stall : Nat) (s : State) : State :=
  if s.mode stall = 6 ∧ s.contactorsOpen stall then
    let s1 := lockDemand stall false s
    let s2 := if s1.engineOpen stall ∧ (s1.veh stall).refused = false then vhsClose stall 0 s1 else s1
    endingDone stall (dutyRefresh stall s2)
  else s

/-- Enter SAFE with a cause of R202, from any mode but DISABLED and SAFE; a failed proof also from DISABLED (R199). A
session ends (R200); a stall in OUT_OF_SERVICE returns there (R219). -/
def toSafe (stall cause : Nat) (s : State) : State :=
  let m := s.mode stall
  if m = 8 ∨ (m = 0 ∧ ¬ (cause = 0x28 ∧ s.v .proofWait stall = 1)) then s
  else
    let s0 := s.setV .proofWait stall 0
    let s1 := if m = 9 then s0.hwb (Reg.stlMode stall) 23 true else s0
    let s2 := (sessMap stall (fun x => { x with endCause := 0xE }) s1).hwf (Reg.stlMode stall) 16 4 0
    let s3 := withdraw stall (lockDemand stall false (answered stall s2))
    let s4 := setMode stall 8 cause s3
    let s5 := if s4.hlc stall ∧ 2 ≤ m ∧ m ≤ 6 then vhsClose stall 0 s4 else s4
    if 2 ≤ m ∧ m ≤ 6 then sessionOver stall s5 else s5

/-- Raise a pause cause (R200, R218): PREPARING and DELIVERING enter PAUSED. -/
def raisePause (stall cause : Nat) (s : State) : State :=
  let m := s.mode stall
  let s0 := if cause = 2 ∧ s.bit (Reg.stlMode stall) 18 = false then s.setV .vehAt stall (s.counter + 1) else s
  let s1 := s0.hwb (Reg.stlMode stall) (16 + cause) true
  if m = 3 ∨ m = 4 then setMode stall 5 0x43 (s1.setV .pausedAt stall s1.counter)
  else if m = 5 then demandRefresh stall (dutyRefresh stall s1)
  else s

/-- Enter PREPARING: the duty waits for the first grant (R207), the lock is demanded (R215). -/
def prepare (stall cause : Nat) (s : State) : State :=
  let s1 := setMode stall 3 cause (s.setV .granted stall 0)
  (lockDemand stall true s1).trigger stall .contactors

/-- Lift a pause cause; a stall leaves PAUSED only when none is left (R218). -/
def liftPause (stall cause : Nat) (s : State) : State :=
  if s.bit (Reg.stlMode stall) (16 + cause) then
    let s1 := s.hwb (Reg.stlMode stall) (16 + cause) false
    if s1.mode stall = 5 ∧ s1.pauseCauses stall = 0 then prepare stall 0x44 s1
    else vehicleLift stall (demandRefresh stall (dutyRefresh stall s1))
  else s

/-- Authorise a stall in CONNECTED (R200). In FULL no stall enters PREPARING (R356): the authorisation waits. -/
def authorise (stall : Nat) (s : State) : State :=
  if s.mode stall = 2 then
    if s.space 1 then s.trigger stall .authorise
    else
      let k := (s.veh stall).authKind
      let e := (s.veh stall).emaid
      let s1 := sessMap stall (fun x => { x with authKind := k, authRef := s.rd (Reg.stlAuthRef stall), emaid := e }) s
      prepare stall 0x41 (answered stall s1)
  else s

/-- A pilot class acts on the mode (R200, R209), step 2 of R201; in ENDING it decides where the session's end leads. -/
def pilotActs (stall cls : Nat) (s : State) : State :=
  let m := s.mode stall
  if m = 6 then endingOpen stall s
  else if cls = 0 then
    if m = 7 then idleAfterProof stall 0x46 s else toEnding stall 4 s
  else if m = 1 then
    if s.bit (Reg.safStStat stall) 5 then (proofAbort stall s).setV .proofWait stall 4
    else if s.tripped stall ∨ s.v .proofWait stall = 4 then s
    else if s.ppMode stall = 1 ∧ ¬ (1 ≤ s.fd (Reg.stlPp stall) 0 3 ∧ s.fd (Reg.stlPp stall) 0 3 ≤ 4) then
      s.hwb (Reg.stlMode stall) 24 true
    else connect stall 0x40 s
  else if cls = 1 ∧ s.isDc stall = false then
    if m = 4 ∨ m = 5 then
      let s1 := raisePause stall 2 s
      if s1.enabled stall ∧ s1.v .bWithdraw stall = 0 then s1.setV .bWithdraw stall (s1.v .pilotAt stall + 10000000 + 1) else s1
    else s
  else s

/-- The contactors or the accepted class let a stall go on (R200): AC PREPARING to DELIVERING, or out of ENDING. -/
def contactorsAct (stall : Nat) (s : State) : State :=
  let c := s.effective stall
  if s.mode stall = 3 ∧ s.isDc stall = false ∧ (c = 2 ∨ c = 3) ∧ s.contactorsClosed stall then
    setMode stall 4 0x42 s
  else endingOpen stall s

/-- The condition under which a stall's cause of SAFE clears (R202). -/
def causeCleared (s : State) (stall : Nat) : Bool :=
  let heldA := decide (s.accepted stall = 0) && decide (s.v .pilotAt stall + 1000000000 ≤ s.counter)
  match s.fd (Reg.stlMode stall) 8 8 with
  | 0x20 | 0x21 | 0x22 => heldA
  | 0x23 => heldA && decide (s.fd (Reg.stlPp stall) 0 3 ≠ 6)
  | 0x24 => decide (s.v .frontBad stall = 0)
  | 0x25 => !s.tripped stall
  | 0x26 => s.inputsGood stall
  | 0x27 => !s.commonSafe
  | _ => s.idleProved stall

/-- The cause is of return class AUTO (R202). -/
def causeAuto (s : State) (stall : Nat) : Bool :=
  decide (s.fd (Reg.stlMode stall) 8 8 ∈ [0x20, 0x21, 0x22, 0x23, 0x27])

/-- A return is taken up: the stall waits for its proof (R199, R200, R202). -/
def returnAsked (stall : Nat) (s : State) : State :=
  if s.mode stall = 9 then s.setV .proofWait stall 2
  else if s.mode stall = 8 ∧ s.causeCleared stall then s.setV .proofWait stall 3
  else s

/-- The idle proof ends (R199, R200): `held` when both channels read every mapped feedback open for 20 ms. While the
island still holds the stall tripped the stall stays where it is (R305). -/
def proofEnds (stall : Nat) (held : Bool) (s : State) : State :=
  let w := s.v .proofWait stall
  if w = 0 then s
  else if !held then
    if w = 3 then s.setV .proofWait stall 0 else toSafe stall 0x28 s
  else if s.tripped stall ∨ s.commonSafe then s
  else if w = 1 then (if s.stallEn stall then enterIdle stall 0x48 s else s.setV .proofWait stall 0)
  else if w = 2 then enterIdle stall 0x4B s
  else if w = 3 then
    if s.mode stall = 8 ∧ (s.causeCleared stall ∨ s.fd (Reg.stlMode stall) 8 8 = 0x28) then
      if s.oosPending stall then
        setMode stall 9 0x4B ((s.hwb (Reg.stlMode stall) 23 false).setV .proofWait stall 0)
      else enterIdle stall 0x4B s
    else s.setV .proofWait stall 0
  else
    let s1 := if s.mode stall = 6 then
        (if s.oosPending stall ∨ s.accepted stall ≠ 0 then endingOpen stall s else sessionOver stall (enterIdle stall 0x45 s))
      else if s.mode stall = 7 then (if s.accepted stall = 0 then enterIdle stall 0x46 s else s)
      else if s.mode stall = 1 ∧ 1 ≤ s.effective stall ∧ s.effective stall ≤ 3 then s.trigger stall (.pilot (s.effective stall))
      else s
    s1.setV .proofWait stall 0

/-- EN written (R200). -/
def enableActs (stall : Nat) (on : Bool) (s : State) : State :=
  if on then (if s.mode stall = 0 then s.setV .proofWait stall 1 else s)
  else
    let s1 := proofAbort stall (s.setV .proofWait stall 0)
    if s1.mode stall = 1 ∨ s1.mode stall = 9 then setMode stall 0 0x49 s1 else s1

/-- Step of R201 at which a trigger is applied. -/
def trigRank : Trig → Nat
  | .safe _ => 1
  | .pilot _ | .ppChanged | .contactors | .proof _ => 2
  | .endSession _ | .enable _ | .off | .takeOut => 3
  | .pause _ => 4
  | .limit _ => 5
  | .on _ | .authorise | .lift _ | .return_ => 6
  | .delivery | .closed => 7

/-- OFF (R216, R217). In CONNECTED it refuses the authorisation; it ends a hard pause with the session (R172). -/
def offActs (stall : Nat) (s : State) : State :=
  toEnding stall (if s.mode stall = 2 then 0xC else 2) (hardPauseEnd stall 4 s)

/-- TAKE_OUT (R216, R217). -/
def takeOutActs (stall : Nat) (s : State) : State :=
  let m := s.mode stall
  if m = 1 ∨ m = 7 then setMode stall 9 0x4A (proofAbort stall (s.setV .proofWait stall 0))
  else if 2 ≤ m ∧ m ≤ 8 then
    let s1 := stlSum stall (s.hwb (Reg.stlMode stall) 23 true)
    if m ≤ 5 then toEnding stall 3 (hardPauseEnd stall 4 s1) else endingOpen stall s1
  else s

/-- ON (R216, R217): authorises, lifts the command pause or starts a new session from FINISHED. -/
def onActs (stall ref : Nat) (s : State) : State :=
  let m := s.mode stall
  if m = 7 then (connect stall 0x47 s).hw (Reg.stlAuthRef stall) ref
  else
    let s1 := s.hw (Reg.stlAuthRef stall) ref
    let s2 := sessMap stall (fun x => { x with authRef := ref }) s1
    if m = 2 then authorise stall s2 else if m = 5 then liftPause stall 0 s2 else s2

/-- One trigger acts on the mode that the step before it left (R201). -/
def stlTrig (stall : Nat) (t : Trig) (s : State) : State :=
  match t with
  | .safe c => toSafe stall c s
  | .pilot c => pilotActs stall c s
  | .ppChanged => toEnding stall 5 s
  | .contactors => contactorsAct stall s
  | .proof h => proofEnds stall h s
  | .endSession c => toEnding stall c s
  | .enable b => enableActs stall b s
  | .off => offActs stall s
  | .takeOut => takeOutActs stall s
  | .pause c => raisePause stall c s
  | .limit w => demandRefresh stall (s.hwf (Reg.stlDemand stall) 24 24 w)
  | .on r => onActs stall r s
  | .authorise => authorise stall s
  | .lift c => liftPause stall c s
  | .return_ => returnAsked stall s
  | .delivery =>
    if s.mode stall = 3 ∧ s.isDc stall then
      setMode stall 4 0x42 s
    else s
  | .closed => endingOpen stall s

/-- A progress report that waits for the new leader of its stall (R203). -/
def reportWaits (s : State) (x : Nat × Trig) : Bool := decide (x.2 = .delivery) && s.takeover x.1

/-- Apply the triggers of one step of R201, stalls in ascending order, each stall's in the order of their arrival. -/
def stlStep (r : Nat) (s : State) : State :=
  let now (x : Nat × Trig) : Bool := decide (trigRank x.2 = r) && !s.reportWaits x
  let mine := s.trig.filter now
  let s1 := { s with trig := s.trig.filter fun x => !now x }
  eachBelow 32 (fun t u => each (mine.filter fun x => decide (x.1 = t)) (fun x => stlTrig t x.2) u) s1

/-! Pilot and proximity. -/

/-- PILOT_CLASS_ACCEPTED (R208, R209): plateaus in units of 10 mV. While state F is driven no class is formed; only in SAFE
is the vehicle's level followed, for the return of R202. -/
def pilotAccepted (stall : Nat) (hi lo : Int) (s : State) : State :=
  let m := s.mode stall
  let c := pilotClass hi
  if m = 0 ∨ m = 9 then s
  else if m = 8 then
    if s.accepted stall = c then s else (s.setV .pilotAcc stall (c + 1)).setV .pilotAt stall s.counter
  else
    let a := Reg.stlPilot stall
    let s0 := if s.fd a 4 12 = 0 then dutyApply stall s else s
    let s1 := s0.hwf a 16 16 (unsigned 16 hi)
    let s2 := s1.hwf a 32 16 (if s1.fd a 4 12 < 1000 ∧ s1.fd a 4 12 ≠ 0 then unsigned 16 lo else 0)
    let changed := decide (s2.accepted stall ≠ c)
    let s3 := if changed then
        ((s2.setV .pilotAcc stall (c + 1)).setV .pilotAt stall s2.counter).hwf a 0 3 c |>.evt (0x600 + stall) 18
      else s2
    let s4 := if s3.effective stall = 1 then s3 else s3.setV .bWithdraw stall 0
    if c = 4 then s4.trigger stall (.safe 0x20)
    else if c = 6 then s4.trigger stall (.safe 0x22)
    else if c = 0 then (if s4.enabled stall ∧ s4.inSession stall then withdraw stall s4 else s4).trigger stall (.pilot 0)
    else
      let e := s4.effective stall
      let s5 := if c = 3 ∧ e = 1 then s4.hwb (Reg.stlMode stall) 25 true else s4
      let s6 := s5.trigger stall (.pilot e)
      if e = 1 then s6
      else (vehicleLift stall s6).trigger stall .contactors

/-- PILOT_INVALID_TIMEOUT (R209). -/
def pilotInvalid (stall : Nat) (s : State) : State :=
  let m := s.mode stall
  if m = 0 ∨ m = 8 ∨ m = 9 then s
  else
    let s1 := ((s.setV .pilotAcc stall 7).setV .pilotAt stall s.counter).hwf (Reg.stlPilot stall) 0 3 6
    (s1.evt (0x600 + stall) 18).trigger stall (.safe 0x22)

/-- DIODE_FAULT (R210): the low plateau, 10 mV, above -10.5 V with a duty from 3 % to 97 % in force. -/
def diodeFault (stall : Nat) (lo : Int) (s : State) : State :=
  let a := Reg.stlPilot stall
  let d := s.fd a 4 12
  if 30 ≤ d ∧ d ≤ 970 ∧ -1050 < lo then
    ((s.hwb a 3 true).hwf a 32 16 (unsigned 16 lo)).trigger stall (.safe 0x21)
  else s

/-- Pilot A or a lost PP code with the contactors closed: both channels withdraw at once (R209, R213, R297). -/
def lostContact (stall : Nat) (s : State) : State :=
  if s.inSession stall ∧ s.enabled stall then withdraw stall s else s

/-- A proximity code is accepted (R212, R213). -/
def ppAccept (stall code : Nat) (s : State) : State :=
  let a := Reg.stlPp stall
  let old := s.fd a 0 3
  let s1 := (s.hwf a 0 3 code).hwf a 24 8 (cableAmps code)
  let s2 := if old = code then s1 else s1.evt (0x600 + stall) 19
  if code = 6 then s2.trigger stall (.safe 0x23)
  else if s2.inSession stall then
    if old = code then s2
    else (if code = 0 ∨ code = 5 then lostContact stall s2 else s2).trigger stall .ppChanged
  else if s2.mode stall = 1 ∧ 1 ≤ code ∧ code ≤ 4 ∧ 1 ≤ s2.effective stall ∧ s2.effective stall ≤ 3 then
    s2.trigger stall (.pilot (s2.effective stall))
  else s2

/-- PP_CODE_ACCEPTED (R212): ten equal readings of R in ohms. With PP_MODE 0 nothing is read. -/
def ppAccepted (stall ohms : Nat) (s : State) : State :=
  if s.ppMode stall = 1 then ppAccept stall (ppCode ohms) (s.hwf (Reg.stlPp stall) 8 16 (saturate 16 ohms)) else s

/-- PP_TIMEOUT (R212): no acceptance within 1 s gives INVALID. -/
def ppTimeout (stall : Nat) (s : State) : State := if s.ppMode stall = 1 then ppAccept stall 5 s else s

/-- OVERDRAW (R211): an excess that lasted OVERDRAW_S, or state C held for OVERDRAW_S after entering PAUSED. -/
def overdraw (stall : Nat) (s : State) : State :=
  let lim : Int := (s.fd (Reg.stlCfg stall) 32 8 * 1000000000 : Nat)
  let t := s.v .excessAt stall
  if t ≠ 0 ∧ t - 1 + lim ≤ s.counter then s.trigger stall (.endSession 6)
  else if s.mode stall = 5 ∧ s.isDc stall = false ∧ s.hlc stall = false ∧ s.accepted stall = 2
      ∧ max (s.v .pausedAt stall) (s.v .pilotAt stall) + lim ≤ s.counter then
    (lostContact stall s).trigger stall (.endSession 6)
  else s

/-- PILOT_B_WITHDRAW (R209): 10 ms after acceptance of B in AC. -/
def pilotBWithdraw (stall : Nat) (s : State) : State :=
  let t := s.v .bWithdraw stall
  if t ≠ 0 ∧ t - 1 ≤ s.counter then (lostContact stall s).setV .bWithdraw stall 0 else s

/-- IDLE_PROOF (R199): passes only if the state the channels read agrees. -/
def idleProof (stall : Nat) (held : Bool) (s : State) : State :=
  if s.v .proofWait stall = 0 then s else s.trigger stall (.proof (held && s.contactorsOpen stall))

/-- SAFE_CAUSE_CLEARED (R202): an AUTO cause clears and the leading partition requests the return, unless one is under way. -/
def safeCauseCleared (stall : Nat) (s : State) : State :=
  if s.mode stall = 8 ∧ s.causeAuto stall ∧ s.causeCleared stall ∧ s.takeover stall = false
      ∧ s.partState (s.leader stall) = 0 ∧ s.v .proofWait stall = 0 then
    s.trigger stall .return_
  else s

/-- CABLE_CHECK_STARTED (R214). -/
def cableCheckStart (p : Partition) (stall : Nat) (s : State) : State :=
  if s.leads p stall ∧ s.insAllowed stall ∧ s.inSession stall then insRun stall (s.setV .cableChk stall 1) else s

/-- CABLE_CHECK_ENDED (R214). -/
def cableCheckEnd (p : Partition) (stall : Nat) (s : State) : State :=
  if s.leads p stall then insRun stall (s.setV .cableChk stall 0) else s

/-! Grants (R169, R207, R218, R238). -/

/-- I of R207 for a grant; the quotient by a U_NOM of 0 is a free value (log entry 6). -/
def offerOf (s : State) (stall g : Nat) : Nat :=
  let den := s.phaseVolts stall
  min (if den = 0 then s.draw 12 else g * 10 / den) (s.iLim stall * 10)

/-- A committed grant reaches a stall: the offer of R207, and the ALLOCATOR cause (R218). -/
def grantActs (stall g : Nat) (s : State) : State :=
  if s.demandCounted stall then
    if s.hlc stall then
      if g = 0 then (if s.mode stall = 4 then s.trigger stall (.pause 3) else s)
      else if s.bit (Reg.stlMode stall) 19 then s.trigger stall (.lift 3) else s
    else
      let a := Reg.stlOffer stall
      let i := s.offerOf stall g
      let dec := decide (i < s.fd a 0 12)
      let s1 := ((if s.phaseVolts stall = 0 then s.drawn else s).hwf a 0 12 i).setV .granted stall 1
      let s2 := if dec ∧ s1.v .excessAt stall ≠ 0 then s1.setV .excessAt stall (s1.counter + 1) else s1
      let s3 := excessRefresh stall (dutyRefresh stall s2)
      if i < 60 then s3.trigger stall (.pause 3)
      else if s3.bit (Reg.stlMode stall) 19 then s3.trigger stall (.lift 3) else s3
  else s

/-! Commands (R216, R217) and configuration (R219, R223, R249). -/

/-- Step of R201 at which a stall command is applied. -/
def stlCmdRank : Nat → Nat
  | 1 => 6
  | 2 => 5
  | 3 => 4
  | 4 => 3
  | 5 => 3
  | _ => 6

/-- The answer to a stall command on the mode that the earlier steps left (R201, R217). -/
def stlAnswer (stall code : Nat) (m : Master) (s : State) : Nat :=
  let md := s.mode stall
  let op := decide (s.role m = 2 ∨ s.role m = 3)
  match code with
  | 1 =>
    if s.bit Reg.alcPaused stall then 0x15
    else if (2 ≤ md ∧ md ≤ 5) ∨ md = 7 then 0x01 else 0x15
  | 2 => if 2 ≤ md ∧ md ≤ 6 then 0x01 else 0x15
  | 3 => if 3 ≤ md ∧ md ≤ 5 then 0x01 else 0x15
  | 4 => if md = 0 then 0x15 else 0x01
  | 5 => if !op then 0x12 else if md = 0 then 0x15 else 0x01
  | 6 =>
    if !op then 0x12
    else if md = 9 ∨ md = 1 then 0x01
    else if md = 8 ∧ s.causeCleared stall then 0x01 else 0x15
  | _ => 0x16

/-- The effect of an accepted stall command (R216, R217): PAUSE is without effect in PAUSED. -/
def stlEffect (stall code arg : Nat) (s : State) : State :=
  match code with
  | 1 => stlTrig stall (.on (field arg 0 32)) s
  | 2 => stlTrig stall (.limit (field arg 0 24)) s
  | 3 => if s.mode stall = 5 then s else stlTrig stall (.pause 0) s
  | 4 => stlTrig stall .off s
  | 5 => stlTrig stall .takeOut s
  | 6 => stlTrig stall .return_ s
  | _ => s

/-- The answer to a write of STL_CFG with stored value `v` (R219, R223, R249). -/
def stlCfgAnswer (stall v : Nat) (s : State) : Nat :=
  let en := maskBit v 0
  let dc := decide (field v 1 2 = 2)
  if 64 ≤ field v 9 7 ∧ field v 9 7 ≤ 126 then 0x16
  else if !s.stallFree stall then 0x15
  else if dc && maskBit v 4 then 0x15
  else if en && (decide (field v 9 7 = 0x7F) || (!maskBit v 3 && !maskBit v 4)) then 0x15
  else if en && dc && (decide (s.fd (Reg.vhsDcLim stall) 0 16 = 0) || decide (s.fd (Reg.vhsDcLim stall) 32 16 = 0)
      || decide (s.fd (Reg.vhsDcPmax stall) 0 24 = 0)) then 0x15
  else 0x01

/-- A committed STL_CFG (R200, R212). -/
def stlCfgSet (stall old : Nat) (s : State) : State :=
  let on := s.stallEn stall
  let s1 := if maskBit old 0 = on then s else s.trigger stall (.enable on)
  if s1.ppMode stall = 0 then
    let a := Reg.stlPp stall
    (s1.hwf a 0 3 7).hwf a 24 8 (s1.fd (Reg.stlPwrCfg stall) 12 8)
  else if field old 7 2 = 0 then (s1.hwf (Reg.stlPp stall) 24 8 0) else s1

/-- SAFE_FRONT_END (R202): a front end fails, bit 0 pilot, 1 proximity, 2 modem. -/
def frontEndFail (stall bit : Nat) (s : State) : State :=
  (s.setV .frontBad stall (setField (s.n .frontBad stall) bit 1 1)).trigger stall (.safe 0x24)

/-- STL at a power-on (R220): the drives and pilots are held, enabled stalls await their proof, a stall taken out stays
out. -/
def stlPowerOn (s : State) : State :=
  eachBelow 32 (fun t u =>
    let out := decide (u.mode t = 9) || u.oosPending t
    let a := Reg.stlMode t
    let u1 := u.hw a (setField (setField 0 0 4 (if out then 9 else 0)) 21 1 (u.leader t))
    let amps := if u.ppMode t = 0 then u.fd (Reg.stlPwrCfg t) 12 8 else 0
    let u2 := ((u1.hw (Reg.stlSession t) 0).hw (Reg.stlPilot t) 5).hw (Reg.stlPp t) (setField 7 24 8 amps)
    let u3 := ((u2.hw (Reg.stlIns t) 0).hw (Reg.stlOffer t) 0).hw (Reg.stlAuthRef t) 0
    let u4 := ((u3.hw (Reg.stlDemand t) 0xFFFFFF000000).setV .dutyWant t 0).setV .cableChk t 0
    let u5 := ((u4.setV .pilotAcc t 0).setV .granted t 0).setV .excessAt t 0
    stlSum t (u5.setV .proofWait t (if !out && u5.stallEn t then 1 else 0)))
    ({ s with trig := [] }.hw Reg.stlSumLead (s.cfgValue Reg.stlSumLead))

end State
end Sys2Proof.Machine
end

