-- ==== Sys2Proof/Machine/Tokens.lean ====
section
/-! DEFINITION. The token memories (02_register_pages.md R42; 13_granary_journal.md R349, R350) and the COMMAND record
(R347). -/
namespace Sys2Proof.Machine.State

/-- Commands a token memory holds (R349). -/
def tokenCap : Nat := 65536

/-- The token memory of a master. -/
def tokens (s : State) : Master → List (Nat × Nat)
  | .host => s.tokH
  | .mgmt => s.tokM

/-- The sequence number remembered with a token (R42). -/
def tokenSeq (s : State) (m : Master) (tok : Nat) : Option Nat :=
  ((s.tokens m).find? fun e => decide (e.1 = tok)).map (·.2)

/-- An accepted command enters its master's memory and evicts the oldest of a full one (R349, R350). -/
def remember (m : Master) (tok seq : Nat) (s : State) : State :=
  match m with
  | .host =>
    let l := ((tok, seq) :: s.tokH).take tokenCap
    { s with tokH := l }.hwf Reg.jnlTokens 0 17 l.length
  | .mgmt =>
    let l := ((tok, seq) :: s.tokM).take tokenCap
    { s with tokM := l }.hwf Reg.jnlTokens 24 17 l.length

/-- A COMMAND record (R347): `target` is the address of xxx_CMD, or a queue number with bit 31 set; `tok2` and `actor2`
belong to a command merged under R46. -/
def commandRec (source inst actor tok code arg target tok2 actor2 : Nat) : Submission :=
  rec1 source 1 code inst actor [(6, tok), (1, code), (5, arg), (4, target), (6, tok2), (1, actor2)]

end Sys2Proof.Machine.State
end

