-- ==== Sys2Proof/Machine/Key.lean ====
section
/-! DEFINITION. The key store (16_key_store.md R406 to R434): slots, derivation, engines, tamper and zeroisation. The bytes that a
signature or a wrapping makes are free (log entry 6). -/
namespace Sys2Proof.Machine

/-- PURPOSE of a stored slot (R415). -/
def slotPurpose (i : Nat) : Nat :=
  if 1 ≤ i ∧ i ≤ 6 then 1 else if i = 7 then 7 else if i = 8 then 2 else if 9 ≤ i ∧ i ≤ 11 then 3
  else if 16 ≤ i ∧ i ≤ 47 then 4 else if 48 ≤ i ∧ i ≤ 55 then 5 else if 56 ≤ i ∧ i ≤ 63 then 6 else 0

/-- Slots that stay reserved (R415). -/
def slotReserved (i : Nat) : Bool := decide (i = 0 ∨ (12 ≤ i ∧ i ≤ 15) ∨ 256 ≤ i)

/-- An ALG fits a slot (R415, R434). -/
def slotTakes (i alg : Nat) : Bool :=
  !slotReserved i && match slotPurpose i with
    | 1 | 2 | 3 => decide (alg = 9)
    | 4 | 6 | 7 => decide (alg = 12)
    | 5 => decide (alg = 3 ∨ alg = 5 ∨ alg = 6)
    | _ => decide (1 ≤ alg ∧ alg ≤ 12)

/-- Engine of a use: public-key, symmetric, hash (R419). -/
def engineOf : KeyUse → Nat
  | .sign | .verify | .agree => 0
  | .wrap | .encrypt => 1
  | .derive .. | .mac => 2

/-- Engines of a kind. -/
def engineCount : Nat → Nat
  | 0 => 4
  | _ => 2

/-- First bit of a kind's busy bits in KEY_ENG_STAT (R430). -/
def engineBit : Nat → Nat
  | 0 => 0
  | 1 => 4
  | _ => 6

/-- USAGE bit that a use needs, none for a MAC (R434). -/
def usageBit : KeyUse → Option Nat
  | .sign => some 0
  | .verify => some 1
  | .derive .. => some 2
  | .wrap => some 3
  | .encrypt => some 4
  | .agree => some 5
  | .mac => none

/-- USAGE of a built-in key (R408). -/
def builtinUsage : Nat → Nat
  | 0 => 4
  | 1 => 0x21
  | 2 => 1
  | 3 => 8
  | _ => 0

/-- A label of a derivation (R413): 1 to 32 bytes, none 0x00, not of the built-in keys. -/
def labelOk (l : List Byte) : Bool :=
  decide (1 ≤ l.length ∧ l.length ≤ 32) && l.all (fun b => decide (b ≠ 0)) && decide (l.take 4 ≠ [0x53#8, 0x46#8, 0x4E#8, 0x2D#8])

namespace State

/-- The key store is zeroised (R425). -/
def zeroised (s : State) : Bool := s.bit Reg.keyState 1

/-- ALG of a stored slot; 0 empty. -/
def slotAlg (s : State) (i : Nat) : Nat := s.fd (Reg.keySlot i) 0 4

/-- KEY_SLOT_SUM (R432). -/
def slotSum (s : State) : State :=
  let used := ((List.range 256).filter fun i => decide (s.slotAlg i ≠ 0)).length
  let unv := ((List.range 256).filter fun i => s.bit (Reg.keySlot i) 15).length
  (s.hwf Reg.keySlotSum 0 9 used).hwf Reg.keySlotSum 9 9 unv

/-- KEY_CACHE entries in use. -/
def cacheShow (s : State) : State := s.hwf Reg.keyCache 0 11 (s.dkeys.filter (·.cached)).length

/-- A STALE failure is counted. -/
def staleCount (s : State) : State := s.inc Reg.keyCache 32 16 1

/-- The derived key of an index. -/
def dkey (s : State) (i : Nat) : Option DKey := s.dkeys.find? fun d => decide (d.index = i)

/-- What a handle gives a use: 0 it may run, 1 STALE, 2 USAGE, 3 ZEROISED (R411, R413, R424). -/
def handleCheck (s : State) (h : Nat) (use : KeyUse) : Nat :=
  let i := field h 16 14
  let may (u : Nat) : Nat := match usageBit use with
    | none => 0
    | some b => if maskBit u b then 0 else 2
  match h / 2 ^ 30 % 4 with
  | 0 => if 256 ≤ i ∨ s.slotAlg (i % 256) = 0 ∨ s.fd (Reg.keySlot (i % 256)) 16 16 ≠ field h 0 16 then 1
         else may (s.fd (Reg.keySlot (i % 256)) 4 8)
  | 1 => match s.dkey i with
    | none => 1
    | some d => if d.gen ≠ field h 0 16 then 1 else may d.usage
  | 2 => if s.vehs.any fun x => decide (x.2.nmk = some h) || (x.2.tcp.keys.any fun k => decide (k.1 = h ∨ k.2 = h)) then 0 else 1
  | _ => if s.zeroised then 3 else if 4 < i ∨ field h 0 16 ≠ 0 then 1 else may (builtinUsage i)

/-- Level of a handle below MROOT or a stored key (R413). -/
def handleLevel (s : State) (h : Nat) : Nat :=
  if h / 2 ^ 30 % 4 = 1 then ((s.dkey (field h 16 14)).map (·.level)).getD 0 else 0

/-- Descendants of a handle among the derived keys, to four levels. -/
def descendants (s : State) (h : Nat) : List Nat :=
  let grow (hs : List Nat) : List Nat :=
    (hs ++ (s.dkeys.filter fun (d : DKey) => decide (d.parent ∈ hs)).map fun (d : DKey) => 2 ^ 30 + d.index * 2 ^ 16 + d.gen).eraseDups
  grow (grow (grow (grow [h])))

/-- Every cached descendant of a handle is cleared (R417): its handles are stale from now on. -/
def clearBelow (h : Nat) (self : Bool) (s : State) : State :=
  let hs := (s.descendants h).filter fun x => self || decide (x ≠ h)
  cacheShow { s with dkeys := s.dkeys.map fun (d : DKey) =>
    if 2 ^ 30 + d.index * 2 ^ 16 + d.gen ∈ hs then { d with gen := (d.gen + 1) % 2 ^ 16, cached := false, parent := 0, level := 9 }
    else d }

/-- The least recently used cached entry leaves a full cache (R414). -/
def cacheEvict (s : State) : State :=
  let c := s.dkeys.filter (·.cached)
  let held (d : DKey) : Bool := s.keyOps.any fun o => o.started && decide (o.req.handle = 2 ^ 30 + d.index * 2 ^ 16 + d.gen)
  if c.length < 1024 then s
  else
    match c.filter fun d => !held d with
    | [] => s
    | d :: rest =>
      let old := rest.foldl (fun b e => if e.used < b.used then e else b) d
      { s with dkeys := s.dkeys.map fun (e : DKey) => if e.index = old.index then { e with cached := false } else e }.inc Reg.keyCache
        16 16 1

/-- A derived key is used: it is in the cache again (R414). -/
def cacheTouch (i : Nat) (s : State) : State :=
  let k := s.n .keyUse + 1
  let s1 := match s.dkey i with
    | some d => if d.cached then s else cacheEvict s
    | none => s
  cacheShow ({ s1 with dkeys := s1.dkeys.map fun (d : DKey) => if d.index = i then { d with cached := true, used := k } else d }.setV
    .keyUse 0 k)

/-- A derivation (R412 to R414): the same parent, label, context and type give the same handle. Answers status and handle. -/
def derive (parent : Nat) (label context : List Byte) (alg usage : Nat) (s : State) : State × Nat × Nat :=
  if !labelOk label || decide (16 < context.length) || decide (4 ≤ s.handleLevel parent) then (s, 2, 0)
  else
    match s.dkeys.find? fun d => decide (d.parent = parent ∧ d.label = label ∧ d.context = context ∧ d.alg = alg) with
    | some d => (cacheTouch d.index s, 0, 2 ^ 30 + d.index * 2 ^ 16 + d.gen)
    | none =>
      let dead := s.dkeys.find? fun d => decide (d.level = 9)
      let i := (dead.map (·.index)).getD s.dkeys.length
      let g := (dead.map (·.gen)).getD 0
      if 2 ^ 14 ≤ i then (s, 4, 0)
      else
        let d : DKey := ⟨i, g, parent, label, context, alg, usage % 256, s.handleLevel parent + 1, false, 0⟩
        let s1 := { s with dkeys := (s.dkeys.filter fun e => decide (e.index ≠ i)) ++ [d] }
        (cacheTouch i s1, 0, 2 ^ 30 + i * 2 ^ 16 + g)

/-! Engines (R419, R420). -/

/-- Engines of a kind that run. -/
def engineBusy (s : State) (e : Nat) : Nat := (s.keyOps.filter fun o => o.started && decide (o.engine = e)).length

/-- KEY_ENG_STAT busy bits and IN_USE of the stored slots. -/
def engineShow (s : State) : State :=
  let s1 := [0, 1, 2].foldl (fun t e =>
    t.hwf Reg.keyEngStat (engineBit e) (engineCount e) (2 ^ min (t.engineBusy e) (engineCount e) - 1)) s
  eachBelow 256 (fun i t =>
    t.hwb (Reg.keySlot i) 32 (t.keyOps.any fun o => o.started && decide (o.req.handle / 2 ^ 30 % 4 = 0)
      && decide (field o.req.handle 16 14 = i))) s1

/-- An operation ends. -/
def opEnd (id status handle : Nat) (s : State) : State :=
  { s with keyOps := s.keyOps.filter fun o => decide (o.req.id ≠ id), keyDone := s.keyDone ++ [(id, status, handle)] }

/-- Queued operations whose key has gone fail (R417). -/
def opsStale (s : State) : State :=
  each (s.keyOps.filter fun o => !o.started) (fun o t =>
    let st := t.handleCheck o.req.handle o.req.use
    if st = 0 then t else opEnd o.req.id st 0 (if st = 1 then staleCount t else t)) s

/-- Start the waiting operation of an engine kind that R420 puts first; a stale handle fails instead (R417). -/
def engineStart (e : Nat) (s : State) : State :=
  let w := s.keyOps.filter fun o => !o.started && decide (o.engine = e)
  if engineCount e ≤ s.engineBusy e then s
  else
    match w with
    | [] => s
    | x :: rest =>
      let b := rest.foldl (fun b o => if o.req.cls < b.req.cls then o else b) x
      let st := s.handleCheck b.req.handle b.req.use
      if st ≠ 0 then opEnd b.req.id st 0 (if st = 1 then staleCount s else s)
      else
        let i := field b.req.handle 16 14
        let s1 := if b.req.handle / 2 ^ 30 % 4 = 1 then cacheTouch i s else s
        { s1 with keyOps := s1.keyOps.map fun (o : KeyOp) => if o.req.id = b.req.id then { o with started := true } else o }

/-- Every engine takes what it can. -/
def enginesRun (s : State) : State :=
  engineShow ((List.range (s.keyOps.length + 1)).foldl (fun t _ => engineStart 2 (engineStart 1 (engineStart 0 t))) (opsStale s))

/-- KEY_OPERATION (R411, R419): an operation waits for its engine; one whose handle cannot serve it fails. -/
def keyOperation (r : KeyReq) (s0 : State) : State :=
  let s : State := { s0 with keyDone := [] }
  if s.bit Reg.keyState 0 = false then opEnd r.id (if s.zeroised then 3 else 4) 0 s
  else
    let st := s.handleCheck r.handle r.use
    if st ≠ 0 then opEnd r.id st 0 (if st = 1 then staleCount s else s)
    else enginesRun { s with keyOps := s.keyOps ++ [KeyOp.mk r (engineOf r.use) false] }

/-- KEY_OPERATION_COMPLETE (R417, R419, R420). -/
def keyComplete (id : Nat) (s0 : State) : State :=
  let s : State := { s0 with keyDone := [] }
  match s.keyOps.find? fun o => decide (o.req.id = id) && o.started with
  | none => s
  | some o =>
    match o.req.use with
    | .derive label context alg usage =>
      let d := derive o.req.handle label context alg usage s
      enginesRun (opEnd id d.2.1 d.2.2 d.1)
    | _ => enginesRun (opEnd id 0 0 s)

/-! Slots and commands (R415 to R418, R431). -/

/-- A KEY_SLOT record (R564). -/
def slotRec (i code : Nat) (s : State) : State :=
  (submit (rec1 0xE 9 0x21 i 0 [(1, i), (1, code), (2, s.fd (Reg.keySlot i) 16 16), (1, s.slotAlg i)]) s).evt 0xE00 19

/-- GEN of a stored slot increments and its descendants are cleared (R417). -/
def genNext (i : Nat) (s : State) : State :=
  let g := s.fd (Reg.keySlot i) 16 16
  clearBelow (i * 2 ^ 16 + g) false (s.hwf (Reg.keySlot i) 16 16 (g + 1))

/-- A slot takes a key. -/
def slotPut (i alg usage code : Nat) (s : State) : State :=
  let s1 := if s.slotAlg i = 0 then s else genNext i s
  let a := Reg.keySlot i
  let s2 := fault 0x0E02 i 0 0 false ((((s1.hwf a 0 4 alg).hwf a 4 8 usage).hwf a 12 3 (slotPurpose i)).hwb a 15 false)
  enginesRun (slotRec i code (slotSum ((s2.setV .keyMat i (s2.n .free + 1)).drawn)))

/-- Bytes `off` to `off + n - 1` of a master's staging window (R433). -/
def stgByte (s : State) (m : Master) (k : Nat) : Nat := s.fdB m (Reg.keyStgData (k / 6)) (8 * (k % 6)) 8

/-- Write a byte string into a master's staging window. -/
def stgPut (m : Master) (content : Nat) (bs : List Byte) (s : State) : State :=
  let s1 := eachBelow ((bs.length + 5) / 6) (fun i t => t.wrB m (Reg.keyStgData i) (ofLE (slice bs (6 * i) 6))) s
  s1.wrB m Reg.keyStgCtl (bs.length + content * 2 ^ 16)

/-- The four bytes "SKEY". -/
def stgMagic (s : State) (m : Master) : Bool :=
  decide (s.stgByte m 0 = 0x53 ∧ s.stgByte m 1 = 0x4B ∧ s.stgByte m 2 = 0x45 ∧ s.stgByte m 3 = 0x59)

/-- Bytes of a public key of an ALG (R419, R434). -/
def publicLen : Nat → Nat
  | 3 | 8 => 65
  | 4 | 9 => 97
  | 5 | 10 => 133
  | 6 | 11 => 57
  | 7 => 56
  | _ => 0

/-- What a slot shows of itself: the public key of a private one, else what it holds. -/
def publicKey (s : State) (i len : Nat) : List Byte :=
  let alg := s.slotAlg i
  toLE len (if 3 ≤ alg ∧ alg ≤ 7 then Config.publicOf alg (ofBE (s.slotSecret i)) else s.slotValue i)

/-- The public key of a built-in private key (R408): 0x04, then x and y, 48 bytes each (R410). -/
def builtinPublic (s : State) (i : Nat) : List Byte := toLE 1 4 ++ toBE 96 (Config.publicOf 4 (ofBE (s.builtinKey i)))

/-- Length of a slot's certificate: that of its import; the factory's is free, up to 2 048 (R416). -/
def certLen (s : State) (k : Nat) : Nat := if s.n .keyLen k = 0 then 1 + Config.free (2 ^ 65 + k) % 2048 else s.n .keyLen k

/-- The meter-key certificate (R410); its signature is free. -/
def meterCert (s : State) : List Byte :=
  toLE 1 1 ++ toLE 1 0 ++ toLE 6 (s.rd Reg.sysIdSerial) ++ toLE 6 (s.rd Reg.keyMrecFirst) ++ toLE 2 (s.fd Reg.keyState 16 16)
    ++ s.builtinPublic 2 ++ s.measBytes ++ toLE 15 0 ++ toLE 96 (Config.free (s.n .keyMat 256 - 1))

/-- A new METER_RECORD key and its certificate (R409, R410, R427). -/
def meterKeyNew (s : State) : State :=
  let s1 := (s.setV .keyMat 256 (s.n .free + 1)).drawn
  let s2 := s1.hw Reg.keyMrecFirst (s1.rd Reg.bilRecNum + 1)
  submit ⟨0xE, 9, 0x20, 0, 0, 12, ofLE s2.meterCert⟩ s2

/-- The measurement M of the SVN in force (R407). -/
def measure (s : State) : State :=
  let m := Sha.sha384 (toBE 48 Config.bootId ++ toBE 48 Config.authDigest ++ toLE 2 (s.fd Reg.keyState 16 16))
  eachBelow 8 (fun k t => t.hw (Reg.keyMeas k) (beAt m (6 * k) 6)) s

/-- IDENTITY_CERTIFIED follows slot 7 (R427, R431). -/
def identCert (ok : Bool) (s : State) : State := s.hwb Reg.keyState 5 ok

/-- The length of an import blob fits its slot: a certificate has up to 2 048 bytes (R416). -/
def blobFits (s : State) (m : Master) : Bool :=
  let n := s.fdB m Reg.keyStgCtl 0 12
  decide (134 ≤ n) && (decide (s.stgByte m 5 ≠ 12) || decide (n ≤ 133 + 2048))

/-- The answer to a KEY command; `ok` is the verdict on an import blob: its authentication and, for slot 7, that the certificate's key is
that of IDENTITY (R415, R416, R431). -/
def keyAnswer (code arg : Nat) (m : Master) (ok : Bool) (s : State) : Nat :=
  let admin := decide (s.role m = 6)
  let live := s.bit Reg.keyState 0 && !s.zeroised
  let i := field arg 0 8
  match code with
  | 1 => if !admin then 0x12
         else if live && ok && s.stgMagic m && s.blobFits m && slotTakes (s.stgByte m 4) (s.stgByte m 5) then 0x01 else 0x15
  | 2 =>
    let alg := field arg 8 4
    if !admin then 0x12
    else if live && decide (i ≠ 7) && decide (1 ≤ alg ∧ alg ≤ 7) && slotTakes i alg then 0x01 else 0x15
  | 3 =>
    let h := field arg 0 32
    if !admin then 0x12
    else if h / 2 ^ 30 % 4 = 0 then
      (if field h 16 14 < 256 ∧ s.slotAlg (field h 16 14) ≠ 0 ∧ s.fd (Reg.keySlot (field h 16 14)) 16 16 = field h 0 16 then 0x01
       else 0x15)
    else if h / 2 ^ 30 % 4 = 1 then
      (if (s.dkey (field h 16 14)).any (fun d => decide (d.gen = field h 0 16 ∧ d.level ≠ 9)) then 0x01 else 0x15)
    else 0x15
  | 4 => if !admin then 0x12 else if slotReserved i then 0x15 else 0x01
  | 5 =>
    let h := field arg 0 32
    let k := field h 16 14
    if h / 2 ^ 30 % 4 = 0 then
      (if k < 256 ∧ 3 ≤ s.slotAlg k ∧ s.fd (Reg.keySlot k) 16 16 = field h 0 16 then 0x01 else 0x15)
    else if h / 2 ^ 30 % 4 = 3 ∧ (k = 1 ∨ k = 2) ∧ field h 0 16 = 0 ∧ live then 0x01
    else 0x15
  | 6 => if !admin && decide (s.role m ≠ 3) then 0x12 else if live then 0x01 else 0x15
  | 7 => if admin && decide (m = .mgmt) then 0x01 else 0x12
  | 8 => if !(admin && decide (m = .mgmt)) then 0x12
         else if s.zeroised && decide (s.fd Reg.keyState 6 2 < 3) then 0x01 else 0x15
  | _ => 0x16

/-- An entry of the tamper log with the real-time clock (R422, R430): eight, the oldest gives way. In dormancy no row tells how long it has
lasted, and the clock is free (log entry 6). -/
def tamperLog (src : Nat) (dormant : Bool) (s : State) : State :=
  let n := s.fd Reg.keyTamperStat 12 4
  let rtc := if dormant then s.draw 40 else (s.n .rtcNs + (s.counter + 1 - s.n .rtcAt)) / 10 ^ 9 % 2 ^ 40
  let e := src + 16 * dormant.toNat + rtc * 2 ^ 8
  let s0 := if dormant then s.drawn else s
  if n < 8 then (s0.hw (Reg.keyTamperLog n) e).hwf Reg.keyTamperStat 12 4 (n + 1)
  else (eachBelow 7 (fun k t => t.hw (Reg.keyTamperLog k) (t.rd (Reg.keyTamperLog (k + 1)))) s0).hw (Reg.keyTamperLog 7) e

/-- Sessions with high-level communication end (R425). -/
def zeroSessions (s : State) : State :=
  eachBelow 32 (fun t u =>
    if u.hlc t ∧ 2 ≤ u.mode t ∧ u.mode t ≤ 5 then u.trigger t (.endSession (if u.bit (Reg.vhsSess t) 2 then 9 else 8)) else u) s

/-- Zeroisation (R423 to R425): `cause` 1 tamper, 2 COMMAND. -/
def zeroise (cause src : Nat) (s : State) : State :=
  let a := Reg.keyState
  let s1 := ((((s.hwb a 1 true).hwb a 4 false).hwb a 5 false).hwf a 8 8 cause).inc a 32 16 1
  let s2 := eachBelow 256 (fun i t =>
    let k := Reg.keySlot i
    if t.slotAlg i = 0 then t
    else if 1 ≤ i ∧ i ≤ 6 then t.hwb k 15 true
    else ((t.hwf k 0 4 0).hwf k 4 8 0).hwf k 16 16 (t.fd k 16 16 + 1)) s1
  let s3 : State := { s2 with
    dkeys := s2.dkeys.map fun (d : DKey) => { d with gen := (d.gen + 1) % 2 ^ 16, cached := false, parent := 0, level := 9 }
    keyOps := []
    keyDone := s2.keyOps.map fun o => (o.req.id, 3, 0)
    vehs := s2.vehs.map fun (x : Nat × Veh) => (x.1, { x.2 with nmk := none, tcp := { x.2.tcp with keys := none } }) }
  let s4 := zeroSessions (engineShow (cacheShow (slotSum s3)))
  let s5 := submit (rec1 0xE 9 0x22 0 0 [(1, cause), (1, src)]) (((s4.evt 0xE00 17).hw Reg.keyEph 0).setV .rewrapSvn 0 0)
  fault 0x0E01 0 0 0 true s5

/-- The tamper source is watched (R422, R430). -/
def tamperWatched (s : State) (src : Nat) : Bool :=
  if src < 4 then decide (s.fd Reg.keyTamperCfg (2 * src) 2 = 1 ∨ s.fd Reg.keyTamperCfg (2 * src) 2 = 2)
  else if src = 4 then s.bit Reg.keyTamperCfg 16 else if src = 5 then s.bit Reg.keyTamperCfg 17 else decide (src = 6)

/-- TAMPER_EVENT (R422 to R424): running, it zeroises; in dormancy the seed goes and the next power-on is zeroised; with
VBAT_LOW nothing is detected in dormancy. -/
def tamperEvent (src : Nat) (s : State) : State :=
  if s.tamperWatched src = false then s
  else
    let off := decide (s.v .powerOff = 1)
    if off ∧ s.bit Reg.keyState 3 then s
    else
      let s1 := (tamperLog src off s).hwb Reg.keyState 2 true
      let s2 := if src < 4 then (s1.hwb Reg.keyTamperStat src true).hwb Reg.keyTamperStat (4 + src) true
        else if src = 4 then s1.hwb Reg.keyTamperStat 8 true
        else if src = 5 then s1.hwb Reg.keyTamperStat 9 true else s1
      if off then s2.setV .keyDormant 0 1
      else zeroise (if src = 6 then 2 else 1) src (s2.evt 0xE00 16)

/-- RECOMMISSION (R427). -/
def recommission (s : State) : State :=
  let a := Reg.keyState
  let s1 := ((((s.hwf a 6 2 (s.fd a 6 2 + 1)).hwb a 1 false).hwb a 2 false).hwb a 5 false).hwf a 8 8 0
  let s2 := eachBelow 6 (fun i t => t.hwb (Reg.keySlot (i + 1)) 15 false) (s1.hwf Reg.keyTamperStat 4 6 0)
  let s3 := measure (slotSum s2)
  let s4 := submit (rec1 0xE 9 0x23 0 0 [(1, s3.fd a 6 2)]) s3
  fault 0x0E01 0 0 0 false ((meterKeyNew s4).evt 0xE00 20)

/-- A new SVN comes into force (R407, R409): the steps of the rewrapping begin; without a seed it is only shown. -/
def rewrap (svn : Nat) (s : State) : State :=
  if svn ≤ s.fd Reg.keyState 16 16 then s
  else if s.zeroised then s.hwf Reg.keyState 16 16 svn
  else (s.hwb Reg.keyState 4 true).setV .rewrapSvn 0 (svn + 1)

/-- The new root is in force (R409): M, the derived-key cache, which is cleared, and a new meter key with its certificate. -/
def rewrapDone (svn : Nat) (s : State) : State :=
  let s1 := measure (((s.setV .rewrapSvn 0 0).hwb Reg.keyState 4 false).hwf Reg.keyState 16 16 svn)
  let s2 : State := { s1 with dkeys := s1.dkeys.map fun (d : DKey) => { d with cached := false } }
  (submit (rec1 0xE 9 0x24 0 0 [(2, svn)]) (meterKeyNew (cacheShow s2))).evt 0xE00 18

/-- The switch to the new root: at the command-cycle boundary after the steps began, while KEY runs (R409, log entry 56). -/
def rewrapDue (s : State) : State :=
  if s.v .rewrapSvn = 0 ∨ s.v .ownerFault 0xE = 1 then s else rewrapDone (s.n .rewrapSvn - 1) s

/-- The effect of an accepted KEY command (R431). -/
def keyEffect (code arg : Nat) (m : Master) (s : State) : State :=
  let i := field arg 0 8
  match code with
  | 1 =>
    let k := s.stgByte m 4
    let n := s.fdB m Reg.keyStgCtl 0 12
    let s1 := slotPut k (s.stgByte m 5) (s.stgByte m 6) 1 (s.setV .keyLen k (n - 133 : Nat))
    if k = 7 then identCert true s1 else s1
  | 2 => slotPut i (field arg 8 4) (field arg 12 8) 2 s
  | 3 =>
    let h := field arg 0 32
    if h / 2 ^ 30 % 4 = 0 then enginesRun (slotRec (field h 16 14) 3 (genNext (field h 16 14) s))
    else enginesRun (clearBelow h true s)
  | 4 =>
    let a := Reg.keySlot i
    let s1 := slotRec i 4 (fault 0x0E02 i 0 0 false (slotSum (((genNext i s).hwf a 0 4 0).hwf a 4 8 0)))
    enginesRun (if i = 7 then identCert false s1 else s1)
  | 5 =>
    let h := field arg 0 32
    let k := field h 16 14
    if h / 2 ^ 30 % 4 = 3 then
      (if k = 2 then stgPut m 4 s.meterCert s else stgPut m 2 (s.builtinPublic 1) s)
    else if s.slotAlg k = 12 then stgPut m 2 (s.publicKey k (s.certLen k)) s
    else stgPut m 2 (s.publicKey k (publicLen (s.slotAlg k))) s
  | 6 => (stgPut m 3 (toLE (s.draw 11) (Config.free (s.n .free + 1))) s).drawn 2
  | 7 => zeroise 2 6 ((tamperLog 6 false s).hwb Reg.keyState 2 true |>.evt 0xE00 16)
  | _ => recommission s

/-! Resets (R428). -/

/-- Ephemeral slots in use (R421, R430): network keys and TLS sessions. -/
def ephRefresh (s : State) : State :=
  let nmks := (s.vehs.filter fun x => x.2.nmk.isSome).length
  let tls := (s.vehs.filter fun x => x.2.tcp.keys.isSome).length
  s.hw Reg.keyEph (min 256 (nmks + 2 * tls))

/-- A stored slot whose two copies both fail is cleared and logged (R428). -/
def slotLost (i : Nat) (s : State) : State :=
  if 256 ≤ i ∨ s.slotAlg i = 0 then s
  else fault 0x0E02 i 0 0 true ((((genNext i s).hwf (Reg.keySlot i) 0 4 0).hwf (Reg.keySlot i) 4 8 0).hwb (Reg.keySlot i) 15 false)

/-- KEY at a power-on (R407, R409, R424, R428), `lost` the slots whose copies both fail. Rewrapping that an outage cut short runs again. -/
def keyPowerOn (lost : List Nat) (s : State) : State :=
  let a := Reg.keyState
  let s1 : State := each lost slotLost { s with dkeys := [], keyOps := [], keyDone := [] }
  let s3 := if s1.zeroised then s1 else measure s1
  let s4 := if s3.n .keyMat 256 = 0 then (s3.setV .keyMat 256 (s3.n .free + 1)).drawn else s3
  let s5 := (slotSum (engineShow (cacheShow s4))).hwb a 0 true
  let s6 := if s5.zeroised then s5 else identCert (decide (s5.slotAlg 7 = 12)) s5
  if s6.v .keyDormant = 1 then zeroise 1 (s6.fd (Reg.keyTamperLog (s6.fd Reg.keyTamperStat 12 4 - 1)) 0 4) (s6.setV .keyDormant 0 0)
  else if s6.v .rewrapSvn = 0 then s6 else rewrapDone (s6.n .rewrapSvn - 1) s6

/-- KEY block restart (R428): the cache is cleared, waiting requests fail with BUSY. -/
def keyRestart (s : State) : State :=
  engineShow (cacheShow { s with
    dkeys := s.dkeys.map fun (d : DKey) => { d with cached := false }
    keyDone := s.keyOps.map fun o => (o.req.id, 4, 0)
    keyOps := [] })

end State
end Sys2Proof.Machine
end

