-- ==== Sys2Proof/Machine/Winnow.lean ====
section
/-! DEFINITION. Modulator inputs and the winnower (04_sensor_inputs.md): samples, quality, faults, qualification, the map
checks and the sealed configuration. -/
namespace Sys2Proof.Machine.State

/-- Main-path group delay in ns of a FREQ (R102). -/
def groupNs (f : Nat) : Nat := 1248 * bitNs f

/-- MODE of an input (R126). -/
def inMode (s : State) (i : Nat) : Nat := s.fd (Reg.metInCfg i) 0 2

/-- MCLK output an input selects. -/
def inClk (s : State) (i : Nat) : Nat := s.fd (Reg.metInCfg i) 2 4

/-- FREQ of the MCLK output an input selects (R124). -/
def inFreq (s : State) (i : Nat) : Nat := s.fd (Reg.metMclk (s.inClk i)) 1 3

/-- The input has a fault condition: STUCK, LOCK_LOST or CLK_FAULT (R117). -/
def inFaulty (s : State) (i : Nat) : Bool := decide (s.fd (Reg.metInStat i) 2 3 ≠ 0)

/-- The input is latched out or taken out (R118). -/
def inRemoved (s : State) (i : Nat) : Bool := decide (s.fd (Reg.metInStat i) 6 2 ≠ 0)

/-- Quality OUT (R105): OFF, latched out, taken out, or no clock (R98). -/
def inOut (s : State) (i : Nat) : Bool :=
  decide (s.inMode i = 0) || s.inRemoved i || !s.bit (Reg.metMclk (s.inClk i)) 0

/-- Every input that selects MCLK output k. -/
def selectorsOfClk (s : State) (k : Nat) : List Nat := (List.range 256).filter fun i => decide (s.inClk i = k)

/-- Inputs not OFF that select MCLK output k. -/
def inputsOfClk (s : State) (k : Nat) : List Nat :=
  (List.range 256).filter fun i => decide (s.inMode i ≠ 0 ∧ s.inClk i = k)

/-- LOADS of every MCLK output (R124). -/
def loadsRefresh (s : State) : State := eachBelow 16 (fun k t => t.hwf (Reg.metMclk k) 8 5 (t.inputsOfClk k).length) s

/-- MET_WIN_STAT (R123). -/
def winStatRefresh (s : State) : State :=
  let clk := ((List.range 16).map fun k => if s.bit (Reg.metMclk k) 13 then 2 ^ k else 0).sum
  let faulted := ((List.range 256).filter fun i => decide (s.inMode i ≠ 0) && s.inFaulty i).length
  let out := ((List.range 256).filter fun i => s.inRemoved i).length
  s.hw Reg.metWinStat (clk + faulted * 2 ^ 16 + out * 2 ^ 25)

/-- Change bits [7:2] of MET_IN_STAT: a change of a fault bit raises the input's event (R125). -/
def inBits (i : Nat) (f : Nat → Nat) (s : State) : State :=
  let a := Reg.metInStat i
  let old := s.rd a
  let new := f old
  let s1 := s.wr a new
  let s2 := if s1.inOut i then s1.wrf a 0 2 3 else s1
  if Nat.land old 0xDC = Nat.land new 0xDC then s2 else s2.evt (0x401 + i / 32) (16 + i % 32)

/-- Set or clear one bit of MET_IN_STAT. -/
def inBit (i b : Nat) (on : Bool) (s : State) : State := inBits i (fun x => setField x b 1 on.toNat) s

/-- The stalls a fault of the input takes to their safe state (R119). -/
def inStalls (s : State) (i : Nat) : Nat := ((s.stallsOfInput i).map fun t => 2 ^ t).sum

/-- A fault of the catalogue with the scope of R119. -/
def inFault (code i : Nat) (entry : Bool) (s : State) : State :=
  let m := s.inStalls i
  fault code i (if m = 0 then 0 else 1) m entry s

/-- Every stall that uses the input goes to its own safe state (R119). -/
def inScope (i : Nat) (s : State) : State := each (s.stallsOfInput i) (fun t u => u.trigger t (.safe 0x26)) s

/-- The input leaves service: INPUT_FAULT exits, INPUT_OUT enters (R117). -/
def inLeaves (i : Nat) (s : State) : State :=
  inScope i (winStatRefresh (inFault 0x0403 i true (inFault 0x0402 i false s)))

/-- INPUT_LATCH_OUT (R117). -/
def inLatchOut (i : Nat) (s : State) : State :=
  inLeaves i ((inBit i 6 true ((inBit i 5 false s).setV .inReadmit i 0)).evt 0x400 18)

/-- An input enters a fault condition: bit 2 STUCK, 3 LOCK_LOST, 4 CLK_FAULT (R114 to R117). -/
def inEnterFault (i b : Nat) (s : State) : State :=
  if s.inMode i = 0 ∨ s.bit (Reg.metMclk (s.inClk i)) 0 = false ∨ s.bit (Reg.metInStat i) b then s
  else
    let recent := (s.inFaults.filter fun x => decide (s.counter < x.2 + 60000000000)) ++ [(i, s.counter)]
    let s1 := inBits i (fun x => setField (setField x b 1 1) 5 1 0) { s with inFaults := recent }
    let s2 := (s1.wrf (Reg.metInStat i) 16 16 (s1.fd (Reg.metInStat i) 16 16 + 1)).evt 0x400 17
    let many := decide (s2.fd (Reg.metInFltCfg i) 24 4 < (recent.filter fun x => decide (x.1 = i)).length)
    let s3 := inFault 0x0402 i true s2
    if !s3.bit (Reg.metInStat i) 6 && (many || decide (s3.v .inReadmit i = 1)) then inLatchOut i s3
    else inScope i (winStatRefresh s3)

/-- Qualification begins once no fault condition is left (R117); the bits before it are those of a fault period (R105). -/
def inQualify (i : Nat) (s : State) : State :=
  if s.inFaulty i || s.inRemoved i || decide (s.inMode i = 0) then s
  else
    let s1 := (inBit i 5 true s).setV .inQual i s.counter
    if s1.v .inFrom i = 0 then s1 else s1.setV .inFrom i (s1.counter + 1)

/-- A fault condition of an input clears. -/
def inClearFault (i b : Nat) (s : State) : State :=
  if s.bit (Reg.metInStat i) b then winStatRefresh (inQualify i (inBit i b false s)) else s

/-- The qualification has ended, or the input is out of use: INPUT_FAULT exits, and INPUT_OUT unless the input is still removed
(R117, R118). -/
def inQualified (i : Nat) (s : State) : State :=
  let s1 := inFault 0x0402 i false ((inBit i 5 false s).setV .inReadmit i 0)
  winStatRefresh (if s1.inRemoved i then s1 else inFault 0x0403 i false s1)

/-- QUALIFICATION_COMPLETE (R117). -/
def qualificationComplete (i : Nat) (s : State) : State :=
  if s.bit (Reg.metInStat i) 5 ∧ s.v .inQual i + (s.fd (Reg.metInFltCfg i) 16 8 * 10000000 : Nat) ≤ s.counter then
    inQualified i s
  else s

/-- INPUT_STUCK (R114): `run` identical consecutive bits, STUCK_RUN or more. -/
def inputStuck (i run : Nat) (s : State) : State := if s.fd (Reg.metInFltCfg i) 0 12 ≤ run then inEnterFault i 2 s else s

/-- STUCK_CLEARED (R114). -/
def stuckCleared (i : Nat) (s : State) : State := inClearFault i 2 s

/-- MANCHESTER_LOCK (R100, R115): 64 consecutive valid bits. -/
def manchesterLock (i dly : Nat) (s : State) : State :=
  if s.inMode i = 2 ∧ s.bit (Reg.metMclk (s.inClk i)) 0 then
    inClearFault i 3 ((s.wrf (Reg.metInStat i) 8 8 (saturate 8 dly)).setV .inFrom i (s.counter + 1))
  else s

/-- LOCK_LOST (R115): the input re-locks and restarts. -/
def lockLost (i : Nat) (s : State) : State :=
  if s.inMode i = 2 then inEnterFault i 3 (s.setV .inFrom i 0) else s

/-- MCLK_FAULT (R116): CLK_FAULT on every input that selects the output; of an input in OFF it is the flag alone (log entry 22). -/
def mclkFault (k : Nat) (s : State) : State :=
  if s.bit (Reg.metMclk k) 0 ∧ s.bit (Reg.metMclk k) 13 = false then
    let m := s.inputsOfClk k
    let stalls := (List.range 32).filter fun t => m.any fun i => decide (t ∈ s.stallsOfInput i)
    let mask := (stalls.map fun t => 2 ^ t).sum
    let s1 := fault 0x0401 k (if mask = 0 then 0 else 1) mask true ((s.hwb (Reg.metMclk k) 13 true).evt 0x400 16)
    winStatRefresh (each (s.selectorsOfClk k) (fun i t => if t.inMode i = 0 then inBit i 4 true t else inEnterFault i 4 t) s1)
  else s

/-- MCLK_FAULT_CLEAR (R116). -/
def mclkClear (k : Nat) (s : State) : State :=
  if s.bit (Reg.metMclk k) 13 then
    winStatRefresh (each (s.selectorsOfClk k) (fun i t => inClearFault i 4 t)
      (fault 0x0401 k 0 0 false (s.hwb (Reg.metMclk k) 13 false)))
  else s

/-- READMIT (R118): without effect on an input in service; a fault present latches the input out again at once. -/
def inputReadmit (i : Nat) (s : State) : State :=
  if s.inRemoved i then
    let s1 := (inBits i (fun x => setField x 6 2 0) s).evt 0x400 19
    if s1.inFaulty i then inLatchOut i s1
    else if s1.inMode i = 0 then inQualified i s1
    else winStatRefresh ((inQualify i s1).setV .inReadmit i 1)
  else s

/-- TAKE_OUT (R118). -/
def inputTakeOut (i : Nat) (s : State) : State :=
  if s.bit (Reg.metInStat i) 7 then s
  else inLeaves i (inBits i (fun x => setField (setField x 7 1 1) 5 1 0) (s.setV .inReadmit i 0))

/-- The answer to a MET_WIN command (R123). -/
def winAnswer (code : Nat) : Nat := if code = 1 ∨ code = 2 then 0x01 else 0x16

/-- The effect of a MET_WIN command. -/
def winEffect (code arg : Nat) (s : State) : State :=
  if code = 1 then inputReadmit (field arg 0 8) s else inputTakeOut (field arg 0 8) s

/-! Samples (R101, R103, R105, R108). -/

/-- A value clamped to 24 bits signed, and whether it was clamped. -/
def clamp24 (x : Int) : Int × Bool :=
  if 8388607 < x then (8388607, true) else if x < -8388608 then (-8388608, true) else (x, false)

/-- Calibration (R108). -/
def calibrate (s : State) (i : Nat) (x : Int) : Int × Bool :=
  clamp24 (((x - signed 24 (s.rd (Reg.metInOfs i))) * s.rd (Reg.metInGain i) + 2 ^ 29) / 2 ^ 30)

/-! The bits of an input (R97, R99, R100, R115). -/

/-- LAT_BITS of an input (R126). -/
def latBits (s : State) (i : Nat) : Nat := s.fd (Reg.metInCfg i) 10 3

/-- DELAY of an input, bit periods (R107). -/
def inDelay (s : State) (i : Nat) : Int := signed 12 (s.rd (Reg.metInDelay i))

/-- Steps of a bit period of 2.5 ns (R100). -/
def manSteps (f : Nat) : Nat := bitNs f * 2 / 5

/-- The bit that an input's line gives for MCLK edge `e` of the line, before INVERT, and whether it violates the code. In CLOCKED mode
the line is captured at CAP_PHASE after edge e + LAT_BITS (R99). In MANCHESTER mode the mid-bit transition lies MEAS_DLY after an edge;
it belongs to the latest edge that precedes it by half a bit period or more, less LAT_BITS (R100). -/
def captured (s : State) (i line e : Nat) : Bool × Bool :=
  let k := e + s.latBits i
  if s.inMode i = 2 then
    let p := manSteps (s.inFreq i)
    let d := s.fd (Reg.metInStat i) 8 8 % p
    let u := p * (if p ≤ 2 * d then k else k + 1) + d
    let low := line.testBit (u - p / 4)
    let high := line.testBit (u + p / 4)
    (xor high (s.bit (Reg.metInCfg i) 14), low == high)
  else (line.testBit (16 * k + s.fd (Reg.metInCfg i) 6 4), false)

/-- The bits of `k` MCLK edges from edge `e` of a line, newest first, each with its violation: a violated bit is the complement of the bit
before it (R115). -/
def recovered (s : State) (i line e : Nat) : Nat → List (Bool × Bool)
  | 0 => []
  | k + 1 =>
    let l := recovered s i line e k
    let x := s.captured i line (e + k)
    (if x.2 then !((l.head?.map (·.1)).getD (s.captured i line (e + k - 1)).1) else x.1, x.2) :: l

/-- A filter sum: +1 and -1 (R97), weighted from the newest bit on. -/
def filterSum (w : Nat → Int) : Nat → List (Bool × Bool) → Int
  | _, [] => 0
  | k, x :: l => (if x.1 then w k else -w k) + filterSum w (k + 1) l

/-- A filter sum with INVERT (R97). -/
def inverted (s : State) (i : Nat) (x : Int) : Int := if s.bit (Reg.metInCfg i) 13 then -x else x

/-- Coefficient k of (1 + z^-1 + ... )^4 without an upper end: (k + 1)(k + 2)(k + 3) / 6. -/
def cube (k : Int) : Int := if k < 0 then 0 else (k + 1) * (k + 2) * (k + 3) / 6

/-- Coefficient k of (1 + z^-1 + ... + z^-624)^4 (R101). -/
def sinc4 (k : Nat) : Int :=
  if 2497 ≤ k then 0 else cube k - 4 * cube (k - 625 : Int) + 6 * cube (k - 1250 : Int) - 4 * cube (k - 1875 : Int)

/-- Coefficient k of (1 + z^-1 + ... + z^-15)^2 (R103). -/
def sinc2 (k : Nat) : Int := if k < 16 then k + 1 else if k < 31 then 31 - k else 0

/-- The raw main-path sample of a filter sum (R101). -/
def rawMain (sum : Int) : Int × Bool := clamp24 ((sum * 15474250491 + 2 ^ 47) / 2 ^ 48)

/-- The raw fast-path sample of a filter sum (R103). -/
def rawFast (s2 : Int) : Int × Bool := if 256 ≤ s2 then (8388607, true) else (max s2 (-256) * 2 ^ 15, false)

/-- A window that began at counter `c` holds only valid bits (R105); none does while REFCLK is lost (R121). -/
def windowGood (s : State) (i : Nat) (c : Int) : Bool :=
  decide (s.v .refclkLost = 0) && decide (s.v .inFrom i ≠ 0) && decide (s.v .inFrom i - 1 ≤ c)

/-- Grid instant, in ns, at which the last bit of an input's window has been captured: the window of a sample at grid instant `g` ends
DELAY bit periods after it (R107), and its bits come LAT_BITS later (R99). -/
def windowEnd (s : State) (i g : Nat) : Nat :=
  ((g : Int) + (s.inDelay i + s.latBits i) * bitNs (s.inFreq i)).toNat

/-- Counter value at a grid instant of a FREQ. -/
def gridCounter (s : State) (f g : Nat) : Nat := s.baseCounter (s.gridBase f g)

/-- A window that ends at grid instant `g` has ended at counter `c`. -/
def windowEnded (s : State) (f g c : Nat) : Bool := decide ((g : Int) * 2 ^ 16 ≤ s.gridUnits f c)

/-- A main-path sample enters the sums of its 10 ms block `b` of the grid for the safety feed (R291). -/
def feedAdd (i b : Nat) (y : Int) (good : Bool) (s : State) : State :=
  let x := 2 * i + b % 2
  let s0 := if s.v .feedIn x = (b + 1 : Nat) then s
    else [Var.feedN, .feedSum, .feedAbs, .feedSq, .feedBad].foldl (fun t k => t.setV k x 0) (s.setV .feedIn x (b + 1))
  let s1 := (((s0.addV .feedN x 1).addV .feedSum x y).addV .feedAbs x y.natAbs).addV .feedSq x (y * y)
  if good then s1 else s1.setV .feedBad x 1

/-- Main-path sample n of one input at counter `c` (R101, R105 to R108, R115): not before its window has ended, and not twice. -/
def inSample (f n c : Nat) (x : InSample) (s : State) : State :=
  let i := x.input
  let e := s.windowEnd i (n * mainNs f)
  if 256 ≤ i ∨ s.inMode i = 0 ∨ s.inFreq i ≠ f ∨ (n : Int) + 1 ≤ s.v .inN i ∨ s.windowEnded f e c = false then s
  else
    let man := decide (s.inMode i = 2)
    let bits := s.recovered i x.line (3760 - 2496 + s.inDelay i).toNat 2497
    let viols := (bits.filter (·.2)).length
    let fresh := ((bits.take 625).filter (·.2)).length
    let r := rawMain (s.inverted i (filterSum sinc4 0 bits))
    let y := s.calibrate i r.1
    let start : Int := (s.gridCounter f e : Int) - (2496 * bitNs f : Nat)
    let bad := s.inFaulty i || s.bit (Reg.metInStat i) 5 || !s.windowGood i start
      || (man && decide (s.fd (Reg.metInFltCfg i) 12 4 < viols))
    let q := if s.inOut i then 3 else if bad then 2 else if r.2 || y.2 then 1 else 0
    let s1 := if man then s.wrf (Reg.metInStat i) 32 16 (s.fd (Reg.metInStat i) 32 16 + fresh) else s
    feedAdd i ((n * mainNs f - 1) / 10000000) y.1 (decide (q = 0))
      (((s1.wrf (Reg.metInStat i) 0 2 q).setV .inN i (n + 1)).setV .inY i y.1)

/-- A fast-path sample as the winnower gives it. -/
structure Fast where
  /-- calibrated value -/
  y : Int
  quality : Nat
  /-- the raw or calibrated value was clamped -/
  clamped : Bool
deriving DecidableEq, Repr

/-- The fast path of an input runs (R97, R98, R103). -/
def fastRuns (s : State) (i : Nat) : Bool :=
  s.bit (Reg.metInCfg i) 15 && decide (s.inMode i ≠ 0) && s.bit (Reg.metMclk (s.inClk i)) 0

/-- Fast-path sample m of an input (R103, R105, R107, R108, R115). Of its line, bit N x j + r is the level r steps after the MCLK edge
16 x m - 1294 + j. -/
def fastOf (s : State) (i m line : Nat) : Fast :=
  let f := s.inFreq i
  let bits := s.recovered i line (1294 - 30 + s.inDelay i).toNat 31
  let r := rawFast (s.inverted i (filterSum sinc2 0 bits))
  let y := s.calibrate i r.1
  let start : Int := (s.gridCounter f (s.windowEnd i (16 * m * bitNs f)) : Int) - (30 * bitNs f : Nat)
  let inv := bits.any (·.2) || s.inFaulty i || s.bit (Reg.metInStat i) 5 || !s.windowGood i start
  ⟨y.1, if s.inOut i || !s.fastRuns i then 3 else if inv then 2 else if r.2 || y.2 then 1 else 0, r.2 || y.2⟩

/-- Counter that a fast-path sample is stamped with (R106, R107): its grid instant less 15 bit periods, whatever DELAY is. -/
def fastStamp (s : State) (i m : Nat) : Nat := s.gridCounter (s.inFreq i) ((16 * m - 15) * bitNs (s.inFreq i))

/-- A fast-path sample enters FAST_PEAK and FAST_SAT (R125). -/
def fastPeak (i : Nat) (x : Fast) (s : State) : State :=
  let s1 := s.setV .inPeak i (max (s.v .inPeak i) (min x.y.natAbs 8388607 : Nat))
  if x.clamped then s1.setV .inFsat i 1 else s1

/-! The map and the sealed configuration (R98, R110, R112, R131, R136, R149, R150). -/

/-- Slots a TYPE requires, and those it allows besides (R130). -/
def slotNeeded (ty c : Nat) : Bool := decide (c % 4 ∈ powerPairs ty)

/-- The map and the inputs of a metering point satisfy R112, R131 and R136. -/
def mpOk (s : State) (mp : Nat) : Bool :=
  let ty := s.mpType mp
  let used := (List.range 8).filter fun c => decide (s.mpSlot mp c ≠ 0x1FF)
  let ins := used.map fun c => s.mpSlot mp c
  decide (ty = 0)
  || ((List.range 8).all (fun c => if slotNeeded ty c then decide (s.mpSlot mp c ≠ 0x1FF)
        else decide (s.mpSlot mp c = 0x1FF) || (decide (ty = 4) && decide (c % 4 = 3)))
    && used.all (fun c => let i := s.mpSlot mp c
        decide (i < 256) && decide (s.inMode i ≠ 0) && decide (s.fd (Reg.metInKfs i) 32 1 = c / 4))
    && ins.all (fun i => decide (ins.count i = 1) && decide (s.inFreq i = s.inFreq (ins.headD 0)))
    && !(decide (s.mpSettle mp = 0) && acType ty))

/-- Source or sink set of a balance group. -/
def balSet (s : State) (g : Nat) (src : Bool) : Nat :=
  if src then s.fd (Reg.balSrcLo g) 0 32 + s.fd (Reg.balSrcHi g) 0 32 * 2 ^ 32
  else s.fd (Reg.balSnkLo g) 0 32 + s.fd (Reg.balSnkHi g) 0 32 * 2 ^ 32

/-- A balance group in a state R158 allows. -/
def balOk (s : State) (g : Nat) : Bool :=
  !s.bit (Reg.balCfg g) 0
  || (decide (Nat.land (s.balSet g true) (s.balSet g false) = 0) && decide (s.balSet g true ≠ 0)
    && decide (s.balSet g false ≠ 0)
    && (List.range 64).all fun mp =>
        !(maskBit (s.balSet g true) mp || maskBit (s.balSet g false) mp) || decide (s.mpType mp ≠ 0))

/-- The sealed bits of a MET slot (R110, R148). -/
def sealedMask (a : Nat) : Nat :=
  match pageEntry (a / 0x1000) with
  | some (.met0, _) => if a % 0x1000 < 0xC0 then 0xF else 0
  | some (.metin, _) => if a % 0x40 = 0x28 then 0 else 2 ^ 48 - 1
  | some (.metmap, _) => 2 ^ 48 - 1
  | some (.metmp, _) => if a % 0x1000 = 0x40 then 0x37 else 0
  | _ => 0

/-- The stalls whose metering a sealed write of this slot would change (R150). -/
def sealedStalls (s : State) (a : Nat) : List Nat :=
  match pageEntry (a / 0x1000) with
  | some (.met0, _) => (s.inputsOfClk ((a % 0x1000 - 0x40) / 8)).flatMap fun i => s.stallsOfInput i
  | some (.metin, p) => s.stallsOfInput (32 * p + (a % 0x1000 - 0x40) / 0x40)
  | some (.metmap, p) => s.stallsOfMp (32 * p + (a % 0x1000 - 0x40) / 0x10)
  | some (.metmp, m) => s.stallsOfMp m
  | _ => []

/-- A value out of range in a MET slot (R107, R108, R109, R129). -/
def metMalformed (a v : Nat) : Bool :=
  match pageEntry (a / 0x1000) with
  | some (.metin, _) =>
    if a % 0x40 = 0x10 then decide (v < 0x20000000 ∨ 0x7FFFFFFF < v)
    else if a % 0x40 = 0x18 then decide (1250 < (signed 12 v).natAbs)
    else if a % 0x40 = 0x20 then decide (field v 0 32 = 0)
    else false
  | some (.metmap, _) =>
    (List.range 4).any fun c => decide (0x100 ≤ field v (12 * c) 9 ∧ field v (12 * c) 9 ≠ 0x1FF)
  | _ => false

/-- A configuration of the inputs, maps, types and groups that nothing of R98, R112, R131, R136 and R158 refuses. -/
def metAllOk (s : State) : Bool :=
  (List.range 64).all (fun m => s.mpOk m) && (List.range 8).all (fun g => s.balOk g)
    && (List.range 16).all fun k => decide ((s.inputsOfClk k).length ≤ 16)

/-- The verdict on a write of value `v` to a slot of MET pages 0 to 10 or 16 to 79; the role comes first (R44, R149). -/
def metCfgAnswer (m : Master) (a v : Nat) (s : State) : Nat :=
  if Nat.land (s.rd a) (sealedMask a) = Nat.land v (sealedMask a) then 0x01
  else if s.role m ≠ 4 then 0x12
  else if metMalformed a v then 0x16
  else if s.bit Reg.metSealStat 0 = false then 0x15
  else if (s.sealedStalls a).any (fun x => !s.stallFree x) then 0x15
  else if (s.wr a v).metAllOk then 0x01
  else 0x15

/-- An input restarts (R105): its first valid bit is the next one, or that of the next Manchester lock. -/
def inRestart (i : Nat) (s : State) : State :=
  if s.inMode i = 0 then
    inQualified i (inBits i (fun x => setField (setField x 2 4 0) 8 8 0) s)
  else
    let s1 := s.setV .inFrom i (if s.inMode i = 2 then 0 else s.counter + 1)
    let s2 := if s.inMode i = 2 then s1 else inClearFault i 3 (s1.wrf (Reg.metInStat i) 8 8 0)
    let s3 := if s2.inOut i then s2.wrf (Reg.metInStat i) 0 2 3 else s2
    if s3.bit (Reg.metMclk (s3.inClk i)) 0 = false then inClearFault i 2 (inClearFault i 4 s3)
    else if s3.bit (Reg.metMclk (s3.inClk i)) 13 then inEnterFault i 4 s3
    else inClearFault i 4 s3

/-! Grid time (R93, R137). -/

/-- Grid time at a counter value, ns. -/
def gridAtNs (s : State) (c : Nat) : Nat := (s.gridUnits 0 c / 2 ^ 16).toNat

/-- Grid time now, ns. -/
def gridNs (s : State) : Nat := s.gridAtNs s.counter

/-- Corrected time of a grid instant, units of 2^-16 ns. -/
def gridTime (s : State) (g : Nat) : Int := s.gridTimeOf 0 g

/-- A committed map takes effect at the first window end after the boundary (R113); what the old map's samples left for the analyses
goes. -/
def mapAnew (m : Nat) (s : State) : State :=
  let s1 := s.setV .mapAt m (s.gridNs + 1)
  { s1 with mps := s1.mps.map fun x => if x.1 = m then (x.1, { x.2 with n := 0, wave := [] }) else x }

/-- The samples of an input are numbered anew, by another FREQ: no main-path sample of it is on hand, and the metering points that use
it begin at the next window end that is common to their inputs (R113). -/
def inAnew (i : Nat) (s : State) : State :=
  let s1 := (s.setV .inN i 0).setV .pkM i 0
  { s1 with mps := s1.mps.map fun x => if (List.range 8).any (fun c => decide (s1.mpSlot x.1 c = i)) then (x.1, { x.2 with n := 0, wave := [] }) else x }

/-- What follows a committed write to a slot of MET pages 0 to 10 and 16 to 79 (R110, R113, R150). -/
def winCfgSet (a old : Nat) (s : State) : State :=
  match pageEntry (a / 0x1000) with
  | some (.met0, _) =>
    let k := (a % 0x1000 - 0x40) / 8
    if field old 0 4 = s.fd a 0 4 then s
    else
      let s1 := if s.bit a 0 then s else fault 0x0401 k 0 0 false (s.hwb a 13 false)
      let s2 := if field old 1 3 = s.fd a 1 3 then s1 else each (s1.selectorsOfClk k) inAnew s1
      loadsRefresh (winStatRefresh (each (s2.inputsOfClk k) inRestart s2))
  | some (.metin, p) =>
    let i := 32 * p + (a % 0x1000 - 0x40) / 0x40
    let restarts := if a % 0x40 = 0 then decide (field old 0 15 ≠ s.fd a 0 15)
      else decide (a % 0x40 = 0x18) && decide (old ≠ s.rd a)
    let t0 := if a % 0x40 = 0 ∧ field old 0 2 = 0 then s.wrf (Reg.metInStat i) 4 1 0 else s
    let t := if a % 0x40 = 0 ∧ s.fd (Reg.metMclk (field old 2 4)) 1 3 ≠ s.inFreq i then inAnew i t0 else t0
    if restarts then loadsRefresh (inRestart i t) else t
  | some (.metmap, p) => if old = s.rd a then s else mapAnew (32 * p + (a % 0x1000 - 0x40) / 0x10) s
  | some (.metmp, m) => if field old 0 6 = s.fd a 0 6 then s else s.setV .mpFrom m (s.gridNs + 1)
  | _ => s

/-- Every input restarts (R120, R121). -/
def winRestart (s : State) : State :=
  winStatRefresh (loadsRefresh (eachBelow 256 (fun i t => if t.inMode i = 0 then t else inRestart i t) s))

end Sys2Proof.Machine.State
end

