-- ==== Sys2Proof/Machine/Analysis.lean ====
section
/-! DEFINITION. The 200 ms windows of a metering point of an AC type (05_energy_registers.md R140 to R142): fundamental frequency,
phasors, harmonics, THD, RMS and power factor, from its main-path samples. What the rules leave to the arithmetic is log entry 13. -/
namespace Sys2Proof.Machine

/-! Fixed point: angles in units of 2^-64 turn, sines in units of 2^-60. -/

/-- One bit of the integer square root: `r` is the root so far. -/
def isqrtBits (n : Nat) : Nat → Nat → Nat
  | 0, r => r
  | k + 1, r => let c := r + 2 ^ k; isqrtBits n k (if c * c ≤ n then c else r)

/-- Integer square root of a number below 2^128. -/
def isqrt (n : Nat) : Nat := isqrtBits n 64 0

/-- Terms of the series of the sine from term `k` on, which is `t`; `z2` is the square of the angle in radians. -/
def sinSeries (z2 : Int) : Nat → Nat → Int → Int
  | 0, _, _ => 0
  | n + 1, k, t => t + sinSeries z2 n (k + 2) (-(t * z2) / (2 ^ 60 * ((k + 1) * (k + 2)) : Nat))

/-- Sine of an angle. -/
def sine (x : Nat) : Int :=
  let r := x % 2 ^ 64
  let h := r % 2 ^ 63
  let q := if 2 ^ 62 < h then 2 ^ 63 - h else h
  let z : Int := (q * 3622009729038561421 / 2 ^ 63 : Nat)
  let v := sinSeries (z * z / 2 ^ 60) 12 1 z
  if 2 ^ 63 ≤ r then -v else v

/-- Cosine of an angle. -/
def cosine (x : Nat) : Int := sine (x + 2 ^ 62)

/-- Bits of the angle of the vector (a, b) within a quarter turn, in units of 2^-40 turn, rounded down; `r` is the angle so far. -/
def angleBits (a b : Int) : Nat → Nat → Nat
  | 0, r => r
  | k + 1, r => let c := r + 2 ^ k; angleBits a b k (if sine (c * 2 ^ 24) * a ≤ cosine (c * 2 ^ 24) * b then c else r)

/-- Angle of the vector (x, y), units of 2^-40 turn. -/
def angleOf (x y : Int) : Nat :=
  if x = 0 ∧ y = 0 then 0
  else if 0 < x ∧ 0 ≤ y then angleBits x y 38 0
  else if x ≤ 0 ∧ 0 < y then 2 ^ 38 + angleBits y (-x) 38 0
  else if x < 0 then 2 ^ 39 + angleBits (-x) (-y) 38 0
  else 2 ^ 38 * 3 + angleBits (-y) x 38 0

/-! Samples of a window. -/

/-- Value of a channel slot in a sample. -/
def Wave.val (c : Nat) (w : Wave) : Int := (w.y.getD c (0, 3)).1

/-- Quality of a channel slot in a sample. -/
def Wave.qual (c : Nat) (w : Wave) : Nat := (w.y.getD c (0, 3)).2

/-- Instants, in units of 2^-16 ns, at which CH0 crosses zero upwards, interpolated between samples; oldest first. -/
def crossings : List Wave → List Nat
  | a :: b :: t =>
    let x := a.val 0
    let y := b.val 0
    if x ≤ 0 ∧ 0 < y then (a.g * 2 ^ 16 + (b.g - a.g) * 2 ^ 16 * x.natAbs / (y - x).natAbs) :: crossings (b :: t)
    else crossings (b :: t)
  | _ => []

/-- Frequency that the crossings of a window give, µHz; 0 for fewer than two. -/
def crossingF1 (l : List Nat) : Nat :=
  let d := l.getLastD 0 - l.headD 0
  if d = 0 then 0 else (l.length - 1) * 10 ^ 15 * 2 ^ 16 / d

/-- The analysis span that ends at `e` (R140): its start, in units of 2^-16 ns. -/
def spanStart (f1 e : Nat) : Nat := e - (if f1 < 55000000 then 10 else 12) * 10 ^ 15 * 2 ^ 16 / f1

/-- Weight of a sample stamped `g` in the span from `a` to `e`: how much of its interval lies inside, units of 2^-16 ns. -/
def sampleWeight (ts a e g : Nat) : Nat := min ((g + ts) * 2 ^ 16) e - max (g * 2 ^ 16) a

/-- Cosine and sine sums of a channel at h x f1 over the span; a gap contributes nothing (R134). -/
def phasor (ws : List Wave) (ts f1 a e c h : Nat) : Int × Int :=
  ws.foldl (fun x w =>
    let k := sampleWeight ts a e w.g
    if k = 0 ∨ w.gap ∨ 3 ≤ w.qual c then x
    else
      let th := h * f1 * (w.g - a / 2 ^ 16) * 2 ^ 64 / 10 ^ 15
      let v : Int := w.val c * (k : Nat)
      (x.1 + v * cosine th, x.2 + v * sine th)) (0, 0)

/-- Square of the magnitude at h x f1 in calibrated LSB, corrected by |H| of R102, units of 2^-32. -/
def magSquare (p : Int × Int) (f f1 a e h : Nat) : Nat :=
  let x := h * f1 * State.bitNs f * 2 ^ 64 / (2 * 10 ^ 15)
  let num := (sine (625 * x)).natAbs
  let den := 625 * (sine x).natAbs
  2 * (p.1 * p.1 + p.2 * p.2).natAbs * den ^ 8 * 2 ^ 32 / ((e - a) * (e - a) * num ^ 8 * 2 ^ 120)

/-- What a window yields. -/
structure Window where
  f1 : Nat
  valid : Bool
  /-- reactive power times 2^46, µvar -/
  q : Int
  /-- power factor; none without apparent power -/
  pf : Option Int
  rms : List Nat
  /-- none without a valid f1 or a fundamental -/
  thd : List (Option Nat)
  /-- magnitude and phase per channel slot, harmonic 1 first; none where R157 has no value -/
  harm : List (List (Option (Nat × Nat)))
deriving DecidableEq, Repr

/-- H_MAX (R142): the smaller of 63 and floor(0.12 fs / f1). -/
def hMax (f f1 : Nat) : Nat := min 63 (12 * 10 ^ 15 / (100 * State.mainNs f) / max f1 1)

/-- RMS of a channel over the samples of a window (R142), calibrated LSB; samples of quality OUT hold no value. -/
def windowRms (ws : List Wave) (c : Nat) : Nat :=
  let l := ws.filter fun w => decide (w.qual c < 3)
  if l = [] then 0 else isqrt ((l.map fun w => (w.val c * w.val c).natAbs).sum / l.length)

/-- The evaluation of a window of a FREQ that ends at grid instant `e` ns, from the samples on hand, newest first; `pairs` holds
channel pair and K, `mapped` the mapped slots, `energy` the window's net energy, µJ. -/
def windowOf (wave : List Wave) (f e : Nat) (pairs : List (Nat × Nat)) (mapped : List Nat) (energy : Int) : Window :=
  let ts := State.mainNs f
  let ws := (wave.filter fun w => decide (e - 200000000 ≤ w.g) && decide (w.g < e)).reverse
  let f1 := crossingF1 (crossings ws)
  let whole := decide (200000000 < (ws.length + 1) * ts) && ws.all fun w => decide (w.qual 0 ≤ 1)
  let valid := whole && decide (45000000 ≤ f1) && decide (f1 ≤ 65000000)
  let stop := e * 2 ^ 16
  let a := spanStart f1 stop
  let span := wave.filter fun w => decide (a < (w.g + ts) * 2 ^ 16) && decide (w.g < e)
  let ph (c h : Nat) : Int × Int := phasor span ts f1 a stop c h
  let q : Int := if valid then
      (pairs.map fun x =>
        let v := ph x.1 1
        let i := ph (x.1 + 4) 1
        2 * (x.2 : Nat) * (v.1 * i.2 - v.2 * i.1)).sum / ((stop - a) * (stop - a) * 2 ^ 120 : Nat)
    else 0
  let rms := (List.range 8).map fun c => if c ∈ mapped then windowRms ws c else 0
  let s := (pairs.map fun x => rms.getD x.1 0 * rms.getD (x.1 + 4) 0 * x.2).sum
  let top := hMax f f1
  let sq (c : Nat) : List Nat := if valid ∧ c ∈ mapped then
      (List.range top).map fun h => magSquare (ph c (h + 1)) f f1 a stop (h + 1) else []
  let sqs := (List.range 8).map sq
  let p1 := angleOf (ph 0 1).1 (-(ph 0 1).2)
  { f1 := f1, valid := valid, q := q, rms := rms
    pf := if s = 0 then none else some (max (-32768) (min 32767 (energy * 5 * 2 ^ 61 / (s : Nat))))
    thd := sqs.map fun l => match l with
      | [] => none
      | x :: t => if x = 0 then none else some (isqrt (t.sum * 2 ^ 32 / x))
    harm := (List.range 8).map fun c => (List.range 63).map fun h => ((sqs.getD c [])[h]?).map fun x =>
      let p := ph c (h + 1)
      (isqrt (x / 2 ^ 32), (angleOf p.1 (-p.2) + (h + 1) * (2 ^ 40 - p1)) % 2 ^ 40 / 2 ^ 16) }

end Sys2Proof.Machine
end

