-- ==== Sys2Proof/Machine/Met.lean ====
section
/-! DEFINITION. Metering points and energy accumulation (05_energy_registers.md): exact sample energy, settlement, tariff
registers, windows, publication, saves, the core and the seal. Grid times are in ns. -/
namespace Sys2Proof.Machine.State

/-- Replace a metering point. -/
def setMp (m : Nat) (x : Mp) (s : State) : State := { s with mps := Tab.put natLt (fun _ => Mp.zero) s.mps m x }

/-- Settlement period in ns; 0 for each sample (R136). -/
def settleNs : Nat → Nat
  | 1 => 100000000
  | 2 => 1000000000
  | _ => 0

/-- The least multiple of `k` at or above `t`; `t` itself for `k` 0. -/
def nextMultiple (k t : Nat) : Nat := if k = 0 then t else (t + k - 1) / k * k

/-- KFS of an input (R109). -/
def kfs (s : State) (i : Nat) : Nat := s.fd (Reg.metInKfs i) 0 32

/-- Products K of the power-carrying pairs of a metering point of a TYPE, with their inputs (R132). -/
def pairsOf (s : State) (m ty : Nat) : List (Nat × Nat × Nat) :=
  (powerPairs ty).map fun k =>
    let v := s.mpSlot m k
    let i := s.mpSlot m (k + 4)
    (v, i, s.kfs v * s.kfs i)

/-- Full-scale power of a metering point, µW (R134). -/
def fullScale (s : State) (m : Nat) : Nat := ((s.pairsOf m (s.mp m).ty).map fun x => x.2.2).sum

/-- The denominator Q of R132. -/
def energyQ : Nat := 2 ^ 62 * 10 ^ 9

end State

/-- Add to an accumulator, 96 bits. -/
def Mp.add (a v : Nat) (p : Mp) : Mp := { p with acc := p.acc.set a ((p.acc.getD a 0 + v) % 2 ^ 96) }

/-- A settled amount goes to one direction and to the tariff register in force (R137, R139). -/
def Mp.settle (n : Int) (p : Mp) : Mp :=
  if 0 < n then (p.add 0 n.toNat).add (2 + p.tar % 8) n.toNat
  else if n < 0 then (p.add 1 n.natAbs).add (10 + p.tar % 8) n.natAbs
  else p

/-- Add a sample to a pair of windows: the one in progress and the one before. -/
def Win.push (w : Win × Win) (per : Nat) (e : Int) (u gap : Nat) : Win × Win :=
  if w.1.per = per then ({ w.1 with e := w.1.e + e, u := w.1.u + u, n := w.1.n + 1, gaps := w.1.gaps + gap }, w.2)
  else (⟨per, e, u, 1, gap⟩, w.1)

/-- Add a sample to a list of windows, newest first, of which the last twelve are kept. -/
def Win.pushList (l : List Win) (per : Nat) (e : Int) (u gap : Nat) : List Win :=
  match l with
  | w :: t => if w.per = per then ⟨per, w.e + e, w.u + u, w.n + 1, w.gaps + gap⟩ :: t
              else (⟨per, e, u, 1, gap⟩ :: w :: t).take 12
  | [] => [⟨per, e, u, 1, gap⟩]

/-- The sums over the windows numbered `a` to `b - 1` of a list. -/
def Win.over (l : List Win) (a b : Nat) : Win :=
  l.foldl (fun x w => if a ≤ w.per ∧ w.per < b then ⟨a, x.e + w.e, x.u + w.u, x.n + w.n, x.gaps + w.gaps⟩ else x) ⟨a, 0, 0, 0, 0⟩

/-- The window of a number, if it is one of the two last. -/
def Win.at (w : Win × Win) (per : Nat) : Win :=
  if w.1.per = per then w.1 else if w.2.per = per then w.2 else ⟨per, 0, 0, 0, 0⟩

/-- What a save or a capture keeps of a metering point (R146, R373). -/
def Mp.kept (p : Mp) : Mp :=
  { Mp.zero with
    ty := p.ty, se := p.se, acc := p.acc, res := p.res, qres := p.qres, net := p.net, netPer := p.netPer, tar := p.tar
    tarNext := p.tarNext, gapN := p.gapN, satN := p.satN, qInv := p.qInv }

/-- The readings of a span end: ACT_IMP, ACT_EXP, ACT_IMP_T0 to T7, UNMEASURED (R395, R565). -/
def Mp.reading (p : Mp) : List Nat := p.acc.take 10 ++ [p.acc.getD 22 0]

/-- What a publication period gathers starts anew (R145). -/
def Mp.newPeriod (p : Mp) : Mp :=
  { p with pe := 0, pd := 0, cSum := List.replicate 8 0, cCnt := List.replicate 8 0, pGap := false, pSat := false }

namespace State

/-! Readings of session spans (R395, R565). -/

/-- The READING entry: 0 start, 1 end of a span. -/
def readingRec (m kind : Nat) (acc : List Nat) (cnt : Nat) : Submission :=
  ⟨0xD, 5, 1, m, 0, 6, packLE ([(1, m), (1, kind), (6, cnt), (12, acc.getD 0 0), (12, acc.getD 1 0)]
    ++ ((acc.drop 2).take 8).map (fun a => (12, a)) ++ [(12, acc.getD 10 0)])⟩

/-- Record flags in force at an instant (R398): TIME_INVALID, CLOCK_HELD, SEAL_OPEN. -/
def flagsNow (s : State) : Nat :=
  (if s.timeValid then 0 else 1) + 2 * (s.bit Reg.bilStat 2).toNat + 8 * (s.bit Reg.metSealStat 0).toNat

/-- A record flag is set on every session span, reading span and demand interval that runs (R398). -/
def flagSpans (b : Nat) (s : State) : State :=
  { s with
    sessions := s.sessions.map fun (x : Sess) =>
      if x.begun ∧ (x.endCause = 0 ∨ x.ended = false) then
        { x with flags := setField x.flags b 1 1, flagsEnd := if x.ended then x.flagsEnd else setField x.flags b 1 1 }
      else x
    dems := s.dems.map fun (x : Nat × Dem) => (x.1, { x.2 with flags := setField x.2.flags b 1 1 })
    rdgs := s.rdgs.map fun (x : Nat × Rdg) => (x.1, { x.2 with flags := setField x.2.flags b 1 1 }) }

/-- The start reading of a session's span. -/
def beginSpan (acc : List Nat) (t : Int) (x : Sess) (s : State) : State :=
  let s1 := { s with sessions := s.sessions.map fun (y : Sess) =>
    if y.seq = x.seq ∧ y.stall = x.stall then
      { y with begun := true, startT := t, startAcc := acc, flags := Nat.lor y.flags s.flagsNow }
    else y }
  submit (readingRec x.mp 0 acc (s.rd Reg.metSealCnt)) s1

/-- The end reading of a session's span; its READING entry is made when the session closes. -/
def endSpan (acc : List Nat) (t : Int) (x : Sess) (s : State) : State :=
  { s with sessions := s.sessions.map fun (y : Sess) =>
    if y.seq = x.seq ∧ y.stall = x.stall then
      { y with
        ended := true, endT := t, endAcc := acc, sealCnt := s.rd Reg.metSealCnt
        flagsEnd := y.flags, calEnd := (s.calAct.map (·.id)).getD 0 }
    else y }

/-- The metering point of a session delivers no samples: its TYPE is OFF or nothing came for 100 ms (R395). -/
def noSamples (s : State) (m : Nat) : Bool :=
  decide (64 ≤ m) || decide ((s.mp m).ty = 0) ||
    decide ((((s.mp m).w10.head?).map (·.per)).getD 0 + 10 < s.gridNs / 10000000)

/-- Without samples a span starts and ends at the instants themselves (R395): the readings that are due now for a stall. -/
def instantReadings (stall : Nat) (s : State) : State :=
  let due (u : State) (x : Sess) : Bool := decide (x.stall = stall) && decide (x.closedAt ≠ 0) && !x.ended && u.noSamples x.mp
  let s1 := each (s.sessions.filter fun x => due s x && !x.begun) (fun x t => beginSpan (t.mp x.mp).reading t.now x t) s
  each (s1.sessions.filter fun x => due s1 x && x.begun && decide (x.openAt ≠ 0))
    (fun x t => endSpan (t.mp x.mp).reading t.now x t) s1

/-- The sessions of a metering point take the readings due at settlement boundaries up to grid time `g`. -/
def spanReadings (m g : Nat) (s : State) : State :=
  let k := settleNs (s.mp m).se
  let at_ (c : Nat) : Nat := if k = 0 then max (s.gridAtNs (c - 1)) g else nextMultiple k (s.gridAtNs (c - 1))
  let ok (c : Nat) : Bool := decide (c ≠ 0) && (if k = 0 then decide (s.gridAtNs (c - 1) ≤ g) else decide (at_ c ≤ g))
  let s1 := each (s.sessions.filter fun x => decide (x.mp = m) && !x.begun && ok x.closedAt)
    (fun x t => beginSpan (t.mp m).reading (t.gridTime (at_ x.closedAt)) x t) s
  each (s1.sessions.filter fun x => decide (x.mp = m) && x.begun && !x.ended && ok x.openAt)
    (fun x t => endSpan (t.mp m).reading (t.gridTime (at_ x.openAt)) x t) s1

/-! Samples (R132 to R139). -/

/-- The metering point as it stands enters the publication set in progress before the first sample stamped at or after its
instant (R145). -/
def pubCapture (m g : Nat) (s : State) : State :=
  if s.v .pubT ≠ 0 ∧ s.v .pubT - 1 ≤ (g : Nat) ∧ (s.mpCap.any fun x => decide (x.1 = m)) = false then
    setMp m (s.mp m).newPeriod { s with mpCap := s.mpCap ++ [(m, s.mp m)] }
  else s

/-- A settlement boundary at grid time `g` (R136 to R138, R150): the period in progress is settled, a committed TYPE and
SETTLE take effect, due tariff indexes apply, and sessions take their readings. Another TYPE leaves no analysis of the one before. -/
def settleAt (m g : Nat) (s : State) : State :=
  let p := (s.mp m).settle (s.mp m).net
  let ty := s.mpType m
  let se := s.mpSettle m
  let k := settleNs se
  let due := p.tarNext.filter fun x => decide (nextMultiple k x.1 ≤ g)
  let tar := ((due.getLast?).map (·.2)).getD p.tar
  let p0 : Mp := if ty = p.ty then p else
    { p with q1 := 0, f1 := 0, pf := 0, rms := List.replicate 8 0, wave := [], win := g / 200000000 }
  let p1 : Mp := { p0 with
    net := 0, netPer := if k = 0 then 0 else g / k, ty := ty, se := se, tar := tar
    tarNext := p.tarNext.filter fun x => decide (g < nextMultiple k x.1) }
  let s1 := spanReadings m g (setMp m p s)
  let s2 := setMp m p1 s1
  if tar = p.tar then s2 else s2.evt (0x410 + m) 18

/-! The 200 ms windows (R140 to R142, R157). -/

/-- The harmonics page of a window that ends at grid instant `e` (R157). -/
def harmSet (m e : Nat) (w : Window) : HarmSet where
  mp := m
  due := e + 1000000
  slots := w.harm.flatMap fun l => l.map fun x =>
    match x with
    | some (a, b) => a % 2 ^ 24 + b % 2 ^ 24 * 2 ^ 24
    | none => 0xFFFFFF

/-- A window of a metering point ends (R140 to R142): reactive energy, RMS, THD and power factor, and the harmonics page to come. What
the rules give no value for, Q1 and THD without a valid f1 and ratios to zero, is free (log entry 6). -/
def windowEval (m : Nat) (s : State) : State :=
  let p := s.mp m
  let f := s.inFreq (s.mpSlot m 0 % 256)
  let e := (p.win + 1) * 200000000
  let energy := (Win.at p.w200 p.win).e
  let pairs := (powerPairs p.ty).zip ((s.pairsOf m p.ty).map fun x => x.2.2)
  let w := windowOf p.wave f e pairs ((List.range 8).filter fun c => decide (s.mpSlot m c < 256)) energy
  let any (k n : Nat) : Nat := Config.free (s.n .free + k) % 2 ^ n
  let b := w.q * (200000000 * 2 ^ 16 : Nat) + p.qres
  let d := b / energyQ
  let quad := if 0 ≤ w.q then (if 0 ≤ energy then 18 else 19) else (if 0 ≤ energy then 21 else 20)
  let p1 : Mp := if w.valid then
      { p.add quad d.natAbs with qres := (b - d * energyQ).toNat, q1 := w.q / (2 ^ 46 * 1000), f1 := w.f1 }
    else { p with qInv := p.qInv + 1, f1 := 0, q1 := signed 48 (any 0 48) }
  let p2 : Mp := { p1 with
    win := p.win + 1, pf := w.pf.getD (signed 16 (any 1 16))
    rms := (List.range 8).map fun c =>
      if s.mpSlot m c < 256 then
        w.rms.getD c 0 % 2 ^ 24 + saturate 24 (((w.thd.getD c none)).getD (any (2 + c) 24)) * 2 ^ 24
      else 0 }
  let s1 := ((setMp m p2 { s with harmDue := s.harmDue ++ [harmSet m e w] }).drawn 10).setV .winDone m 1
  if !w.valid && decide (p.f1 ≠ 0) then s1.evt (0x410 + m) 19 else s1

/-- The window in progress is evaluated once it has ended at grid instant `g`; windows no sample came in have no f1 (R141). -/
def windowDue (m g : Nat) (s : State) : State :=
  if acType (s.mp m).ty && decide (((s.mp m).win + 1) * 200000000 ≤ g) then
    let s1 := windowEval m s
    let p := s1.mp m
    let k := g / 200000000
    setMp m { p with qInv := p.qInv + (k - p.win), win := max p.win k } s1
  else s

/-- ANALYSIS_WINDOW_END (R140): acts once every sample stamped in the window has been accumulated. -/
def analysisEnd (m : Nat) (s : State) : State :=
  let p := s.mp m
  let f := s.inFreq (s.mpSlot m 0 % 256)
  let e := (p.win + 1) * 200000000
  if e ≤ p.n * mainNs f - groupNs f ∨ e + 6 * mainNs f ≤ s.gridNs then windowDue m e s else s

/-- Harmonics pages show their set 1 ms after the window's end (R145). -/
def harmShow (s : State) : State :=
  let due := s.harmDue.filter fun x => decide (x.due ≤ s.gridNs)
  if due = [] then s
  else each due (fun x t => each ((List.range 504).zip x.slots) (fun y u => u.hw (Reg.metHarm x.mp y.1) y.2) t)
    { s with harmDue := s.harmDue.filter fun x => decide (s.gridNs < x.due) }

/-! Samples. -/

/-- Sample n of a metering point (R132 to R137): `g` is its stamp, `d` the interval D[n]. After a power-on nothing counts before the first
sample that is not a gap (R147). -/
def mpEnergy (m n g d : Nat) (s : State) : State :=
  let p := s.mp m
  let f := s.inFreq (s.mpSlot m 0 % 256)
  let ps := s.pairsOf m p.ty
  let quals := ps.flatMap fun x => [s.quality x.1, s.quality x.2.1]
  let gap := quals.any (fun q => decide (2 ≤ q)) || decide (s.v .ownerFault 4 = 1)
  let early := gap && decide (s.v .accWait m = 1)
  let sat := quals.any (fun q => decide (q = 1)) && !gap
  let bound := (ps.map fun x => x.2.2).sum * d / (2 ^ 16 * 10 ^ 9)
  let a : Int := (ps.map fun x => s.v .inY x.1 * s.v .inY x.2.1 * (x.2.2 : Nat)).sum
  let b := if gap then (p.res : Int) else a * (d : Nat) + p.res
  let e := b / energyQ
  let u := if (gap && !early) || sat then bound else 0
  let p1 : Mp := { p with res := (b - e * energyQ).toNat, n := n + 1, wasGap := gap, worst := quals.foldl max 0 }
  let p2 : Mp := if p1.se = 0 then p1.settle e else { p1 with net := p1.net + e }
  let p3 := p2.add 22 u
  let slot (c : Nat) : Int × Nat :=
    let i := s.mpSlot m c
    if i < 256 then (s.v .inY i, s.quality i) else (0, 3)
  let w : Wave := ⟨g, s.gridCounter f g, gap, (List.range 8).map slot⟩
  let p4 : Mp := { p3 with
    gapN := p3.gapN + (gap && !early).toNat, satN := p3.satN + sat.toNat
    pGap := p3.pGap || gap, pSat := p3.pSat || sat
    pe := if gap then p3.pe else p3.pe + a * (d : Nat), pd := if gap then p3.pd else p3.pd + d
    w10 := Win.pushList p3.w10 (g / 10000000) e u gap.toNat
    w100 := Win.push p3.w100 (g / 100000000) e u gap.toNat
    w200 := Win.push p3.w200 (g / 200000000) e u gap.toNat
    wave := if acType p.ty then w :: p3.wave.filter fun x => decide (g < x.g + 250000000) else [] }
  let good (c : Nat) : Bool := decide ((slot c).2 ≤ 1)
  let p5 : Mp := { p4 with
    cSum := (List.range 8).map fun c => p4.cSum.getD c 0 + (if good c then (slot c).1 else 0)
    cCnt := (List.range 8).map fun c => p4.cCnt.getD c 0 + (good c).toNat }
  let first := !gap && decide (s.v .accWait m = 1)
  let s0 := if first then s.setV .accWait m 0 else s
  let demand := first && s.bit (Reg.bilMpCfg m) 4 && (s.calAct.any fun c => decide (c.demandMin ≠ 0))
  let s1 := setMp m p5 (if demand then (s0.setV .demFrom m (g + 1)).setV .demAcc m (p.acc.getD 0 0 : Nat) else s0)
  let s2 := if gap && !p.wasGap then s1.evt (0x410 + m) 16 else s1
  if sat then s2.evt (0x410 + m) 17 else s2

/-- Every power-carrying input of the metering point has delivered sample n, which is new to it and in the map's time (R113). -/
def mpReady (s : State) (m f n : Nat) : Bool :=
  let p := s.mp m
  let ty := if p.ty = 0 then s.mpType m else p.ty
  let ins := (s.pairsOf m ty).flatMap fun x => [x.1, x.2.1]
  decide (ins ≠ []) && decide (p.n ≤ n) && s.bit Reg.metCoreStat 0 && decide (s.v .mapAt m ≤ (n * mainNs f : Nat))
    && ins.all fun i => decide (i < 256) && decide (s.inFreq i = f) && decide (s.v .inN i = (n + 1 : Nat))

/-- Settlement periods and 200 ms windows that end at or before the publication instant in progress belong to its set (R145). -/
def settleForPub (m g : Nat) (s : State) : State :=
  let p := s.mp m
  let k := settleNs p.se
  let t := (s.v .pubT - 1).toNat
  if s.v .pubT ≠ 0 ∧ t ≤ g then windowDue m t (if k ≠ 0 ∧ p.ty ≠ 0 ∧ p.netPer < t / k then settleAt m t s else s) else s

/-- The first reading span of a metering point begins with its first accumulation (R396). -/
def readingBegin (m : Nat) (t : Int) (s : State) : State :=
  if s.rdgs.any fun x => decide (x.1 = m) then s
  else { s with rdgs := s.rdgs ++ [(m, ⟨t, (s.mp m).reading, 0, s.flagsNow⟩)] }

/-- A settlement period that ends by grid instant `t` is settled (R137). -/
def settleBy (m t : Nat) (s : State) : State :=
  let p := s.mp m
  let k := settleNs p.se
  if k ≠ 0 ∧ p.ty ≠ 0 ∧ p.netPer < t / k then settleAt m t s else s

/-- ACT_IMP of a metering point now is that of its interval starts and ends up to grid instant `t`, which had none yet (R392). -/
def demTake (m t : Nat) (s : State) : State :=
  let a := (s.mp m).acc.getD 0 0
  let begins (d : Dem) : Dem := if d.acc = none ∧ d.grid ≤ t then { d with acc := some a } else d
  { s with
    dems := s.dems.map fun x => if x.1 = m then (x.1, begins x.2) else x
    demEnds := s.demEnds.map fun x =>
      if x.mp = m then { x with dem := begins x.dem, acc := if x.acc = none ∧ x.grid ≤ t then some a else x.acc } else x }

/-- Grid instants at which demand intervals of a metering point begin or end and ACT_IMP is still to be taken. -/
def demInstants (s : State) (m : Nat) : List Nat :=
  let begins (d : Dem) : List Nat := if d.acc = none then [d.grid] else []
  (s.demEnds.flatMap fun x => if x.mp = m then begins x.dem ++ (if x.acc = none then [x.grid] else []) else [])
    ++ s.dems.flatMap fun x => if x.1 = m then begins x.2 else []

/-- Before the first sample of a metering point stamped at or after such an instant, ACT_IMP is taken, with the settlement periods that
end by it (R392). -/
def demCapture (m g : Nat) (s : State) : State :=
  each ((s.demInstants m).filter fun t => decide (t ≤ g)) (fun t u => demTake m t (settleBy m t u)) s

/-- A metering point as it stands enters the capture of the instant to come before its first sample stamped at or after that instant
(R373); a settlement period that ends by the instant is settled in it. -/
def capTake (m g : Nat) (s : State) : State :=
  let t := (s.v .capAt - 1).toNat
  if s.v .capAt = 0 ∨ g < t ∨ s.capSet.any fun x => decide (x.1 = m) then s
  else
    let s1 := settleBy m t s
    { s1 with capSet := s1.capSet ++ [(m, s1.mp m)] }

/-- Sample n of a metering point, with the settlement boundary and the window's end that may lie before it. A TYPE committed from OFF
takes effect at the next boundary of its settlement period (R150). -/
def mpSample (m f n : Nat) (s : State) : State :=
  let g := n * mainNs f - groupNs f
  let s1 := windowDue m g (pubCapture m g (settleForPub m g (capTake m g (demCapture m g s))))
  let p := s1.mp m
  let k := settleNs p.se
  let turn := if p.ty = 0 then decide (nextMultiple (settleNs (s1.mpSettle m)) (s1.v .mpFrom m - 1).toNat ≤ g)
    else decide (k = 0) || decide (p.netPer < g / k)
  let s2 := if turn then settleAt m g s1 else s1
  if (s2.mp m).ty = 0 then s2 else mpEnergy m n g (s.n .gridD f) (readingBegin m (s2.gridTime g) s2)

/-- The interval D[n] of a FREQ, as the grid places the ends of windows n - 1 and n (R133). -/
def gridInterval (f n : Nat) (s : State) : State :=
  if s.v .gridN f = (n + 1 : Nat) then s
  else
    let b := s.gridBase f (n * mainNs f)
    let a := if s.v .gridN f = (n : Nat) ∧ n ≠ 0 then s.v .gridB f else s.gridBase f ((n - 1) * mainNs f)
    ((s.setV .gridN f (n + 1)).setV .gridB f b).setV .gridD f (b - a)

/-- MAIN_SAMPLE (R101, R105, R106, R132): main-path window n of the inputs of one clock frequency has ended, `dt` ns after the last
boundary. -/
def mainSamples (f n dt : Nat) (xs : List InSample) (s : State) : State :=
  let c := s.counter + dt
  if s.windowEnded f (n * mainNs f) c = false then s
  else
    let s1 := each xs (fun x t => inSample f n c x t) (gridInterval f n s)
    eachBelow 64 (fun m t => if t.mpReady m f n then mpSample m f n t else t) s1

/-- SETTLEMENT_END (R137): acts once every sample stamped in the period has been accumulated. -/
def settlementEnd (m : Nat) (s : State) : State :=
  let p := s.mp m
  let k := settleNs p.se
  let f := s.inFreq (s.mpSlot m 0 % 256)
  let e := (p.netPer + 1) * k
  if k ≠ 0 ∧ p.ty ≠ 0 ∧ (e ≤ p.n * mainNs f - groupNs f ∨ e + 6 * mainNs f ≤ s.gridNs) then settleAt m e s else s

/-- BIL sets the tariff index of a metering point from a grid instant on (R138). -/
def setTariff (m idx g : Nat) (s : State) : State :=
  let p := s.mp m
  if p.ty = 0 then
    let s1 := setMp m { p with tar := idx, tarNext := [] } s
    if idx = p.tar then s1 else s1.evt (0x410 + m) 18
  else setMp m { p with tarNext := p.tarNext ++ [(g, idx)] } s

/-! Publication (R143, R145). -/

/-- Publication period in ns of a RATE. -/
def rateNs : Nat → Nat
  | 0 => 1000000000
  | 1 => 125000000
  | 2 => 31250000
  | _ => 7812500

/-- Window unit in µJ of a SCALE (R143). -/
def scaleUj (k : Nat) : Nat := 3600000 * 10 ^ k

/-- Counters and accumulators of a metering point's page (R143, R154). -/
def pubAcc (m : Nat) (p : Mp) (s : State) : State :=
  let s4 := ((s.hw (Reg.metMpGap m) (p.gapN % 2 ^ 32)).hw (Reg.metMpSat m) (p.satN % 2 ^ 32)).hw (Reg.metMpQinv m) (p.qInv % 2 ^ 32)
  let unit := scaleUj (s.fd (Reg.metMpCfg m) 8 3)
  let wrap (a : Nat) : Nat := p.acc.getD a 0 / unit / 2 ^ 48 % 2 ^ 32
  let s5 := eachBelow 23 (fun a u =>
    let x := p.acc.getD a 0
    (((u.hw (Reg.metMpAccHi m a) (x / 2 ^ 48)).hw (Reg.metMpAccLo m a) (x % 2 ^ 48)).hw (Reg.metMpAccWin m a)
      (x / unit % 2 ^ 48)).hw (Reg.metMpAccWrap m a) (wrap a)) s4
  if (List.range 23).any (fun a => decide (s.rd (Reg.metMpAccWrap m a) ≠ wrap a)) then s5.evt (0x410 + m) 20 else s5

/-- A metering point's page shows the set `p` of the instant T (R143, R154). -/
def pubMp (m t : Nat) (p : Mp) (s : State) : State :=
  let time := s.gridTime t
  let stat := (if p.ty = 0 then 0 else p.worst) + 4 * p.pGap.toNat + 8 * p.pSat.toNat + 16 * (decide (p.f1 ≠ 0)).toNat + p.tar * 256
  let mw := if p.pd = 0 then 0 else p.pe / (p.pd * 2 ^ 46 * 1000 : Nat)
  let s1 := ((s.hw (Reg.metMpStat m) stat).hw (Reg.metMpPubSec m) (secsOf time)).hw (Reg.metMpPubNs m)
    (nsOf time * 2 ^ 16 + fracOf time)
  let s2 := ((s1.hw (Reg.metMpP m) (unsigned 48 mw)).hw (Reg.metMpQ1 m) (unsigned 48 p.q1)).hw (Reg.metMpF1 m) p.f1
  let s3 := eachBelow 8 (fun c u => u.hw (Reg.metMpRms m c)
    (if acType p.ty then p.rms.getD c 0
     else if p.ty ≠ 0 ∧ u.mpSlot m c < 256 ∧ p.cCnt.getD c 0 ≠ 0 then unsigned 24 (p.cSum.getD c 0 / (p.cCnt.getD c 0 : Nat))
     else 0)) (s2.hw (Reg.metMpPf m) (unsigned 16 p.pf))
  pubAcc m p s3

/-- The set of a metering point at the publication instant in progress. -/
def pubSet (s : State) (m : Nat) : Mp := ((s.mpCap.find? fun x => decide (x.1 = m)).map (·.2)).getD (s.mp m)

/-- MET_IN_SAMPLE at a publication (R125). -/
def pubInput (i : Nat) (s : State) : State :=
  let v := unsigned 24 (s.v .inY i) + min (s.n .inPeak i) 8388607 * 2 ^ 24 + s.n .inFsat i % 2 * 2 ^ 47
  ((s.hw (Reg.metInSample i) v).setV .inPeak i 0).setV .inFsat i 0

/-- The stall's contactors are withdrawn and, since, confirmed open; a stall not closed since power-on is open as its feedback reads
(R374). -/
def openConfirmed (s : State) (t : Nat) : Bool :=
  !s.bit (Reg.safStStat t) 4 && (decide (s.v .confirmed t = 1) || (decide (s.v .openAt t = 0) && s.fbAllOpen t))

/-- Billing time (R384), units of 2^-16 ns. While the clock is valid it is the wall clock that the last update saw. -/
def btNow (s : State) : Int :=
  if s.v .btMode = 1 then convert (s.v .btOfs) (s.v .btRate) s.counter - s.v .btUtc * (10 ^ 9 * 2 ^ 16)
  else if s.v .btMode = 2 then s.v .bt
  else
    let d : Int := s.counter - s.v .btAt
    s.v .bt + d * 2 ^ 16 + d * s.baseRate / 2 ^ 32

/-- Slots of the saved counters of the power-quality detectors (R193, R196). -/
def pqCntSlots : List Nat := (List.range 64).flatMap fun m => [Reg.pqMpCntSag m, Reg.pqMpCntSwell m, Reg.pqMpCntInt m]

/-- Bytes that the CRC-32C of a copy is taken over (log entry 13). -/
def copyBytes (c : MetCopy) : List Byte :=
  toLE 6 c.num ++ toLE 8 c.counter ++ toLE 12 (unsigned 96 c.time) ++ toLE 12 (unsigned 96 c.bt) ++ toLE 4 c.confirmed
    ++ c.withdrawn.flatMap (toLE 8) ++ c.confAt.flatMap (toLE 8)
    ++ (c.mps.flatMap fun x =>
      [BitVec.ofNat 8 x.1, BitVec.ofNat 8 x.2.ty, BitVec.ofNat 8 x.2.se, BitVec.ofNat 8 x.2.tar] ++ x.2.acc.flatMap (toLE 12)
        ++ toLE 12 x.2.res ++ toLE 12 x.2.qres ++ toLE 12 (unsigned 96 x.2.net) ++ toLE 8 x.2.netPer
        ++ toLE 4 x.2.gapN ++ toLE 4 x.2.satN ++ toLE 4 x.2.qInv)
    ++ c.pq.flatMap fun x => toLE 4 x.1 ++ toLE 6 x.2.toNat

/-- The state a save or capture of the instant at counter `c` holds (R146, R193, R373). -/
def metCopy (num : Nat) (capture : Bool) (mps : List (Nat × Mp)) (c : Nat) (t : Int) (s : State) : MetCopy :=
  let x : MetCopy :=
    { num := num
      capture := capture
      boot := s.rd Reg.sysIdRestarts
      counter := c
      time := t
      mps := mps.map fun x => (x.1, x.2.kept)
      bt := s.btNow
      confirmed := ((List.range 32).map fun t => if s.openConfirmed t then 2 ^ t else 0).sum
      withdrawn := (List.range 32).map fun t => s.n .openAt t
      confAt := (List.range 32).map fun t => if s.openConfirmed t then s.n .confAt t else 0
      pq := (pqCntSlots.map fun a => (a, BitVec.ofNat 48 (s.rd a))).filter fun x => decide (x.2 ≠ 0)
      crc := 0 }
  { x with crc := crc32c (copyBytes x) }

/-- The power-quality counters of a copy are back (R193). -/
def pqRestore (c : MetCopy) (s : State) : State :=
  each c.pq (fun x t => t.hw x.1 x.2.toNat) (each pqCntSlots (fun a t => t.hw a 0) s)

/-- A save of the set of publication instant `t` begins (R146). -/
def saveBegin (t : Nat) (set : List (Nat × Mp)) (s : State) : State :=
  let c := s.gridCounter 0 t
  { (s.setV .saveAt 0 (c + 1)).setV .saveWant 0 0 with
    saveSet := none, saving := some (s.metCopy 0 false set c (s.gridTime t)) }

/-- PERIODIC_SAVE (R146): the save that the last publication instant has brought begins, with its set. -/
def periodicSave (s : State) : State :=
  match s.saveSet with
  | some (t, set) => if s.saving.isNone then saveBegin t set s else s
  | none => s

/-- A publication instant brings a save (R146): one that SAVE_NOW or a failure asked for begins, a periodic one is due once SAVE_S seconds
have passed since the last began. -/
def saveDue (t : Nat) (set : List (Nat × Mp)) (s : State) : State :=
  let due := decide (s.v .saveAt = 0)
    || decide (s.v .saveAt - 1 + (s.fd Reg.metSaveCfg 0 10 * 1000000000 : Nat) ≤ (s.gridCounter 0 t : Nat))
  if s.saving.isSome then { s with saveSet := none }
  else if s.v .saveWant = 1 then saveBegin t set s
  else { s with saveSet := if due then some (t, set) else none }

/-- RATE is latched at the publication instant that is a whole second of the grid (R145). -/
def rateLatch (s : State) : State :=
  let t := (s.v .pubT - 1).toNat
  if s.v .pubT ≠ 0 ∧ t % 1000000000 = 0 ∧ t ≤ s.gridNs ∧ s.v .metRate = 0 then s.setV .metRate 0 (s.fd Reg.metPubCfg 0 2 + 1) else s

/-- MET_PUBLICATION (R145): the set of the instant T is shown at the first boundary at or after T + 1 ms. -/
def metPublication (s : State) : State :=
  let t := (s.v .pubT - 1).toNat
  if s.v .pubT = 0 ∨ s.gridNs < t + 1000000 then s
  else
    let set := (List.range 64).filterMap fun m => if s.pubSet m = Mp.zero then none else some (m, s.pubSet m)
    let s1 := saveDue t set s
    let s2 := eachBelow 64 (fun m u => pubMp m t (s.pubSet m) u) s1
    let s3 := eachBelow 256 pubInput s2
    let s4 := eachBelow 64 (fun m u =>
      if s.mpCap.any (fun x => decide (x.1 = m)) || decide (u.mp m = Mp.zero) then u else setMp m (u.mp m).newPeriod u) s3
    let s5 : State := { rateLatch s4 with mpCap := [] }
    let ns := if s5.v .metRate ≠ 0 then rateNs (s5.v .metRate - 1).toNat else s5.n .pubNs
    (((s5.setV .pubNs 0 ns).setV .metRate 0 0).setV .pubT 0 (t + ns + 1 : Nat)).setV .metPub 0 1

/-- Metering begins: the first publication instant is the next one of the grid (R145); accumulation resumes with the first sample of each
metering point that is not a gap, in the settlement period under way (R147). -/
def pubStart (s : State) : State :=
  let ns := rateNs (s.fd Reg.metPubCfg 0 2)
  let g := s.gridNs
  let resumed (p : Mp) : Mp :=
    { p with netPer := if settleNs p.se = 0 then 0 else min p.netPer (g / settleNs p.se), win := g / 200000000 }
  let s1 : State := { s with mpCap := [], mps := s.mps.map fun (x : Nat × Mp) => (x.1, resumed x.2) }
  eachBelow 64 (fun m t => t.setV .accWait m 1) (((s1.setV .pubNs 0 ns).setV .pubT 0 ((g / ns + 1) * ns + 1 : Nat)).setV .balFrom 0 (g + 1))

/-- The two newest of each kind of copy. -/
def keepCopies (l : List MetCopy) : List MetCopy :=
  (l.filter fun x => !x.capture).take 2 ++ (l.filter fun x => x.capture).take 2

/-- SAVE_COMPLETE (R146). -/
def saveComplete (ok : Bool) (s : State) : State :=
  match s.saving with
  | none => s
  | some c =>
    if ok then
      let k := s.n .saveNum + 1
      let s1 := { s with saving := none, copies := keepCopies ({ c with num := k } :: s.copies) }.setV .saveNum 0 k
      fault 0x0405 0 0 0 false ((s1.hw Reg.metSaveNum k).hw Reg.metSaveTSec (secsOf c.time))
    else fault 0x0405 0 0 0 true ((({ s with saving := none }.setV .saveWant 0 1)).evt 0x40B 18)

/-! The metrology core (R147). -/

/-- MET_CORE_LOCKSTEP (R147): the common safe state; the core restarts. -/
def coreLockstep (s : State) : State :=
  if s.bit Reg.metCoreStat 0 then fault 0x0404 0 2 0 true (commonOnce 9 0 (s.hwb Reg.metCoreStat 0 false)) else s

/-- Time from a copy's instant to now, ns (R147): by the counter, or by corrected time from before a power-on. -/
def sinceCopy (s : State) (c : MetCopy) : Nat :=
  if c.boot = s.rd Reg.sysIdRestarts then s.counter - c.counter else ((s.now - c.time) / 2 ^ 16).toNat

/-- CORE_RESTORED (R147): the newer save is restored and the full-scale bound since its publication instant is added to UNMEASURED. -/
def coreRestored (s : State) : State :=
  if s.bit Reg.metCoreStat 0 then s
  else
    let c := s.copies.find? fun x => !x.capture
    let span := (c.map s.sinceCopy).getD s.counter
    let s0 : State := { s with mps := (c.map (·.mps)).getD [], mpCap := [], saving := none, saveSet := none, harmDue := [] }
    let s1 := match c with
      | some x => pqRestore x s0
      | none => s0
    let s2 := eachBelow 64 (fun m u =>
      if u.mpType m = 0 then u
      else
        let p := u.mp m
        let k := settleNs p.se
        setMp m { p.add 22 (((u.pairsOf m (u.mpType m)).map fun x => x.2.2).sum * span / 10 ^ 9) with
          netPer := if k = 0 then 0 else min p.netPer (u.gridNs / k), win := u.gridNs / 200000000 } u) s1
    let a := Reg.metCoreStat
    let old := s2.fd a 1 1
    let s3 := (((s2.hwb a 0 true).hwb a 1 true).inc a 16 16 1).evt 0x40B 19
    let s4 := submit (stateRec 4 1 0 old 1 1 [(6, (c.map (·.num)).getD 0)]) s3
    fault 0x0404 0 2 0 false s4

/-! The seal (R149 to R151). -/

/-- The bytes CAL_DIGEST is taken over (R151). -/
def sealedBytes (s : State) : List Byte :=
  let one (a : Nat) : List Byte := toLE 6 (Nat.land (s.rd a) (sealedMask a))
  let mask (a m : Nat) : List Byte := toLE 6 (Nat.land (s.rd a) m)
  ((List.range 16).flatMap fun k => one (Reg.metMclk k))
    ++ ((List.range 256).flatMap fun i =>
      mask (Reg.metInCfg i) 0xFFFF ++ mask (Reg.metInOfs i) 0xFFFFFF ++ mask (Reg.metInGain i) 0xFFFFFFFF
        ++ mask (Reg.metInDelay i) 0xFFF ++ mask (Reg.metInKfs i) 0x1FFFFFFFF)
    ++ ((List.range 64).flatMap fun m => mask (Reg.metMpMapV m) 0x1FF1FF1FF1FF ++ mask (Reg.metMpMapI m) 0x1FF1FF1FF1FF)
    ++ ((List.range 64).flatMap fun m => one (Reg.metMpCfg m))

/-- SEAL_OPEN (R149): without effect while the seal is open. -/
def sealOpen (m : Master) (s : State) : State :=
  if s.bit Reg.metSealStat 0 then s
  else
    let n := (s.rd Reg.metSealCnt + 1) % 2 ^ 48
    let s1 := (s.hw Reg.metSealStat (1 + 2 * m.ix)).hw Reg.metSealCnt n
    flagSpans 3 (submit (rec1 4 9 0x10 0 0 [(6, n), (1, m.ix)]) (s1.evt 0x40B 16))

/-- The seal closes: 1 by SEAL_CLOSE, 2 at the end of the METROLOGY role session (R151). -/
def sealClose (how : Nat) (s : State) : State :=
  if s.bit Reg.metSealStat 0 then
    let dig := Sha.sha384 s.sealedBytes
    let s1 := eachBelow 8 (fun k t => t.hw (Reg.metCalDigest k) (beAt dig (6 * k) 6)) (s.hw Reg.metSealStat 0)
    let s2 := submit (rec1 4 9 0x11 0 0 [(6, s1.rd Reg.metSealCnt), (1, how)]) (s1.evt 0x40B 17)
    submit ⟨4, 5, 2, 0, 0, 3, packLE [(48, ofLE dig), (6, s2.rd Reg.metSealCnt)]⟩ s2
  else s

/-- The role session of METROLOGY on a master ends (R151). -/
def sealRoleEnds (m : Master) (s : State) : State :=
  if s.fd Reg.metSealStat 1 3 = m.ix then sealClose 2 s else s

/-- The answer to a MET_CTL command (R149, R153). -/
def metCtlAnswer (code : Nat) (m : Master) (s : State) : Nat :=
  match code with
  | 1 | 2 => if s.role m = 4 then 0x01 else 0x12
  | 3 => 0x01
  | _ => 0x16

/-- The effect of a MET_CTL command. -/
def metCtlEffect (code : Nat) (m : Master) (s : State) : State :=
  match code with
  | 1 => sealOpen m s
  | 2 => sealClose 1 s
  | _ => s.setV .saveWant 0 1

end Sys2Proof.Machine.State
end

