-- ==== Sys2Proof/Machine/Alloc.lean ====
section
/-! DEFINITION. The hub import limit and the allocator (06_hub_balance_and_limits.md R166 to R175, R179). Powers are in W. -/
namespace Sys2Proof.Machine

/-- What the allocator uses of a stall (R167). -/
def AlcIn.stall (x : AlcIn) (t : Nat) : AlcStall := x.stalls.getD t ⟨0, 1, 0, 0, 0, false, true⟩

/-- want[s] of R167. -/
def AlcIn.want (x : AlcIn) (t : Nat) : Nat := min (x.stall t).demand (x.stall t).cap

/-- LIMIT_W at the instant. -/
def AlcIn.limitW (x : AlcIn) : Nat := field x.limit 0 24

/-- The largest L of R167 for the stalls of a class, built from its most significant bit. -/
def alcL (i : AlcIn) (ts : List Nat) (a : Nat) : Nat :=
  let total (l : Nat) := (ts.map fun t => min (i.want t) (l * (i.stall t).weight)).sum
  (List.range 24).foldl (fun l k => if total (l + 2 ^ (23 - k)) ≤ a then l + 2 ^ (23 - k) else l) 0

/-- x[s] of R167 for the stalls of a class. -/
def alcShare (i : AlcIn) (ts : List Nat) (a : Nat) : List (Nat × Nat) :=
  let l := alcL i ts a
  ts.map fun t => (t, if (ts.map i.want).sum ≤ a then i.want t else min (i.want t) (l * (i.stall t).weight))

/-- The stall that R167 drops: lowest WEIGHT, highest number among equals. -/
def alcDrop (i : AlcIn) (ts : List Nat) : Nat :=
  ts.foldl (fun d t => if (i.stall t).weight ≤ (i.stall d).weight then t else d) (ts.headD 0)

/-- The repeat of R167 for one class: the shares and the stalls dropped. -/
def alcClassLoop (i : AlcIn) (a : Nat) : Nat → List Nat → List (Nat × Nat) × List Nat
  | 0, _ => ([], [])
  | n + 1, ts =>
    let x := alcShare i ts a
    if x.all (fun e => decide ((i.stall e.1).min_ ≤ e.2)) then (x, [])
    else
      let d := alcDrop i ts
      let (y, h) := alcClassLoop i a n (ts.filter fun t => decide (t ≠ d))
      (y, d :: h)

/-- The computation of R167 from class 7 down: grants and HELD stalls. -/
def alcGrants (i : AlcIn) (a : Nat) : List Nat × List Nat :=
  let r := (List.range 8).foldl (fun (acc : Nat × List Nat × List Nat) c =>
    let ts := (List.range 32).filter fun t => decide ((i.stall t).cls = 7 - c) && decide (0 < (i.stall t).demand)
      && !(i.stall t).paused
    let (x, h) := alcClassLoop i acc.1 33 ts
    (acc.1 - (x.map (·.2)).sum, x.foldl (fun g e => g.set e.1 e.2) acc.2.1, acc.2.2 ++ h))
    (a, List.replicate 32 0, [])
  (r.2.1, r.2.2)

/-- Stalls in the order of R168: descending CLASS, then ascending number. -/
def alcOrder (i : AlcIn) : List Nat :=
  (List.range 8).flatMap fun c => (List.range 32).filter fun t => decide ((i.stall t).cls = 7 - c)

namespace State

/-- Headroom (R168): decreases apply at once, increases as far as the headroom lets them; a stall whose increase does not fit keeps its
previous grant and takes what headroom is left. -/
def alcHeadroom (i : AlcIn) (room : Nat) (x held : List Nat) (s : State) : List Nat × List Nat :=
  let r := (alcOrder i).foldl (fun (acc : Nat × List Nat × List Nat) t =>
    let old := s.fd (Reg.alcGrant t) 0 24
    let want := x.getD t 0
    if want ≤ old then acc
    else if want - old ≤ acc.1 then (acc.1 - (want - old), acc.2.1, acc.2.2)
    else
      let g := old + acc.1
      (0, acc.2.1.set t g, if g < (i.stall t).min_ then acc.2.2 ++ [t] else acc.2.2)) (room, x, held)
  (r.2.1, r.2.2)

/-- The windows of a metering point that end at instant `k`: 100 ms and 10 ms (R166). -/
def alcWindows (s : State) (m k : Nat) : Win × Win := (Win.over (s.mp m).w10 (k - 10) k, Win.over (s.mp m).w10 (k - 1) k)

/-- Energy of a stall's metering point over the 100 ms that end at instant `k` (R166), µJ. -/
def stallEnergy (s : State) (k t : Nat) : Int := if s.stallMp t < 64 then (s.alcWindows (s.stallMp t) k).1.e else 0

/-! The limit queue (R173). -/

/-- LIMIT_Q, where it is enabled. -/
def limitQ (s : State) : Option Nat := if s.bit Reg.alcCfg 34 then some (s.fd Reg.alcCfg 28 6) else none

/-- ALC_LIMIT from LIMIT_W and MARGIN in units of 100 W. -/
def limitSet (w margin : Nat) (s : State) : State := s.hw Reg.alcLimit (w % 2 ^ 24 + saturate 24 (margin * 100) * 2 ^ 24)

/-- LIMIT_ITEM_APPLY for the item at the front of the limit queue: taken where it is due at corrected time `now` or cannot
take effect. -/
def limitItem (q : Nat) (now : Nat) (s : State) : State :=
  match s.queItem q with
  | none => s
  | some (bs, k) =>
    let tok := leAt bs 0 6
    let at_ := leAt bs 8 6 * 2 ^ 32 + leAt bs 14 4
    let bad := decide (bs.length ≠ 32) || decide (tok = 0) || (s.tokenSeq .host tok).isSome
      || decide ((at_ : Nat) + 1 < s.v .alcItemT) || s.space 3
    if bad then
      let s1 := (queTake q k s).inc Reg.alcQCnt 16 16 1
      if bs.length = 32 then s1.setV .alcItemT 0 (at_ + 1) else s1
    else if now < at_ ∨ s.jnlHalted then s
    else
      let w := leAt bs 18 3
      let m := leAt bs 21 2
      let seq := s.nextSeq
      let s1 := (limitSet w m (queTake q k s)).setV .alcItemT 0 (at_ + 1)
      let s2 := submit (commandRec 6 0 (actorMaster s1 .host) tok 1 (w + m * 2 ^ 24) (q + 2 ^ 31) 0 0) s1
      (remember .host tok seq s2).inc Reg.alcQCnt 0 16 1

/-- Every item of the limit queue that is due at corrected time `t` (units of 2^-16 ns). -/
def limitItems (t : Int) (s : State) : State :=
  match s.limitQ with
  | none => s
  | some q =>
    let now := secsOf t * 2 ^ 32 + nsOf t
    (List.range (s.queue q).words.length).foldl (fun u _ => limitItem q now u) s

/-! Hard pause (R171, R172). -/

/-- HARD_PAUSE: every stall of the lowest class that is not exempt and draws power. -/
def hardPause (i : AlcIn) (s : State) : State :=
  let ts := (List.range 32).filter fun t => !s.bit Reg.alcPaused t && !maskBit i.cfg (8 + (i.stall t).cls)
    && decide (0 < s.stallEnergy i.k t)
  match ts with
  | [] => s
  | t0 :: rest =>
    let c := rest.foldl (fun c t => min c (i.stall t).cls) (i.stall t0).cls
    let s1 := each (ts.filter fun t => decide ((i.stall t).cls = c)) (fun t u =>
      (hardPauseRec t 1 true (u.hwb Reg.alcPaused t true)).trigger t (.pause 1)) s
    (s1.inc Reg.alcStat 32 16 1).evt 0x620 16

/-- The over count and what it brings (R171). -/
def overCount (i : AlcIn) (exceeds : Bool) (s : State) : State :=
  let n := if exceeds then s.n .alcOver + 1 else 0
  if n ≠ 0 ∧ max 1 (field i.cfg 16 3) ≤ n then hardPause i (s.setV .alcOver 0 0) else s.setV .alcOver 0 n

/-- How long Pg100 has stayed within LIMIT_W less MIN_W for each hard-paused stall (R172). -/
def resumeWatch (i : AlcIn) (run : Bool) (pg100 : Int) (s : State) : State :=
  eachBelow 32 (fun t u =>
    let ok := run && u.bit Reg.alcPaused t && decide (pg100 ≤ (i.limitW : Int) - ((i.stall t).min_ : Nat))
    if !ok then u.setV .alcOkFrom t 0
    else if u.v .alcOkFrom t = 0 then u.setV .alcOkFrom t (i.k * 10000000 + 1 : Nat) else u) s

/-- CLASS of a stall (R167). -/
def alcClass (s : State) (t : Nat) : Nat := s.fd (Reg.alcStall t) 0 3

/-- A stall's hard pause ends, and with it its HARD cause (R172, R218). -/
def hardRelease (t cause : Nat) (s : State) : State :=
  ((hardPauseEnd t cause s).setV .alcOkFrom t 0).trigger t (.lift 1)

/-- HARD_PAUSE_RESUME (R172): the highest hard-paused class, once per RESUME_S. -/
def hardPauseResume (s : State) : State :=
  let span : Int := (max 1 (s.fd Reg.alcCfg 20 8) * 1000000000 : Nat)
  let now : Int := s.gridNs
  let ts := (List.range 32).filter fun t => s.bit Reg.alcPaused t
  let c := ts.foldl (fun c t => max c (s.alcClass t)) 0
  let go := ts.filter fun t => decide (s.alcClass t = c) && decide (s.v .alcOkFrom t ≠ 0)
    && decide (s.v .alcOkFrom t - 1 + span ≤ now)
  if go = [] ∨ (s.v .alcBackAt ≠ 0 ∧ now < s.v .alcBackAt - 1 + span) ∨ s.ownerFault 0x600 then s
  else ((each go (fun t u => hardRelease t 2 u) s).setV .alcBackAt 0 (now + 1)).evt 0x620 17

/-! Instants and commits (R166 to R170). -/

/-- The allocator runs from the end of the common safe state of a power-on or device reset on, and not while STL restarts or the supply is
lost (R175). -/
def alcRuns (s : State) : Bool :=
  !(s.commons.any fun c => decide (c.cause = 1 ∨ c.cause = 2)) && !s.ownerFault 0x600 && decide (s.v .gleaning = 0 ∧ s.v .powerOff = 0)

/-- What the allocator uses at its instant `k`: limit, margin, parameters and demands in force (R166). -/
def alcGather (s : State) (k : Nat) : AlcIn where
  k := k
  cfg := s.rd Reg.alcCfg
  limit := s.rd Reg.alcLimit
  fallback := s.fd Reg.alcFallback 0 24
  stalls := (List.range 32).map fun t =>
    ⟨s.alcClass t, max 1 (s.fd (Reg.alcStall t) 4 8), s.fd (Reg.alcStall t) 12 24, s.fd (Reg.alcCap t) 0 24, s.demandW t,
      s.demandCounted t, s.bit Reg.alcPaused t⟩

/-- An allocation instant has come (R166): the limit items due take effect (R173), and what is in force is held for it. At a boundary
`before` its writes, an instant that lies on the boundary itself is not yet taken. -/
def alcLatch (before : Bool) (s : State) : State :=
  let k := s.gridNs / 10000000
  if (k : Nat) + 1 ≤ s.v .alcAt ∨ s.alcRuns = false ∨ (before ∧ s.gridUnits 0 s.counter = (k * 10000000 * 2 ^ 16 : Nat)) then s
  else
    let s1 := limitItems (s.gridTime (k * 10000000)) ((s.setV .alcAt 0 (k + 1)).inc Reg.alcTick 0 48 1)
    { s1 with alcIn := s1.alcGather k }

/-- STATE of a stall (R174). -/
def alcStateOf (i : AlcIn) (s : State) (held : List Nat) (g t : Nat) : Nat :=
  if s.bit Reg.alcPaused t then 4 else if t ∈ held then 3 else if (i.stall t).demand = 0 then 0
  else if i.want t ≤ g then 1 else 2

/-- ALLOCATION_INSTANT (R166 to R171): the allocator evaluates its last instant, once. -/
def allocationInstant (s : State) : State :=
  let i := s.alcIn
  if i.stalls = [] ∨ (i.k : Nat) + 1 ≤ s.v .alcRan ∨ s.alcRuns = false then s
  else
    let s1 := s.setV .alcRan 0 (i.k + 1)
    let en := maskBit i.cfg 6
    let w := s1.alcWindows (field i.cfg 0 6) i.k
    let pg100 := w.1.e / 100000
    let pg10 := w.2.e / 10000
    let none_ := decide (w.1.n ≤ w.1.gaps)
    let was := s1.bit Reg.alcStat 24
    let fb := if was then !(decide (0 < w.1.n) && decide (w.1.gaps = 0)) else none_
    let s2 := ((s1.hwb Reg.alcStat 24 fb).setV .pg10 0 pg10).hw Reg.alcPGrid (unsigned 48 pg100)
    let s3 := if fb && !was then s2.evt 0x620 18 else if was && !fb then s2.evt 0x620 19 else s2
    let exceeds := decide (((i.limitW + field i.limit 24 24 : Nat) : Int) < pg10)
    let run := en && !fb
    let s4 := overCount i (run && exceeds) (s3.hwb Reg.alcStat 25 exceeds)
    let s5 := resumeWatch i run pg100 s4
    let ps := ((List.range 32).map fun t => s5.stallEnergy i.k t / 100000).sum
    let a := if fb then i.fallback else (max 0 (min ((i.limitW : Int) - (pg100 - ps)) (2 ^ 24 - 1))).toNat
    let x : List Nat × List Nat :=
      if !en then ((List.range 32).map fun t => if (i.stall t).paused then 0 else i.want t, [])
      else
        let y := alcGrants i a
        if fb then y else alcHeadroom i ((i.limitW : Int) - pg10).toNat y.1 y.2 s5
    let s6 := eachBelow 32 (fun t u =>
      let g := x.1.getD t 0
      (((u.setV .alcNew t g).setV .alcNewState t (alcStateOf i u x.2 g t)).setV .alcDemand t (i.stall t).demand).setV
        .alcWasCounted t (i.stall t).counted.toNat) (s5.hwf Reg.alcStat 0 24 a)
    s6.setV .alcDue 0 (i.k * 10000000 + 1)

/-- A grant reaches its stall, its slot and the grant queue (R169, R174). -/
def grantStall (t : Nat) (s : State) : State :=
  let a := Reg.alcGrant t
  let old := s.fd a 0 24
  let st := if s.bit Reg.alcPaused t then 4 else s.n .alcNewState t
  let g := if s.bit Reg.alcPaused t then 0 else s.n .alcNew t
  let moved := decide (g ≠ old) || decide (s.n .alcState t ≠ st)
  let s1 := ((s.hw a (g + s.n .alcDemand t * 2 ^ 24)).setV .alcState t st).hwb Reg.alcHeld t (decide (st = 3))
  let s2 := if moved && s1.bit Reg.alcCfg 41 then
      let q := s1.fd Reg.alcCfg 35 6
      let bs := toLE 6 (s1.rd Reg.alcTick) ++ toLE 1 t ++ toLE 1 st ++ toLE 3 g ++ toLE 5 0
      if s1.queFits q bs then quePlace q bs s1 else s1.inc Reg.alcQCnt 32 16 1
    else s1
  if s2.v .alcWasCounted t = 1 then grantActs t g s2 else s2

/-- GRANT_COMMIT (R166, R169): at or after the instant + 1 ms. -/
def grantCommit (s : State) : State :=
  let d := s.v .alcDue
  if d = 0 ∨ (s.gridNs : Int) < d - 1 + 1000000 ∨ s.alcRuns = false then s
  else eachBelow 32 grantStall (s.setV .alcDue 0 0)

/-! Commands (R172, R173). -/

/-- The answer to a command of STL page 32. -/
def alcAnswer (code : Nat) : Nat := if code = 1 ∨ code = 2 then 0x01 else 0x16

/-- The effect of an accepted command of STL page 32. -/
def alcEffect (code arg : Nat) (s : State) : State :=
  if code = 1 then limitSet (field arg 0 24) (field arg 24 16) (limitItems s.now s)
  else
    let t := field arg 0 5
    if s.bit Reg.alcPaused t then (hardRelease t 3 s).evt 0x620 17 else s

/-- The answer to a write of ALC_CFG (R322): the queues it names are free and run the right way. -/
def alcCfgAnswer (v : Nat) (s : State) : Nat := if s.queUsesOk Reg.alcCfg v then 0x01 else 0x15

/-- No instant waits for its evaluation. -/
def noInstant (s : State) : State := { s with alcIn := ⟨0, 0, 0, 0, []⟩ }

/-- Grants go to 0 with the safe state and hard pause is cleared (R175): power-on and device reset. -/
def alcReset (s : State) : State :=
  let s1 := eachBelow 32 (fun t u =>
    (((u.hw (Reg.alcGrant t) 0).setV .alcState t 0).setV .alcOkFrom t 0).setV .alcNew t 0) s
  (((((((s1.hw Reg.alcHeld 0).hw Reg.alcPaused 0).setV .alcOver 0 0).setV .alcDue 0 0).setV .alcBackAt 0 0).hwf
    Reg.alcStat 0 32 0).setV .pg10 0 0).noInstant

end State
end Sys2Proof.Machine
end

