-- ==== Sys2Proof/Machine/Cal.lean ====
section
/-! DEFINITION. Tariff calendars (15_billing.md R386 to R391): the image, its checks, the tariff in force at a local time. -/
namespace Sys2Proof.Machine

/-- The civil date (year, month, day) of a day number counted from 1970-01-01 (proleptic Gregorian). -/
def civil (days : Nat) : Nat × Nat × Nat :=
  let z := days + 719468
  let era := z / 146097
  let doe := z % 146097
  let yoe := (doe - doe / 1460 + doe / 36524 - doe / 146096) / 365
  let doy := doe - (365 * yoe + yoe / 4 - yoe / 100)
  let mp := (5 * doy + 2) / 153
  let m := if mp < 10 then mp + 3 else mp - 9
  (yoe + era * 400 + (if m ≤ 2 then 1 else 0), m, doy - (153 * mp + 2) / 5 + 1)

/-- Weekday of a day number: 0 Monday to 6 Sunday. -/
def weekday (days : Nat) : Nat := (days + 3) % 7

namespace Cal

/-- LOCAL_OFS at a BT second, minutes (R386). -/
def localOfs (c : Cal) (t : Nat) : Int :=
  c.ofs.foldl (fun o e => if e.1 ≤ t then e.2 else o) 0

/-- Local second of a BT second. -/
def localAt (c : Cal) (t : Nat) : Int := t + c.localOfs t * 60

/-- Local second that selects the tariff (R388): a switching point inside a repeated span has taken effect at its first
occurrence, so the local second reached before a decrease of LOCAL_OFS is kept until it is passed again. -/
def reached (c : Cal) (t : Nat) : Nat :=
  (c.ofs.foldl (fun m e => if e.1 ≤ t ∧ 0 < e.1 then max m (c.localAt (e.1 - 1)) else m) (c.localAt t)).toNat

/-- The day profile of a local day (R387): a special day, a specific year before every year; else the season's week. -/
def profile (c : Cal) (day : Nat) : Nat :=
  let (y, m, d) := civil day
  let hit (yy : Nat) := c.specials.find? fun e => decide (e.1 = yy ∧ e.2.1 = m ∧ e.2.2.1 = d)
  match hit y, hit 0xFFFF with
  | some e, _ => e.2.2.2
  | none, some e => e.2.2.2
  | none, none =>
    let before := c.seasons.filter fun e => decide (e.1 * 100 + e.2.1 ≤ m * 100 + d)
    let season := (before.getLast?).getD ((c.seasons.getLast?).getD (1, 1, 0))
    (c.weeks.getD season.2.2 []).getD (weekday day) 0

/-- The tariff in force at a BT second (R387). -/
def tariff (c : Cal) (t : Nat) : Nat :=
  let l := c.reached t
  (c.days.getD (c.profile (l / 86400)) []).foldl (fun x p => if p.1 ≤ l % 86400 then p.2 else x) c.dflt

/-- Switching instants of one day of BT (R388), unordered: the result of R387 changes there. -/
def changes (c : Cal) (day : Nat) : List Nat :=
  let offs := (0 :: c.ofs.map (·.2)).eraseDups
  let secs := (0 :: (c.days.flatMap fun d => d.map (·.1))).eraseDups
  let cands := offs.flatMap (fun o => secs.map fun (p : Nat) => day * 86400 + ((Int.ofNat p - o * 60) % 86400).toNat) ++ c.ofs.map (·.1)
  cands.filter fun x => decide (x / 86400 = day) && decide (c.tariff x ≠ c.tariff (x - 1))

/-- The last switching instant up to a BT second, of its day or the day before; 0 for none. -/
def last (c : Cal) (t : Nat) : Nat :=
  ((c.changes (t / 86400 - 1) ++ c.changes (t / 86400)).filter fun x => decide (x ≤ t)).foldl max 0

/-- The next switching instant after a BT second within the days searched, 0 for none known (R405). -/
def next (c : Cal) (t : Nat) : Nat → Nat → Nat
  | 0, _ => 0
  | n + 1, day =>
    match (c.changes day).filter fun x => decide (t < x) with
    | [] => c.next t n (day + 1)
    | x :: rest => rest.foldl min x

end Cal

/-! The image (R390, R391). -/

/-- Elements `0` to `k - 1` of a field of a byte string. -/
def elems (b : List Byte) (off size k : Nat) : List (List Byte) := (List.range k).map fun i => slice b (off + size * i) size

/-- Every byte is 0. -/
def allZero (b : List Byte) : Bool := b.all fun x => decide (x = 0)

/-- The used entries of day profile `d`. -/
def dayEntries (b : List Byte) (d : Nat) : List Nat :=
  ((elems b (64 + 256 * d) 4 64).map ofLE).takeWhile fun x => maskBit x 31

/-- The calendar that an image spells. -/
def Cal.ofBytes (b : List Byte) : Cal where
  id := leAt b 8 4
  at_ := leAt b 12 6
  dflt := leAt b 18 1
  demandMin := leAt b 19 1
  days := (List.range (leAt b 20 1)).map fun d => (dayEntries b d).map fun x => (field x 0 17, field x 17 3)
  weeks := (elems b 4160 8 (leAt b 21 1)).map fun w => (w.take 7).map (·.toNat)
  seasons := (elems b 4224 4 (leAt b 22 1)).map fun e => (leAt e 0 1, leAt e 1 1, leAt e 2 1)
  specials := (elems b 4256 8 (leAt b 24 2)).map fun e => (leAt e 0 2, leAt e 2 1, leAt e 3 1, leAt e 4 1)
  ofs := (elems b 6304 8 (leAt b 23 1)).map fun e => (leAt e 0 6, signed 16 (leAt e 6 2))

/-- A strictly rising list. -/
def rising (l : List Nat) : Bool := (l.zip (l.drop 1)).all fun p => decide (p.1 < p.2)

/-- Reason 2 of R391: a count, an index or a date out of range, or an unused entry that is not 0. -/
def calRange (b : List Byte) : Bool :=
  let c := Cal.ofBytes b
  let nd := leAt b 20 1
  let nw := leAt b 21 1
  let ns := leAt b 22 1
  let no := leAt b 23 1
  let np := leAt b 24 2
  let date (m d : Nat) : Bool := decide (1 ≤ m ∧ m ≤ 12 ∧ 1 ≤ d ∧ d ≤ 31)
  decide (1 ≤ nd ∧ nd ≤ 16 ∧ 1 ≤ nw ∧ nw ≤ 8 ∧ 1 ≤ ns ∧ ns ≤ 8 ∧ no ≤ 32 ∧ np ≤ 256 ∧ c.id ≠ 0 ∧ c.dflt ≤ 7)
    && (List.range nd).all (fun d =>
        allZero (slice b (64 + 256 * d + 4 * (dayEntries b d).length) (256 - 4 * (dayEntries b d).length)))
    && c.days.all (fun d => d.all fun p => decide (p.1 ≤ 86399))
    && allZero (slice b (64 + 256 * nd) (256 * (16 - nd)))
    && c.weeks.all (fun w => w.all fun p => decide (p < nd)) && allZero (slice b (4160 + 8 * nw) (8 * (8 - nw)))
    && c.seasons.all (fun e => date e.1 e.2.1 && decide (e.2.2 < nw)) && rising (c.seasons.map fun e => e.1 * 100 + e.2.1)
    && allZero (slice b (4224 + 4 * ns) (4 * (8 - ns)))
    && c.specials.all (fun e => date e.2.1 e.2.2.1 && decide (e.2.2.2 < nd)) && allZero (slice b (4256 + 8 * np) (8 * (256 - np)))
    && rising (c.ofs.map (·.1)) && allZero (slice b (6304 + 8 * no) (8 * (32 - no)))

/-- The reason for which a calendar is refused, 0 for none (R391). -/
def calReason (b : List Byte) (sigOk : Bool) (active : Nat) : Nat :=
  let c := Cal.ofBytes b
  if !sigOk then 1
  else if !calRange b then 2
  else if !(c.days.all fun d => rising (d.map (·.1)) && decide ((d.head?.map (·.1)) = some 0)) then 3
  else if !(decide (c.demandMin = 0) || decide (60 % max 1 c.demandMin = 0)) then 4
  else if c.id = active then 5
  else 0

end Sys2Proof.Machine
end

