-- ==== Sys2Proof/Machine/Bal.lean ====
section
/-! DEFINITION. The hub balance (06_hub_balance_and_limits.md R158 to R165). Energies are in µJ, ticks are numbered by grid
time / 100 ms, periods by grid time / PERIOD_S. -/
namespace Sys2Proof.Machine.State

/-- The balance periods of a group. -/
def balPeriods (s : State) (g : Nat) : List BalPeriod := Tab.get (fun _ => []) s.bals g

/-- Replace the balance periods of a group. -/
def setBal (g : Nat) (l : List BalPeriod) (s : State) : State := { s with bals := Tab.put natLt (fun _ => []) s.bals g l }

/-- PERIOD_S of a group (R161). -/
def balSecs (s : State) (g : Nat) : Nat := s.fd (Reg.balCfg g) 8 6

/-- Enabled remote terms of a group (R158). -/
def balRemotes (s : State) (g : Nat) : List Nat := (List.range 4).filter fun r => s.bit (Reg.balRem g r) 7

/-- Configuration slots of the balance (R177, R178). -/
def balCfgSlots : List Nat :=
  ((List.range 10).map fun k => Reg.balNbCfg + 8 * k) ++ (List.range 8).flatMap fun g => (List.range 14).map fun k => Reg.balCfg g + 8 * k

/-- The state with the balance's configuration of a tick: the one in force at its start (R176). -/
def balAsOf (s : State) (tick : Nat) : State :=
  match s.balCfgs.find? fun x => decide (x.1 = tick) with
  | none => s
  | some x => { s with slots := balCfgSlots.foldl (fun t a => Tab.put natLt resetVal t a (Tab.get resetVal x.2 a)) s.slots }

/-- A group whose EN or PERIOD_S differs between two configurations gives up the period under way (R176). -/
def balAnew (old : State) (tick g : Nat) (s : State) : State :=
  if old.bit (Reg.balCfg g) 0 = s.bit (Reg.balCfg g) 0 ∧ old.balSecs g = s.balSecs g then s
  else setBal g ((s.balPeriods g).filter fun p => decide (10 * (p.num + 1) * p.secs ≤ tick)) s

/-- At the start of a tick its configuration is held (R176). -/
def balLatch (s : State) : State :=
  let k := s.gridNs / 100000000
  if s.balCfgs.any fun x => decide (x.1 = k) then s
  else
    let old := s.balAsOf ((s.balCfgs.head?.map (·.1)).getD k)
    let mine := s.slots.filter fun (e : Nat × Word) => decide (e.1 ∈ balCfgSlots)
    { eachBelow 8 (balAnew old k) s with balCfgs := (k, mine) :: s.balCfgs.take 1 }

/-- A tick's period exists; one begins only with its first tick, wholly after a power-on (R163). `secs` is PERIOD_S of the tick. -/
def balOpen (g secs tick : Nat) (s : State) : State :=
  let n := tick / (10 * secs)
  let a := n * secs * 1000000000
  if (s.balPeriods g).any (fun p => decide (p.num = n ∧ p.secs = secs)) ∨ tick % (10 * secs) ≠ 0 ∨ (a : Int) + 1 < s.v .balFrom
      ∨ s.balSecs g ≠ secs then s
  else
    let broken := decide ((a : Int) < s.v .balBreakAt) && decide (s.v .balBreakAt ≤ (a + secs * 1000000000 : Nat))
    setBal g (s.balPeriods g ++ [⟨n, secs, 0, 0, 0, 0, 0, [], broken⟩]) s

/-- Change the period that holds a tick. -/
def balUpdate (g secs tick : Nat) (f : BalPeriod → BalPeriod) (s : State) : State :=
  setBal g ((s.balPeriods g).map fun p => if p.num = tick / (10 * secs) ∧ p.secs = secs then f p else p) s

/-- E_loss of a tick (R160). -/
def balLoss (s : State) (g : Nat) (eLoc : Int) : Int :=
  if s.bit (Reg.balCfg g) 1 then
    let e := max 0 eLoc
    let pw := (e / 100000).toNat
    (s.fd (Reg.balC0 g) 0 32 : Nat) * 100000 + (s.fd (Reg.balC1 g) 0 32 : Nat) * e / 2 ^ 32
      + ((s.fd (Reg.balC2 g) 0 32 * pw * pw * 100000 / 2 ^ 48 : Nat) : Int)
  else 0

/-- The members of a set of metering points. -/
def membersOf (mask : Nat) : List Nat := (List.range 64).filter fun m => maskBit mask m

/-- The tick sums of some metering points (R159). -/
def tickSum (s : State) (tick : Nat) (ms : List Nat) : Win :=
  ms.foldl (fun x m => let w := Win.at (s.mp m).w100 tick; ⟨tick, x.e + w.e, x.u + w.u, x.n + w.n, x.gaps + w.gaps⟩)
    ⟨tick, 0, 0, 0, 0⟩

/-- The frame of a group for a tick (R164). -/
def balFrame (s : State) (g tick : Nat) (src snk : Win) (loss : Int) : List Byte :=
  let gap := decide (0 < src.gaps + snk.gaps)
  let b := toLE 1 1 ++ toLE 1 g ++ toLE 6 (s.rd Reg.sysIdSerial) ++ toLE 6 (tick / 10) ++ toLE 1 (tick % 10)
    ++ toLE 1 (gap.toNat + 2 * (s.bit Reg.timState 11).toNat + 4 * (decide (s.fd Reg.timState 3 3 = 3)).toNat)
    ++ toLE 8 (unsigned 64 src.e) ++ toLE 8 (unsigned 64 snk.e) ++ toLE 8 loss.toNat ++ toLE 8 (src.u + snk.u)
  b ++ toLE 4 (crc32c b)

/-- A group's tick (R160), and the frame it sends (R164); `u` is the state with the tick's configuration. -/
def balGroupTick (u : State) (g tick : Nat) (s : State) : State :=
  if u.bit (Reg.balCfg g) 0 = false then s
  else
    let src := s.tickSum tick (membersOf (u.balSet g true))
    let snk := s.tickSum tick (membersOf (u.balSet g false))
    let loss := u.balLoss g snk.e
    let s1 := balUpdate g (u.balSecs g) tick (fun p => { p with
      src := p.src + src.e, snk := p.snk + snk.e, loss := p.loss + loss, u := p.u + src.u + snk.u, ticks := p.ticks + 1 })
      (balOpen g (u.balSecs g) tick s)
    if u.bit Reg.balNbCfg 0 ∧ u.fd Reg.balNbCfg 2 4 ≠ 0 then
      { s1.inc Reg.balNbCnt 0 16 1 with
        balSent := s1.balSent ++ [⟨u.rd Reg.balNbDst, 0x88B5, 5, s1.balFrame g tick src snk loss⟩] }
    else s1

/-- BALANCE_TICK (R159, R164): the tick that ended at least 1 ms ago is evaluated once; one that a power-on fell into is none. -/
def balanceTick (s : State) : State :=
  let k := (s.gridNs - 1000000) / 100000000
  if k = 0 ∨ s.v .balTick = (k : Nat) ∨ ((k - 1) * 100000000 : Nat) + 1 < s.v .balFrom then s
  else
    let u := s.balAsOf (k - 1)
    eachBelow 8 (fun g t => balGroupTick u g (k - 1) t) ({ s with balSent := [] }.setV .balTick 0 k)

/-- A remote term of a group takes an accepted frame of a neighbour (R165); `u` is the state with the tick's configuration. -/
def balRemote (u : State) (g r nb : Nat) (f : List Byte) (s : State) : State :=
  let c := u.rd (Reg.balRem g r)
  let tick := leAt f 8 6 * 10 + leAt f 14 1
  if maskBit c 7 ∧ field c 0 3 = nb ∧ field c 3 3 = leAt f 1 1 ∧ u.bit (Reg.balCfg g) 0 then
    balUpdate g (u.balSecs g) tick (fun p =>
      if (r, tick) ∈ p.seen then p
      else
        let p1 := { p with u := p.u + leAt f 40 8, seen := p.seen ++ [(r, tick)] }
        if maskBit c 6 then { p1 with src := p1.src + signed 64 (leAt f 16 8) }
        else { p1 with snk := p1.snk + signed 64 (leAt f 24 8) + (leAt f 32 8 : Nat) }) (balOpen g (u.balSecs g) tick s)
  else s

/-- BALANCE_FRAME_RECEIVED (R165). -/
def balanceFrame (f : List Byte) (s : State) : State :=
  let w := s.balAsOf (leAt f 8 6 * 10 + leAt f 14 1)
  if w.bit Reg.balNbCfg 1 = false then s
  else
    let nb := (List.range 8).find? fun k => decide (w.rd (Reg.balNbDev k) = leAt f 2 6 ∧ leAt f 2 6 ≠ 0)
    let stop := (leAt f 8 6 * 10 + leAt f 14 1 + 1) * 100000000
    let ok := decide (52 ≤ f.length ∧ leAt f 0 1 = 1 ∧ leAt f 48 4 = crc32c (f.take 48)) && maskBit (leAt f 15 1) 1
      && maskBit (leAt f 15 1) 2 && decide (stop ≤ s.gridNs ∧ s.gridNs ≤ stop + 50000000)
    match nb with
    | some k =>
      if ok then
        eachBelow 8 (fun g t => eachBelow 4 (fun r u => balRemote w g r k f u) t) (s.inc Reg.balNbCnt 16 16 1)
      else s.inc Reg.balNbCnt 32 16 1
    | none => s.inc Reg.balNbCnt 32 16 1

/-- The record of an alarm raised (0x020) or cleared (0x021) (R562). -/
def balAlarmRec (g code low : Nat) (s : State) : State :=
  submit (rec1 4 7 code g 0 [(1, g), (1, low), (6, s.rd (Reg.balTSec g)), (6, s.rd (Reg.balRes g)), (6, s.rd (Reg.balBound g))]) s

/-- Raise an alarm: bit 0 HIGH, 1 LOW (R162). -/
def balRaise (g low : Nat) (s : State) : State :=
  if s.bit (Reg.balStat g) low then s
  else balAlarmRec g 0x20 low (((s.hwb (Reg.balStat g) low true).inc (Reg.balStat g) 16 16 1).evt (0x491 + g) 16)

/-- Clear an alarm (R162). -/
def balClear (g low : Nat) (s : State) : State :=
  if s.bit (Reg.balStat g) low then balAlarmRec g 0x21 low ((s.hwb (Reg.balStat g) low false).evt (0x491 + g) 17) else s

/-- A complete period of residual `r` and bound `b` enters the runs of R162; `n` is ALARM_N. -/
def balRun (g n : Nat) (r b : Int) (s : State) : State :=
  let hi := if b < r then s.v .balHigh g + 1 else 0
  let lo := if r < -b then s.v .balLow g + 1 else 0
  let inside := if b < r ∨ r < -b then 0 else s.v .balIn g + 1
  let s1 := ((s.setV .balHigh g hi).setV .balLow g lo).setV .balIn g inside
  let s2 := s1.hwf (Reg.balStat g) 3 4 (saturate 4 (max hi lo).toNat)
  let s3 := if (n : Int) ≤ hi then balRaise g 0 s2 else s2
  let s4 := if (n : Int) ≤ lo then balRaise g 1 s3 else s3
  if (n : Int) ≤ inside then balClear g 1 (balClear g 0 s4) else s4

/-- BALANCE_PERIOD_END (R161 to R163): the oldest period is evaluated 1 ms after its end, 60 ms with remote terms. -/
def balancePeriodEnd (g : Nat) (s : State) : State :=
  match s.balPeriods g with
  | [] => s
  | p :: rest =>
    let secs := p.secs
    let stop := (p.num + 1) * secs
    let w := s.balAsOf (10 * stop - 1)
    let nr := (w.balRemotes g).length
    if s.gridNs < stop * 1000000000 + (if nr = 0 then 1000000 else 60000000) then s
    else
      let full := decide (p.ticks = 10 * secs) && decide (p.seen.length = p.ticks * nr) && !p.broken
      let r := p.src - p.snk - p.loss
      let b : Int := ((w.fd (Reg.balAbs g) 0 32 * secs * 1000000 + w.fd (Reg.balRel g) 0 24 * p.src.natAbs / 2 ^ 24 + p.u : Nat))
      let mj (x : Int) : Nat := unsigned 48 (x / 1000)
      let s1 := ((setBal g rest s).hw (Reg.balTSec g) (stop % 2 ^ 48)).hw (Reg.balESrc g) (mj p.src)
      let s2 := ((s1.hw (Reg.balESnk g) (mj p.snk)).hw (Reg.balELoss g) (mj p.loss)).hw (Reg.balRes g) (mj r)
      let s3 := (s2.hw (Reg.balBound g) (mj b)).hw (Reg.balUnmeas g) (mj p.u)
      if full then
        let sum := unsigned 96 (signed 96 (s3.rd (Reg.balResSumHi g) * 2 ^ 48 + s3.rd (Reg.balResSumLo g)) + r)
        balRun g (w.fd (Reg.balCfg g) 16 4) r b (((s3.hw (Reg.balResSumHi g) (sum / 2 ^ 48)).hw (Reg.balResSumLo g) (sum % 2 ^ 48)).hwb (Reg.balStat g) 2 false)
      else ((s3.hwb (Reg.balStat g) 2 true).inc (Reg.balStat g) 32 16 1).evt (0x491 + g) 18

/-- Every balance period in progress becomes incomplete (R163, R175), one that no tick has opened yet too. -/
def balBreak (s : State) : State :=
  ({ s with bals := s.bals.map fun (x : Nat × List BalPeriod) => (x.1, x.2.map fun (p : BalPeriod) =>
      if s.gridNs < (p.num + 1) * p.secs * 1000000000 then { p with broken := true } else p) } : State).setV .balBreakAt 0 (s.gridNs + 1)

/-- The verdict on a write to a slot of a balance group page (R158). -/
def balCfgAnswer (g a v : Nat) (s : State) : Nat := if (s.wr a v).balOk g then 0x01 else 0x15

end Sys2Proof.Machine.State
end

