-- ==== Sys2Proof/Machine/Drv.lean ====
section
/-! DEFINITION. The drive block (10_drive_outputs.md): demand, bank supplies, wire model, retries and latches, clamp, and the
scope of its faults. -/
namespace Sys2Proof.Machine

/-- I_T in mA of the preset curves (R263). -/
def presetIt : Nat → Nat
  | 0 => 500
  | 1 => 750
  | 2 => 1000
  | 3 => 1250
  | _ => 1500

/-- TAU of the preset curves in units of 0.1 s (R263). -/
def presetTau : Nat → Nat
  | 0 => 40
  | 1 => 60
  | 2 => 80
  | 3 => 120
  | 4 => 180
  | 5 => 250
  | 6 => 400
  | _ => 600

/-- k of R262 for TAU in units of 0.1 s: `2^32 * (1 - exp(-x))` with x = 1 / (1000 TAU), rounded to the nearest. The first
five terms of the series decide the rounding for every TAU of the register. -/
def fuseK (tau : Nat) : Nat :=
  let m := 1000 * tau
  if tau = 0 then 0
  else (2 * (2 ^ 32 * (120 * m ^ 4 + 20 * m ^ 2 + 1 - 60 * m ^ 3 - 5 * m)) + 120 * m ^ 5) / (2 * (120 * m ^ 5))

namespace State

/-- DRV page of an output. -/
def drvPage (o : Nat) : Nat := 0x800 + o / 8

/-- RETRY_MAX: 0 on outputs of USE 1 or 2 (R270). -/
def retryMax (s : State) (o : Nat) : Nat := if s.useOf o = 0 then s.fd (Reg.drvOutCfg o) 9 3 else 0

/-- I_T squared in mA², as a fraction (R262, R263). -/
def itSquared (s : State) (o : Nat) : Nat × Nat :=
  let sel := s.fd (Reg.drvOutCfg o) 5 4
  if sel < 8 then (presetIt sel ^ 2, 1) else (s.fd (Reg.drvOutFuse o) 0 24 * 10000, max 1 (s.fd (Reg.drvOutFuse o) 24 12))

/-- TAU of an output in units of 0.1 s. -/
def fuseTau (s : State) (o : Nat) : Nat :=
  let sel := s.fd (Reg.drvOutCfg o) 5 4
  if sel < 8 then presetTau sel else s.fd (Reg.drvOutFuse o) 24 12

/-- th of an output, units of 2^-16 mA² (R262, R264). -/
def fuseTh (s : State) (o : Nat) : Nat :=
  let it := s.itSquared o
  if s.v .fuseTh o = 0 then it.1 * 2 ^ 15 / it.2 else s.n .fuseTh o - 1

/-- HEAT of an output (R262). -/
def heat (s : State) (o : Nat) : Nat :=
  let it := s.itSquared o
  if it.1 = 0 then 0 else saturate 32 (s.fuseTh o * it.2 / it.1)

/-- Tj of an output, °C (R279). -/
def tj (s : State) (o : Nat) : Int := signed 8 (s.fd (Reg.drvOutMeas o) 32 8)

/-- A fault that R275 confines to a stall: SHORT, FUSE_TRIP, THERMAL_LATCH, RETRY_LATCH, NO_FW or CLAMP_HOT. -/
def outFault (s : State) (o : Nat) : Bool :=
  let a := Reg.drvOutStat o
  s.bit a 6 || s.bit a 7 || s.bit a 8 || s.bit a 9 || s.bit a 11 || s.bit a 12

/-- The faults of an output enter and exit with its conditions (R275, R507). A contactor or lock output first trips its
stall (R508), and then needs REENABLE. -/
def drvFaults (o : Nat) (s : State) : State :=
  match s.userOf o with
  | some (t, _) =>
    let f := s.outFault o
    let s1 := if f then trip t 0x0A o (s.setV .driveFault o 1) else s
    fault 0x0803 o 0 0 (s.bit (Reg.drvOutStat o) 10) (fault 0x0801 o 1 (2 ^ t) f s1)
  | none =>
    let a := Reg.drvOutStat o
    fault 0x0803 o 0 0 (s.outFault o || s.bit a 17 || s.bit a 10 || decide (s.v .driveFault o = 1)) (fault 0x0801 o 1 0 false s)

/-- Set fault bits of an output (R278, R281, R282). -/
def drvRaise (o : Nat) (bits : List Nat) (s : State) : State :=
  let a := Reg.drvOutStat o
  let fresh := bits.any fun b => !s.bit a b
  let s1 := drvRefresh o (bits.foldl (fun t b => t.hwb a b true) s)
  let sum := if o < 32 then Reg.drvSumFaultLo else Reg.drvSumFaultHi
  let was := s1.bit sum (o % 32)
  let s2 := drvFaultSum o s1
  let s3 := if fresh then s2.evt (drvPage o) (16 + o % 8) else s2
  drvFaults o (if s2.bit sum (o % 32) && !was then s3.evt 0x808 16 else s3)

/-- Clear fault bits of an output. -/
def drvClear (o : Nat) (bits : List Nat) (s : State) : State :=
  drvFaults o (drvFaultSum o (drvRefresh o (bits.foldl (fun t b => t.hwb (Reg.drvOutStat o) b false) s)))

/-! Measurements (R258, R260 to R262). -/

/-- The sums of the last millisecond become the mean squares, and DRV_SUM_POWER follows (R258, R282). -/
def powerTick (s : State) : State :=
  let ms := s.counter / 1000000
  if s.n .sqMs = ms then s
  else
    let s1 := eachBelow 64 (fun o t =>
      if t.v .sqN o = 0 then t
      else ((t.setV .sqMean o (t.v .sqSum o / t.v .sqN o)).setV .sqSum o 0).setV .sqN o 0) s
    let p := saturate 32 (((List.range 64).map fun o => s1.n .sqMean o).sum / 1000)
    let exceeds := decide (s1.fd Reg.drvSumPower 0 32 ≤ 8000 ∧ 8000 < p)
    let s2 := (s1.wrf Reg.drvSumPower 0 32 p).setV .sqMs 0 ms
    if exceeds then s2.evt 0x808 17 else s2

/-- The current of an output as last measured, mA (R279). -/
def outMa (s : State) (o : Nat) : Int := signed 16 (s.fd (Reg.drvOutMeas o) 0 16)

/-- The mean of an output's measurements, mA; of none, the last one. -/
def meanMa (s : State) (sum n : Var) (o : Nat) : Int := if s.v n o = 0 then s.outMa o else s.v sum o / s.v n o

/-- The measured current of a bank, mA (R278). -/
def bankMa (s : State) (b : Nat) : Int := ((List.range 8).map fun j => s.outMa (8 * b + j)).sum

/-- Mean bank current of the last 100 ms, from that of its ten blocks of 10 ms, mA (R257). -/
def bankMean (s : State) (b : Nat) : Nat := (((List.range 10).map fun k => s.v .shRing (10 * b + k)).sum / 10).toNat

/-- BANK_OVER, and the highest mean, follow the 100 ms mean of a bank (R257, R278). -/
def bankOver (b : Nat) (s : State) : State :=
  let a := Reg.drvBankStat b
  let ma := s.bankMean b
  let s1 := if s.fd (Reg.drvBankMax b) 16 16 < ma then s.wrf (Reg.drvBankMax b) 16 16 (saturate 16 ma) else s
  if 4400 < ma ∧ s1.bit a 38 = false then ((s1.wrf a 38 1 1).setV .shedAt b 0).evt (0x800 + b) 24
  else if ma ≤ 4000 then s1.wrf a 38 1 0
  else s1

/-- The sums of the last 10 ms become the banks' block means; blocks in which nothing was measured hold the last values (R257). -/
def bankTick (s : State) : State :=
  let k := s.counter / 10000000
  let last := s.n .shBlk 0
  if last = k then s
  else
    let s1 := eachBelow 8 (fun b t =>
      let mean := ((List.range 8).map fun j => t.meanMa .shSum .shN (8 * b + j)).sum
      let t1 := eachBelow (min 10 (k - last)) (fun i u => u.setV .shRing (10 * b + (last + i) % 10) (if i = 0 then mean else u.bankMa b)) t
      bankOver b t1) s
    (eachBelow 64 (fun o t => (t.setV .shSum o 0).setV .shN o 0) s1).setV .shBlk 0 k

/-- The output is above half of its bank's supply (R281). -/
def outHigh (s : State) (o : Nat) : Bool :=
  decide (signed 16 (s.fd (Reg.drvBankStat (o / 8)) 0 16) < 2 * signed 16 (s.fd (Reg.drvOutMeas o) 16 16))

/-- CURRENT_MEASUREMENT (R260): current in mA, output voltage in 10 mV, junction temperature in °C; the mean squares, the bank current,
the wire model and the open-load check use it. A conducting output back at 10 mA ends OPEN_LOAD (log entry 29). -/
def currentMeasurement (o : Nat) (ma mv10 tj : Int) (s : State) : State :=
  let v := saturateSigned 16 ma + saturateSigned 16 mv10 * 2 ^ 16 + saturateSigned 8 tj * 2 ^ 32
  let s1 := (bankTick (powerTick s)).wr (Reg.drvOutMeas o) v
  let s2 := ((s1.addV .sqSum o (ma * ma)).addV .sqN o 1).wrf (Reg.drvOutStat o) 16 1 (s1.outHigh o).toNat
  let s3 := (((s2.addV .fuSum o ma).addV .fuN o 1).addV .shSum o ma).addV .shN o 1
  let s4 := s3.wrf (Reg.drvBankStat (o / 8)) 16 16 (saturate 16 (s3.bankMa (o / 8)).toNat)
  let low := decide (ma.natAbs < 10)
  if s4.v .pulse o ≠ 0 then s4
  else
    let s5 := if s4.conducts o && low then (if s4.v .lowFrom o = 0 then s4.setV .lowFrom o (s4.counter + 1) else s4)
      else s4.setV .lowFrom o 0
    if s5.bit (Reg.drvOutStat o) 10 && s5.conducts o && !low then drvClear o [10] s5 else s5

/-- OPEN_LOAD (R261): below 10 mA for 100 ms while conducting, with OPEN_LOAD_EN; suspended by a dark pulse (R269). -/
def openLoad (o : Nat) (s : State) : State :=
  if s.bit (Reg.drvOutCfg o) 28 ∧ s.conducts o ∧ s.v .pulse o = 0 ∧ s.v .lowFrom o ≠ 0
      ∧ s.v .lowFrom o - 1 + 100000000 ≤ s.counter then
    drvRaise o [10] s
  else s

/-- A SHORT, a fuse trip or a thermal trip is counted (R279). -/
def tripCount (o : Nat) (s : State) : State := s.inc (Reg.drvOutCnt o) 16 16 1

/-- THERMAL_SHUTDOWN (R271): a pending retry is cancelled, RETRIES_LEFT keeps its value. -/
def thermalShutdown (o : Nat) (s : State) : State := drvRaise o [8] ((tripCount o s).setV .retryAt o 0)

/-- SHORT (R261, R270): the output has stayed in the limit for `us`, SHORT_T or longer. With no retry left, RETRY_LATCH. At a junction
temperature of 170 °C or more it counts as the thermal shutdown (R271). -/
def shortCircuit (o us : Nat) (s : State) : State :=
  if s.conducts o = false ∨ us < s.fd (Reg.drvOutCfg o) 20 8 * 50 then s
  else if 170 ≤ s.tj o then thermalShutdown o s
  else
    let left := s.fd (Reg.drvOutStat o) 13 3
    let s1 := tripCount o s
    if s.useOf o ≠ 0 ∨ left = 0 then drvRaise o [6, 9] s1
    else drvRaise o [6] (s1.setV .retryAt o (s1.counter + s1.fd (Reg.drvOutCfg o) 12 8 * 10000000 + 1))

/-- RETRY (R270): after RETRY_DELAY a FREE output leaves its SHORT wait. -/
def retry (o : Nat) (s : State) : State :=
  let t := s.v .retryAt o
  if t ≠ 0 ∧ t - 1 ≤ s.counter ∧ s.useOf o = 0 then
    let left := s.fd (Reg.drvOutStat o) 13 3
    let s1 := ((s.setV .retryAt o 0).hwf (Reg.drvOutStat o) 13 3 (left - 1)).setV .conductFrom o s.counter
    drvClear o [6] (s1.evt (drvPage o) 25)
  else s

/-- RETRIES_RESTORE (R270): 60 s of conduction without a SHORT. -/
def retriesRestore (o : Nat) (s : State) : State :=
  if s.conducts o ∧ s.v .pullStart o + 60000000000 ≤ s.counter ∧ s.v .conductFrom o + 60000000000 ≤ s.counter then
    s.hwf (Reg.drvOutStat o) 13 3 (s.retryMax o)
  else s

/-- One update of the wire model with a mean current in mA (R262, R265). -/
def fuseStep (o : Nat) (ma : Int) (s : State) : State :=
  let th : Int := s.fuseTh o
  let th' := th + (ma * ma * 2 ^ 16 - th) * fuseK (s.fuseTau o) / 2 ^ 32
  let s1 := s.setV .fuseTh o (max 0 th' + 1)
  let s2 := s1.wrf (Reg.drvOutHeat o) 0 32 (s1.heat o)
  let it := s2.itSquared o
  if it.1 * 2 ^ 16 < s2.fuseTh o * it.2 ∧ s2.bit (Reg.drvOutStat o) 7 = false then drvRaise o [7] (tripCount o s2) else s2

/-- FUSE_MODEL_UPDATE (R262): once in 100 µs of the counter, with the mean of the currents measured since the last update. -/
def fuseUpdate (o : Nat) (s : State) : State :=
  let k := s.counter / 100000 + 1
  if s.v .fuBlk o = k then s
  else fuseStep o (s.meanMa .fuSum .fuN o) (((s.setV .fuSum o 0).setV .fuN o 0).setV .fuBlk o k)

/-- CLAMP_EVENT (R266, R267): energy in µJ; `inPwm` when the clamp acted during a PWM off phase. -/
def clampEvent (o uj : Nat) (inPwm : Bool) (s : State) : State :=
  let keep := (s.clamps ++ [(o, s.counter, uj)]).filter fun x => decide (s.counter < x.2.1 + 1000000000)
  let s1 := ({ s with clamps := keep }).inc (Reg.drvOutCnt o) 32 16 1
  let e : Nat := ((keep.filter fun x => decide (x.1 = o)).map fun x => x.2.2).sum
  let s2 := if 150000 < e then drvRaise o [12] (s1.setV .clampEnd o (s1.counter + 10000000000)) else s1
  if inPwm ∧ s2.fd (Reg.drvOutStat o) 0 3 = 2 then drvRaise o [11] (s2.setV .noFw o 1) else s2

/-- CLAMP_HOT_END (R266). -/
def clampHotEnd (o : Nat) (s : State) : State :=
  if s.bit (Reg.drvOutStat o) 12 ∧ s.v .clampEnd o ≤ s.counter then drvClear o [12] s else s

/-- PULL_IN_END (R267). -/
def pullInEnd (o : Nat) (s : State) : State :=
  if s.conducts o ∧ s.fd (Reg.drvOutCfg o) 3 2 = 1
      ∧ s.v .pullStart o + (s.fd (Reg.drvOutEcon o) 0 10 * 1000000 : Nat) ≤ s.counter then
    drvRefresh o (s.setV .pullDone o 1)
  else s

/-- Hold duty of COIL_ECON at a bank voltage in mV, 0.1 % (R267). -/
def holdDuty (s : State) (o : Nat) (mv : Nat) : Nat :=
  if mv = 0 then 1000 else min 1000 (s.fd (Reg.drvOutEcon o) 10 10 * 24000 / mv)

/-- Duty of LAMP at a bank voltage in mV, 0.1 % (R268). -/
def lampDuty (s : State) (o : Nat) (mv : Nat) : Nat :=
  if mv = 0 then 1000 else min 1000 (s.fd (Reg.drvOutLamp o) 0 10 * 24000 ^ 2 / mv ^ 2)

/-- Duty an output is driven with at its bank's voltage, 0.1 % (R253, R267, R268). After an off-to-on transition a lamp's duty
ramps from 0 over SOFT_MS. In a DRV block restart PWM outputs conduct fully (R276), a dark pulse commands the gate on (R298), and under
REVERSE every switch is fully on (R273). -/
def driveDuty (s : State) (o : Nat) : Nat :=
  let mv := s.n .vauxMv (o / 8)
  if s.bankReverse o then 1000
  else if (s.v .ownerFault 8 = 1 ∨ s.v .pulse o ≠ 0) ∧ s.drivenOn o then 1000
  else match s.fd (Reg.drvOutStat o) 0 3 with
  | 2 => s.holdDuty o mv
  | 4 =>
    let soft := s.fd (Reg.drvOutLamp o) 10 8 * 1000000
    let t := (s.counter - s.v .pullStart o).toNat
    if t < soft then s.lampDuty o mv * t / soft else s.lampDuty o mv
  | 0 | 5 | 6 | 7 => 0
  | _ => 1000

/-! Banks (R256, R257, R273 to R275). -/

/-- Stalls with an output of USE 1 or 2 in a bank. -/
def bankStalls (s : State) (b : Nat) : Nat :=
  ((List.range 32).map fun t => if (s.outsOf t ++ s.lockOf t).any fun o => decide (o / 8 = b) then 2 ^ t else 0).sum

/-- A bank condition of R275 is present: UV, OV, REVERSE or GND_LOSS. -/
def bankFault (s : State) (b : Nat) : Bool :=
  let a := Reg.drvBankStat b
  s.bit a 32 || s.bit a 35 || s.bit a 36 || s.bit a 37

/-- What follows a change of a bank's conditions (R256, R273 to R275, R278): the outputs, the stalls with an output in the
bank, the fault. -/
def bankActs (b : Nat) (fresh : Bool) (s : State) : State :=
  let s1 := eachBelow 8 (fun j => drvRefresh (8 * b + j)) s
  let s2 := if fresh then s1.evt (0x800 + b) 24 else s1
  let mask := s2.bankStalls b
  let s3 := if s2.bankFault b then
      eachBelow 32 (fun t u =>
        if maskBit mask t then
          match (u.outsOf t ++ u.lockOf t).find? fun o => decide (o / 8 = b) with
          | some o => trip t 0x0A o u
          | none => u
        else u) s2
    else s2
  fault 0x0802 b 1 mask (s3.bankFault b) s3

/-- Set the measured VAUX of a bank, 10 mV, and its highest value. -/
def vauxSet (b : Nat) (mv : Int) (s : State) : State :=
  let v := mv / 10
  let s1 := (s.setV .vauxMv b mv).wrf (Reg.drvBankStat b) 0 16 (saturateSigned 16 v)
  if signed 16 (s1.fd (Reg.drvBankMax b) 0 16) < v then s1.wrf (Reg.drvBankMax b) 0 16 (saturateSigned 16 v) else s1

/-- Bit of DRV_BANK_STAT of condition i of R256: UV, LOW, HIGH, OV, REVERSE. -/
def vauxBit : Nat → Nat
  | 0 => 32
  | 1 => 33
  | 2 => 34
  | 3 => 35
  | _ => 36

/-- A mean VAUX in mV on the other side of the release level of condition i (R256). -/
def vauxPast (mv : Int) : Nat → Bool
  | 0 => decide (17000 < mv)
  | 1 => decide (mv < 16000 ∨ 18000 ≤ mv)
  | 2 => decide (mv ≤ 32000 ∨ 36000 < mv)
  | 3 => decide (mv < 35000)
  | _ => decide (-1000 ≤ mv)

/-- A mean of VAUX starts or restarts the 10 ms after which each condition is left (R256). -/
def vauxWatch (b : Nat) (mv : Int) (s : State) : State :=
  eachBelow 5 (fun i t =>
    if vauxPast mv i then (if t.v .vauxOk (8 * b + i) = 0 then t.setV .vauxOk (8 * b + i) (t.counter + 1) else t)
    else t.setV .vauxOk (8 * b + i) 0) s

/-- VAUX_CONDITION (R256): a 1 ms mean of VAUX enters the conditions it lies in. -/
def vauxCondition (b : Nat) (mv : Int) (s : State) : State :=
  let a := Reg.drvBankStat b
  let s1 := vauxWatch b mv (vauxSet b mv s)
  let now (lo hi : Int) := decide (lo ≤ mv ∧ mv < hi)
  let enter (i : Nat) (c : Bool) (t : State) : State := if c then t.hwb a i true else t
  let uv := decide (mv < 16000)
  let ov := decide (36000 < mv)
  let rev := decide (mv < -1000)
  let fresh := (uv && !s1.bit a 32) || (ov && !s1.bit a 35) || (rev && !s1.bit a 36)
  let s2 := if uv && !s1.bit a 32 then s1.inc (Reg.drvBankCnt b) 16 16 1 else s1
  let s3 := if ov && !s1.bit a 35 then s2.inc (Reg.drvBankCnt b) 0 16 1 else s2
  let s4 := enter 36 rev (enter 35 ov (enter 34 (decide (32000 < mv ∧ mv ≤ 36000)) (enter 33 (now 16000 18000) (enter 32 uv s3))))
  bankActs b fresh s4

/-- VAUX_CONDITION_RELEASE (R256): a further mean; a condition is left after 10 ms of stable values on the other side of its release
level. -/
def vauxRelease (b : Nat) (mv : Int) (s : State) : State :=
  let s1 := vauxWatch b mv (vauxSet b mv s)
  bankActs b false (eachBelow 5 (fun i t =>
    if t.v .vauxOk (8 * b + i) ≠ 0 ∧ t.v .vauxOk (8 * b + i) - 1 + 10000000 ≤ t.counter then t.hwb (Reg.drvBankStat b) (vauxBit i) false
    else t) s1)

/-- BANK_SHED (R257): one conducting FREE output of a bank in BANK_OVER, the highest, is shed every 10 ms; outputs of USE 1 or 2 never
are. -/
def bankShed (b : Nat) (s : State) : State :=
  let s1 := bankTick s
  if s1.bit (Reg.drvBankStat b) 38 = false ∨ (s1.v .shedAt b ≠ 0 ∧ s1.counter < s1.v .shedAt b - 1 + 10000000) then s1
  else
    match ((List.range 8).reverse.map fun j => 8 * b + j).find? fun o => decide (s1.useOf o = 0) && s1.conducts o with
    | some o => drvRaise o [17] ((s1.inc (Reg.drvBankCnt b) 32 16 1).setV .shedAt b (s1.counter + 1))
    | none => s1

/-- GND_LOSS (R274). -/
def gndLoss (b : Nat) (s : State) : State :=
  let a := Reg.drvBankStat b
  bankActs b (!s.bit a 37) (s.hwb a 37 true)

/-- GND_RESTORED (R274): after 10 ms. -/
def gndRestored (b : Nat) (s : State) : State := bankActs b false (s.hwb (Reg.drvBankStat b) 37 false)

/-! Commands and configuration (R255, R272, R277). -/

/-- The answer to a command of bank `b`. -/
def drvAnswer (b code arg : Nat) (m : Master) (s : State) : Nat :=
  let o := 8 * b + field arg 0 3
  let a := Reg.drvOutStat o
  match code with
  | 1 | 2 => if s.useOf o ≠ 0 ∨ s.bit (Reg.drvOutCfg o) 2 = false then 0x15 else 0x01
  | 3 =>
    if s.useOf o ≠ 0 ∧ ¬ (s.role m = 2 ∨ s.role m = 3) then 0x12
    else if s.bit a 8 ∧ 110 < s.tj o then 0x15
    else if s.bit a 7 ∧ 32768 < s.heat o then 0x15
    else if s.bankOff o then 0x15
    else 0x01
  | _ => 0x16

/-- REENABLE (R272). -/
def reenable (o : Nat) (s : State) : State :=
  let s1 := ((s.setV .retryAt o 0).setV .driveFault o 0).hwf (Reg.drvOutStat o) 13 3 (s.retryMax o)
  drvClear o [6, 7, 8, 9, 11, 17] s1

/-- OFF meets a dark pulse (R299): the pulse ends without a verdict, and the island gives the enables it gives a FREE output. -/
def pulseDrop (o : Nat) (s : State) : State := if s.v .pulse o = 0 then s else giveFree o (dropEnables o s)

/-- The effect of an accepted bank command (R255). -/
def drvEffect (b code arg : Nat) (s : State) : State :=
  let o := 8 * b + field arg 0 3
  match code with
  | 1 => setDemand o true s
  | 2 => pulseDrop o (setDemand o false s)
  | 3 => reenable o s
  | _ => s

/-- I_T of a custom curve is at most 1.5 A, and I2T and TAU are not 0 (R263). -/
def customOk (fuse : Nat) : Bool :=
  let i2t := field fuse 0 24
  let tau := field fuse 24 12
  decide (i2t ≠ 0 ∧ tau ≠ 0 ∧ i2t * 10000 ≤ 2250000 * tau)

/-- A change of an output's configuration is refused while it may conduct (R277). -/
def drvBusy (s : State) (o : Nat) : Bool :=
  match s.userOf o with
  | some (t, _) => !s.stallFree t
  | none => s.bit (Reg.drvOutStat o) 3

/-- The answer to a write of DRV_OUT_CFG with stored value `v` (R267, R277). -/
def drvCfgAnswer (o v : Nat) (s : State) : Nat :=
  if s.drvBusy o then 0x15
  else if field v 3 2 = 1 ∧ maskBit v 29 = false then 0x15
  else if field v 5 4 = 8 ∧ customOk (s.rd (Reg.drvOutFuse o)) = false then 0x15
  else 0x01

/-- The answer to a write of DRV_OUT_FUSE with stored value `v` (R263, R277). -/
def drvFuseAnswer (o v : Nat) (s : State) : Nat :=
  if s.drvBusy o then 0x15
  else if s.fd (Reg.drvOutCfg o) 5 4 = 8 ∧ customOk v = false then 0x15
  else 0x01

/-- A committed DRV_OUT_CFG or DRV_OUT_FUSE: HEAT follows the curve; th is kept. Without AUX_EN a FREE output has no demand (R254). -/
def drvCurveSet (o : Nat) (s : State) : State :=
  let s1 := s.wrf (Reg.drvOutHeat o) 0 32 (s.heat o)
  if s1.useOf o = 0 ∧ s1.bit (Reg.drvOutCfg o) 2 = false then setDemand o false s1 else drvRefresh o s1

/-- DRV at a power-on (R264, R276): latches, SHED and CLAMP_HOT are cleared and their faults' exits recorded; th starts
at half of the trip level, the DEMAND of FREE outputs is kept. -/
def drvPowerOn (s : State) : State :=
  eachBelow 64 (fun o t =>
    let d := t.bit (Reg.drvOutStat o) 3 && decide (t.useOf o = 0)
    let it := t.itSquared o
    let t1 := (t.setV .fuseTh o (it.1 * 2 ^ 15 / it.2 + 1 : Nat)).hw (Reg.drvOutStat o) (8 * d.toNat)
    let t2 := ((t1.hwf (Reg.drvOutHeat o) 0 32 (t1.heat o)).setV .retryAt o 0).setV .driveFault o 0
    let t3 := ((t2.hwf (Reg.drvOutCfg o) 0 2 (t2.useOf o)).hw (Reg.drvOutCnt o) 0).hw (Reg.drvOutMeas o) 0
    drvFaults o (drvFaultSum o (drvRefresh o (t3.setV .pulse o 0))))
  (eachBelow 8 (fun b t => ((t.hw (Reg.drvBankStat b) 0).hw (Reg.drvBankCnt b) 0).hw (Reg.drvBankMax b) 0)
    { s with clamps := [] })

end State
end Sys2Proof.Machine
end

