-- ==== Sys2Proof/Machine/Saf.lean ====
section
/-! DEFINITION. The safety island (11_safety_functions.md): trip inputs and outputs, channels, feed, insulation and residual
current, closing and opening, dark pulses, proof tests, releases and the safety parameter set. -/
namespace Sys2Proof.Machine.State

/-- STALLS, COMMON, EN, LATCH and FILTER of trip input k in the active set (R316). -/
def tinCfg (s : State) (k : Nat) : Nat := s.safeRd (Reg.safTin k)

/-! The copies of both channels (R191, R285, R311). -/

/-- Pages of the set: SAF pages 1, 2, 3 and 16 to 47. -/
def setPages : List Nat := [0x901, 0x902, 0x903] ++ (List.range 32).map fun t => 0x910 + t

/-- The slots of the set, in ascending address. -/
def setSlots (page : Nat) : List Nat :=
  ((List.range 56).map fun k => page * 0x1000 + 0x40 + 8 * k).filter fun a =>
    match accessOf a with
    | some (.rw _) => true
    | _ => false

/-- The bytes that the CRC-32C of a set is taken over (R311). -/
def setBytes (rdSlot : Nat → Nat) : List Byte := (setPages.flatMap setSlots).flatMap fun a => toLE 6 (rdSlot a)

/-- CRC-32C of a set (R311). -/
def setCrc (rdSlot : Nat → Nat) : Nat := crc32c (setBytes rdSlot)

/-- The CRC-32C that a channel with copy `fl` of the fast limits sends (R285). -/
def channelCrc (fl : List (Nat × Word)) (s : State) : Nat :=
  crc32c (setBytes s.safeRd ++ (List.range 256).flatMap fun i => toLE 6 (Tab.get resetVal fl (Reg.pqFlCfg i)).toNat)

/-- An accepted write of PQ_FL_CFG is copied to both channels (R191). -/
def fastCopy (i : Nat) (s : State) : State :=
  let put (l : List (Nat × Word)) := Tab.put natLt resetVal l (Reg.pqFlCfg i) (BitVec.ofNat 48 (s.rd (Reg.pqFlCfg i)))
  { s with fastX := put s.fastX, fastY := put s.fastY }

/-- Both channels load the fast limits from MRAM (R191, R312). -/
def fastLoad (s : State) : State :=
  let l := s.slots.filter fun (e : Nat × Word) => decide (0x541 ≤ e.1 / 0x1000 ∧ e.1 / 0x1000 ≤ 0x548 ∧ 0x40 ≤ e.1 % 0x1000
    ∧ e.1 % 0x1000 < 0x240 ∧ e.1 % 0x10 = 0)
  { s with fastX := l, fastY := l }


/-! Sources and releases (R305). -/

/-- A source of a held trip code is present (R305). -/
def tripSource (s : State) (t : Trip) : Bool :=
  match t.code with
  | 0x01 | 0x02 => s.bit Reg.safTinStat (16 + t.detail)
  | 0x0A => s.outFault t.detail || decide (s.v .driveFault t.detail = 1) || s.bankFault (t.detail / 8)
  | 0x0B => s.bit (if t.detail < 32 then Reg.safTpFailLo else Reg.safTpFailHi) (t.detail % 32)
  | 0x08 => !s.idleProved t.stall
  | 0x0C =>
    if s.fd (Reg.stlMode t.stall) 8 8 = 0x28 then !s.idleProved t.stall else decide (s.counter < t.at_ + 100000000)
  | 0x0D => s.commonSafe
  | _ => decide (s.counter < t.at_ + 100000000)

/-- Both channels look at every source: one that is present restarts the 100 ms of R305. -/
def sourcesSeen (s : State) : State :=
  let s1 := each s.trips (fun t u => if u.tripSource t then u.setV .quiet t.stall u.counter else u) s
  if s1.commons.any (fun c => (decide (c.cause = 6) && s1.bit Reg.safTinStat (16 + c.detail))
      || (decide (c.cause = 7) && decide (s1.v .linkCommon c.detail = 1))) then s1.setV .quiet 32 s1.counter
  else s1

/-- For 100 ms both channels have agreed (R305). -/
def agreed (s : State) : Bool :=
  decide (s.v .disagreeAt = 0) && decide (s.v .agreeFrom + 100000000 ≤ s.counter)

/-- A condition that cleared at the instant `t - 1` has been clear for 100 ms (R304). -/
def clearFor (s : State) (t : Int) : Bool := decide (t ≠ 0) && decide (t - 1 + 100000000 ≤ s.counter)

/-- The feed runs: a record in sequence within 20 ms (R291). -/
def feedRuns (s : State) : Bool := decide (s.v .feedAt ≠ 0) && decide (s.counter ≤ s.v .feedAt - 1 + 20000000)

/-- A cause of the common safe state may be released (R304, R312). -/
def commonCleared (s : State) (c : Common) : Bool :=
  match c.cause with
  | 1 | 2 => s.feedRuns && !s.bit Reg.jnlStat 5 && s.agreed && decide (s.v .devReset = 0)
  | 3 | 4 => s.bit Reg.safState (c.cause - 2) && s.agreed && decide (s.v .devReset = 0)
  | 5 => s.agreed
  | 6 => !s.bit Reg.safTinStat (16 + c.detail) && decide (s.v .quiet 32 + 100000000 ≤ s.counter) && s.agreed
  | 7 => decide (s.v .linkCommon c.detail = 0) && decide (s.v .quiet 32 + 100000000 ≤ s.counter) && s.agreed
  | 8 => decide (c.at_ + 100000000 ≤ s.counter) && s.agreed
  | 9 =>
    s.bit Reg.metCoreStat 0 && s.feedRuns && s.clearFor (s.v .feedFrom) && !s.bit Reg.safState 5
      && decide (s.v .fastFrom + 100000000 ≤ s.counter) && s.agreed
  | 0xA => decide (s.v .refclkLost = 0) && s.clearFor (s.v .refclkOk) && s.agreed
  | 0xB => decide (s.v .railBad = 0) && s.clearFor (s.v .railClear) && s.agreed
  | 0xC => !s.space 3 && decide (s.v .granaryBad = 0) && s.clearFor (s.v .granaryClear) && s.agreed
  | 0xD => (decide (s.partState 0 = 0) || decide (s.partState 1 = 0)) && s.agreed
  | _ => false

/-- The enables that follow a release: FREE outputs (R254), and the locks of stalls that are not tripped. In the common safe state none
returns (R304). -/
def enablesReturn (s : State) : State :=
  if s.commonSafe then s
  else
    eachBelow 64 (fun o t =>
      match t.userOf o with
      | none => giveFree o t
      | some (st, 2) => if t.tripped st ∨ t.v .pulse o ≠ 0 then t else setEnables o true t
      | _ => t) s

/-- A stall is no longer tripped (R303, R305). -/
def untrip (stall : Nat) (s : State) : State :=
  let st := Reg.safStStat stall
  let s1 := ((s.hwb st 0 false).hwb st 8 false).hwb Reg.safTripped stall false
  (enablesReturn (lockRefresh stall s1)).tripOuts

/-- A stall trip is released (R305); in the common safe state every stall counts as tripped with COMMON (R304). -/
def releaseStall (stall : Nat) (s : State) : State :=
  let mine := s.trips.filter fun t => decide (t.stall = stall)
  if mine = [] ∨ s.tripped stall = false ∨ s.commonSafe then s
  else if mine.any (fun t => s.tripSource t) ∨ s.agreed = false then s
  else if s.counter < s.v .quiet stall + 100000000 ∨
      mine.any (fun t => decide (t.code ∉ [0x01, 0x02, 0x08, 0x0A, 0x0B] ∧ s.counter < t.at_ + 200000000)) then s
  else
    let q := s.safetySeq
    let c := s.rd (Reg.safStCause stall)
    let s1 := untrip stall { s with trips := s.trips.filter fun t => decide (t.stall ≠ stall) }
    let s2 := submit (rec1 9 8 3 stall 0 [(1, field c 0 8), (1, field c 8 8), (4, 2 ^ stall)]) s1
    faultMove 0x0901 stall 1 (2 ^ stall) false q s2

/-- The common safe state ends: every stall tripped by it alone is free again (R304, R305). -/
def commonEnds (s : State) : State :=
  let held := s.trips.filter fun t => decide (t.code ≠ 0x0D)
  let s1 := { s with trips := held }.hwb Reg.safState 0 false
  let s2 := eachBelow 32 (fun t u =>
    if u.tripped t && !held.any (fun x => decide (x.stall = t)) then untrip t u else u) s1
  ((enablesReturn s2).tripOuts).evt 0x900 17

/-- The causes of the common safe state that have cleared are released, each with its record (R305, R563). -/
def releaseCommon (s : State) : State :=
  let gone := s.commons.filter fun c => s.commonCleared c
  let rest := s.commons.filter fun c => !s.commonCleared c
  if gone = [] then s
  else
    let ends := decide (rest = [])
    let free := ((List.range 32).map fun t =>
      if ends && s.tripped t && !s.trips.any (fun x => decide (x.stall = t ∧ x.code ≠ 0x0D)) then 2 ^ t else 0).sum
    let s0 := { s with commons := rest }
    let s1 := if ends then commonEnds s0
      else match rest with
        | c :: _ => (s0.hwf Reg.safState 8 8 c.cause).hwf Reg.safState 16 8 c.detail
        | [] => s0
    let s2 := if gone.any (fun c => decide (c.cause = 5)) then s1.hwb Reg.safState 3 false else s1
    each gone (fun c u =>
      let q := u.safetySeq
      faultMove 0x0902 c.cause 2 0 false q
        (submit (rec1 9 8 5 0xFFFF 0 [(1, c.cause), (1, c.detail), (4, if ends then free else 0)]) u)) s2

/-- SAFETY_RELEASE (R305): a stall's trip, or the common causes. -/
def safetyRelease (target : Option Nat) (s : State) : State :=
  match target with
  | some t => releaseStall (t % 32) (sourcesSeen s)
  | none => releaseCommon (sourcesSeen s)

/-! Trip inputs (R287 to R289). -/

/-- The TRIP_INPUT record (R563): 0 deasserted, 1 asserted, 2 CHATTER entered, 3 CHATTER left. -/
def tinRec (k st : Nat) (s : State) : State :=
  let how := (s.bit Reg.safTinStat k).toNat + 2 * (decide (s.v .tinLink k ≠ 0)).toNat + 4 * (s.bit Reg.safTinLatch k).toNat
  submit (rec1 9 8 7 k 0 [(1, 0), (1, k), (4, field (s.tinCfg k) 0 32), (1, st), (1, how)]) s

/-- The logical state of trip input k (R288, R289). -/
def tinLogical (s : State) (k : Nat) : Bool :=
  let en := maskBit (s.tinCfg k) 33
  (en && (decide (s.v .tinFilt k = 1) || s.bit Reg.safTinStat (32 + k))) || decide (s.v .tinLink k ≠ 0)
    || s.bit Reg.safTinLatch k

/-- A logical assertion acts on its scope (R288). -/
def tinScope (k : Nat) (s : State) : State :=
  let c := s.tinCfg k
  let s1 := tripMask (field c 0 32) 1 k s
  if maskBit c 32 then commonOnce 6 k s1 else s1

/-- Bring the logical state of trip input k in line with what decides it (R288, R289). -/
def tinRefresh (k : Nat) (s : State) : State :=
  let now := s.tinLogical k
  if s.bit Reg.safTinStat (16 + k) = now then s.tripOuts
  else if now then
    let s1 := s.hwb Reg.safTinStat (16 + k) true
    let s2 := if maskBit (s1.tinCfg k) 34 then s1.hwb Reg.safTinLatch k true else s1
    tinScope k (tinRec k 1 ((s2.tripOuts).evt 0x901 (16 + k)))
  else tinRec k 0 ((s.hwb Reg.safTinStat (16 + k) false).tripOuts)

/-- TRIP_IN_CHANGE (R287, R288): the pins are active low. Without a filter an assertion acts at once. -/
def tripInChange (k : Nat) (high : Bool) (s : State) : State :=
  let low := !high
  let s0 := sourcesSeen s
  if s0.bit Reg.safTinStat k = low then s0
  else
    let keep := (s0.tinChanges ++ [(k, s0.counter)]).filter fun x => decide (s0.counter < x.2 + 1000000000)
    let s1 := (({ s0 with tinChanges := keep }).hwb Reg.safTinStat k low).setV .tinPinAt k s0.counter
    let direct := decide (field (s1.tinCfg k) 35 8 = 0)
    tinRefresh k (s1.setV .tinFilt k (if low && direct then 1 else 0))

/-- TRIP_FILTER_EXPIRY (R288): the pin has been asserted for FILTER µs. -/
def tripFilter (k : Nat) (s : State) : State :=
  let f := field (s.tinCfg k) 35 8
  if s.bit Reg.safTinStat k ∧ s.v .tinPinAt k + (f * 1000 : Nat) ≤ s.counter then tinRefresh k (s.setV .tinFilt k 1) else s

/-- CHATTER (R289): more than 10 changes of level in 1 s. -/
def chatter (k : Nat) (s : State) : State :=
  let n := (s.tinChanges.filter fun x => decide (x.1 = k ∧ s.counter < x.2 + 1000000000)).length
  if 10 < n ∧ maskBit (s.tinCfg k) 33 ∧ s.bit Reg.safTinStat (32 + k) = false then
    let s1 := s.hwb Reg.safTinStat (32 + k) true
    tinRefresh k (tinRec k 2 s1)
  else s

/-- CHATTER_END (R289): stable for 1 s. -/
def chatterEnd (k : Nat) (s : State) : State :=
  if s.bit Reg.safTinStat (32 + k) ∧ s.v .tinPinAt k + 1000000000 ≤ s.counter then
    tinRefresh k (tinRec k 3 ((sourcesSeen s).hwb Reg.safTinStat (32 + k) false))
  else s

/-- ACK_TRIP (R288). -/
def ackTrip (k : Nat) (s : State) : State := tinRefresh k ((sourcesSeen s).hwb Reg.safTinLatch k false)

/-- TRIP_OUT_HOLD_END (R290): MIN_MS after its last source has gone. -/
def tripOutHoldEnd (j : Nat) (s : State) : State :=
  let s1 := tripOutRefresh j s
  let t := s1.v .toutGone j
  if t ≠ 0 ∧ t - 1 + (field (s1.safeRd (Reg.safTout j)) 20 8 * 1000000 : Nat) ≤ s1.counter then
    (s1.hwb Reg.safToutStat j false).setV .toutGone j 0
  else s1

/-! Closing, opening and feedback (R295 to R297). -/

/-- Every mapped feedback has read open for FB_FILT with the enables withdrawn (R374). -/
def confirmedOpen (s : State) (stall : Nat) : Bool :=
  let f := field (s.safeRd (Reg.safStCtr stall)) 20 8 * 1000000
  !s.enabled stall && decide (s.v .openAt stall = 0 ∨ s.v .openAt stall - 1 + f ≤ s.counter)
    && (s.fbsOf stall).all fun i => decide (s.v .fb i = 0) && decide (s.v .fbSince i + f ≤ s.counter)

/-- A mapped feedback has read at a level for FB_FILT. -/
def fbHeld (s : State) (stall : Nat) (level : Int) : Option Nat :=
  let f := field (s.safeRd (Reg.safStCtr stall)) 20 8 * 1000000
  (s.fbsOf stall).find? fun i => decide (s.v .fb i = level) && decide (s.v .fbSince i + f ≤ s.counter)

/-- The first mapped feedback that reads closed (1) or open (0). -/
def fbAt (s : State) (stall : Nat) (level : Int) : Nat := ((s.fbsOf stall).find? fun i => decide (s.v .fb i = level)).getD 0

/-- A dark pulse runs on an output of the stall, its lock among them (R295). -/
def pulseNear (s : State) (stall : Nat) : Bool :=
  (s.outsOf stall ++ s.lockOf stall).any fun o => decide (s.v .pulse o ≠ 0)

/-- The stall is confirmed open (R374): its session's span may end (R395). -/
def confirmOpen (stall : Nat) (s : State) : State :=
  if s.v .confirmed stall = 0 ∧ s.confirmedOpen stall then
    let c := s.counter
    let s1 := { s with sessions := s.sessions.map fun (x : Sess) =>
      if x.stall = stall ∧ x.closedAt ≠ 0 ∧ x.openAt = 0 then { x with openAt := c + 1 } else x }
    (lockRefresh stall (((instantReadings stall s1).setV .confirmed stall 1).setV .confAt stall (c + 1))).trigger stall .contactors
  else s

/-- Feedback supervision of a stall (R296): closed after a close, opened unasked, closed unasked. -/
def fbSupervise (stall : Nat) (s : State) : State :=
  let st := Reg.safStStat stall
  let m := s.stMap stall
  let s1 := (s.hwb st 1 (maskBit m 6 && decide (s.v .fb (field m 16 6) = 0))).hwb st 2
    (maskBit m 14 && decide (s.v .fb (field m 24 6) = 0))
  let openMs := field (s1.safeRd (Reg.safStCtr stall)) 10 10 * 1000000
  if s1.enabled stall then
    if s1.v .closeDone stall = 0 then
      if s1.fbAllClosed stall then (s1.setV .closeDone stall 1).trigger stall .contactors else s1
    else
      match s1.fbHeld stall 0 with
      | some i => trip stall 9 i s1
      | none => s1
  else
    let s2 := confirmOpen stall (lockRefresh stall s1)
    if s2.v .openAt stall ≠ 0 ∧ s2.counter < s2.v .openAt stall - 1 + openMs then s2
    else if s2.bit st 5 then s2
    else
      match s2.fbHeld stall 1 with
      | some i => trip stall 8 i s2
      | none => s2

/-- FB_CLOSE_TIMEOUT (R296): CLOSE_MS after a close. -/
def fbCloseTimeout (stall : Nat) (s : State) : State :=
  let t := s.v .closeAt stall
  if s.enabled stall ∧ t ≠ 0 ∧ t - 1 + (field (s.safeRd (Reg.safStCtr stall)) 0 10 * 1000000 : Nat) ≤ s.counter
      ∧ s.v .closeDone stall = 0 ∧ s.fbAllClosed stall = false then trip stall 7 (s.fbAt stall 0) s
  else s

/-- FB_OPEN_TIMEOUT (R296, R395): OPEN_MS after a withdrawal; the session's span ends UNCONFIRMED. -/
def fbOpenTimeout (stall : Nat) (s : State) : State :=
  let t := s.v .openAt stall
  if s.enabled stall = false ∧ t ≠ 0 ∧ t - 1 + (field (s.safeRd (Reg.safStCtr stall)) 10 10 * 1000000 : Nat) ≤ s.counter
      ∧ s.fbAllOpen stall = false then
    let c := s.counter
    trip stall 8 (s.fbAt stall 1) (instantReadings stall { s with sessions := s.sessions.map fun (x : Sess) =>
      if x.stall = stall ∧ x.closedAt ≠ 0 ∧ x.openAt = 0 then { x with openAt := c + 1, flags := setField x.flags 9 1 1 } else x })
  else s

/-- A request of a partition whose CAUSE_SEQ is not above the last one acted on is discarded and counted (R359). -/
def causeFresh (s : State) (stall kind q : Nat) : Bool := decide (s.v .causeSeq (2 * stall + kind) < q)

/-- A drive fault on a contactor output of the stall (R295). -/
def contactorFault (s : State) (stall : Nat) : Bool :=
  (s.outsOf stall).any fun o => s.outFault o || decide (s.v .driveFault o = 1) || s.bankFault (o / 8)

/-- The island accepts a close (R295). -/
def closeAllowed (s : State) (stall : Nat) : Bool :=
  decide (s.mode stall = 3) && !s.tripped stall && !s.commonSafe && s.confirmedOpen stall && !s.pulseNear stall
    && !s.bit (Reg.safStStat stall) 5 && !s.contactorFault stall

/-- Both channels enable DRV_A and DRV_B together, and DRV takes up the demand (R295). -/
def closeContactors (stall : Nat) (s : State) : State :=
  let st := Reg.safStStat stall
  let s1 := (s.outsOf stall).foldl (fun t o => setDemand o true (setEnables o true t)) s
  let s2 := (((s1.hwb st 4 true).hwb st 3 true).setV .closeAt stall (s1.counter + 1)).setV .openAt stall 0
  let s3 := (((s2.setV .closeDone stall 0).setV .confirmed stall 0).setV .openReq stall 0).inc (Reg.safStCnt stall) 0 16 1
  instantReadings stall (sessMap stall (fun x => { x with
    closedAt := if x.closedAt = 0 then s3.counter + 1 else x.closedAt, openAt := 0, ended := false,
    flags := setField x.flags 9 1 0 }) s3)

/-- The outcome of a partition's request to the island is journalled (R10): the request, whether it was accepted and its CAUSE_SEQ. The
spec states no CODE for it (log entry 6). `kind`: 0 close, 1 normal open, 2 forced open. -/
def requestRec (p : Partition) (stall kind : Nat) (ok : Bool) (q : Nat) (s : State) : State :=
  let actor := match p with
    | .a => 3
    | .b => 7
  submit (rec1 9 3 (Config.recordCode 3 kind % 2 ^ 12) stall actor [(2, 0), (2, ok.toNat), (2, kind), (6, q)]) s

/-- CLOSE_REQUEST (R295, R359): a request of a partition that does not lead, is fenced or names a stale cause is
discarded. -/
def closeRequest (p : Partition) (stall q : Nat) (s : State) : State :=
  if s.leads p stall = false then s
  else if s.causeFresh stall 0 q = false then s.inc Reg.jnlSuppr 32 16 1
  else
    let s1 := s.setV .causeSeq (2 * stall) q
    let ok := s1.closeAllowed stall
    let s2 := requestRec p stall 0 ok q s1
    if ok then fbSupervise stall (closeContactors stall s2) else s2

/-- OPEN_REQUEST (R297, R359): a normal request waits for a feed record with every current below OPEN_I_LIM; a forced one and
a trip withdraw at once. -/
def openRequest (p : Partition) (stall : Nat) (kind : OpenKind) (q : Nat) (s : State) : State :=
  match kind with
  | .trip => fbSupervise stall (withdraw stall s)
  | k =>
    if s.leads p stall = false then s
    else if s.causeFresh stall 1 q = false then s.inc Reg.jnlSuppr 32 16 1
    else
      let s1 := requestRec p stall (if k = .normal then 1 else 2) true q (s.setV .causeSeq (2 * stall + 1) q)
      if k = .normal then (if s1.enabled stall then s1.setV .openReq stall 1 else s1)
      else fbSupervise stall (withdraw stall s1)

/-- DRIVE_FAULT (R296): the readback of an output disagrees with its gate state. A FREE output reduces redundancy (R275). -/
def driveFault (o : Nat) (s : State) : State :=
  let s1 := s.setV .driveFault o 1
  match s1.userOf o with
  | some (t, _) => trip t 0x0A o s1
  | none => drvFaults o s1

/-! Channels (R285). -/

/-- DISAGREE (R285): a difference that has persisted for 1 ms. -/
def disagree (s : State) : State :=
  let t := s.v .disagreeAt
  if t ≠ 0 ∧ t - 1 + 1000000 ≤ s.counter ∧ s.bit Reg.safState 3 = false then
    commonOnce 5 0 (((s.hwb Reg.safState 3 true).inc Reg.safChCnt 0 16 1).evt 0x900 20)
  else s

/-- CHANNEL_LOSS (R285, R286): a lockstep error or an oscillator deviation of channel X (0) or Y (1). -/
def channelLoss (c : Nat) (osc : Bool) (s : State) : State :=
  let s1 := (s.hwb Reg.safState (1 + c) false).hwb Reg.safChStat (8 * c + osc.toNat) false
  fault 0x0903 c 2 0 true (commonOnce (3 + c) 0 s1)

/-! Feed, insulation and residual current (R291 to R294). -/

/-- Consecutive blocks after which condition k of R294 trips. -/
def rcBlocks : Nat → Nat
  | 0 => 29
  | 1 => 14
  | 2 => 3
  | 3 => 999
  | _ => 29

/-- Condition k of R294 on a block: RMS and mean in 0.1 mA, RC_AC_LIM in mA, RC_DC_LIM in 0.1 mA. -/
def rcCond (cfg rms : Nat) (mean : Int) (k : Nat) : Bool :=
  let ac := field cfg 0 16 * 10
  let dc := field cfg 16 16
  match k with
  | 0 => decide (ac ≤ rms)
  | 1 => decide (2 * ac ≤ rms)
  | 2 => decide (5 * ac ≤ rms)
  | 3 => decide (dc ≤ mean.natAbs)
  | _ => decide (10 * dc ≤ mean.natAbs)

/-- A count of R294 has reached its limit: AC or DC. -/
def rcReached (s : State) (stall : Nat) (dc : Bool) : Bool :=
  (if dc then [3, 4] else [0, 1, 2]).any fun k => decide ((rcBlocks k : Int) ≤ s.v .rcCount (5 * stall + k))

/-- RESIDUAL_CURRENT_TRIP (R294). -/
def residualTrip (stall : Nat) (dc : Bool) (s : State) : State :=
  if maskBit (s.safeRd (Reg.safStRc stall)) 32 && s.rcReached stall dc then trip stall (if dc then 6 else 5) 0 s else s

/-- What the feed record of a 10 ms block carries for one stall (R291); none where a value is not GOOD. -/
structure FeedStall where
  /-- the largest mean magnitude of its power-carrying currents, mA -/
  current : Option Nat
  /-- means of ISO_P_IN and ISO_N_IN, 2^-23 mV -/
  iso : Option (Int × Int)
  /-- RMS, mean removed, and mean of RC_IN, 0.1 mA -/
  rc : Option (Nat × Int)
deriving DecidableEq, Repr

/-- Where the sums of an input over block `b` stand; none without a sample, or with one that is not GOOD. -/
def feedSums (s : State) (i b : Nat) : Option Nat :=
  let x := 2 * i + b % 2
  if i < 256 ∧ s.v .feedIn x = (b + 1 : Nat) ∧ s.v .feedN x ≠ 0 ∧ s.v .feedBad x = 0 then some x else none

/-- Mean of an input over a block, 2^-23 of its unit. -/
def feedMean (s : State) (i b : Nat) : Option Int :=
  (s.feedSums i b).map fun x => s.v .feedSum x * (s.kfs i : Nat) / s.v .feedN x

/-- Mean magnitude of a current input over a block, mA. -/
def feedCurrent (s : State) (i b : Nat) : Option Nat :=
  (s.feedSums i b).map fun x => s.n .feedAbs x * s.kfs i / (s.n .feedN x * 2 ^ 23)

/-- RMS, mean removed, and mean of an input over a block, 0.1 mA. -/
def feedRc (s : State) (i b : Nat) : Option (Nat × Int) :=
  (s.feedSums i b).map fun x =>
    let n := s.n .feedN x
    let sum := s.v .feedSum x
    let var := n * s.n .feedSq x - sum.natAbs * sum.natAbs
    (isqrt (var * (s.kfs i * 10) ^ 2 / (n * n * 2 ^ 46)), (sum * (s.kfs i * 10 : Nat)).tdiv (n * 2 ^ 23 : Nat))

/-- What the feed record of block `b` carries for a stall (R291). -/
def feedStall (s : State) (t b : Nat) : FeedStall where
  current :=
    let m := s.stallMp t
    let ins := if m < 64 then s.currentInputs m else []
    ins.foldl (fun x i => match x, s.feedCurrent i b with
      | some a, some c => some (max a c)
      | _, _ => none) (some 0)
  iso :=
    let a := s.safeRd (Reg.safStInputs t)
    match s.feedMean (field a 0 9) b, s.feedMean (field a 12 9) b with
    | some p, some n => some (p, n)
    | _, _ => none
  rc := s.feedRc (field (s.safeRd (Reg.safStInputs t)) 24 9) b

/-- A block of RC_IN (R294). -/
def rcBlock (stall : Nat) (f : FeedStall) (s : State) : State :=
  let cfg := s.safeRd (Reg.safStRc stall)
  match f.rc with
  | none => s
  | some x =>
    let s1 := s.hw (Reg.safStRcMeas stall) (saturate 16 x.1 + saturate 16 x.2.natAbs * 2 ^ 16)
    if maskBit cfg 32 then
      let s2 := eachBelow 5 (fun k t =>
        if rcCond cfg x.1 x.2 k then t.addV .rcCount (5 * stall + k) 1 else t.setV .rcCount (5 * stall + k) 0) s1
      residualTrip stall true (residualTrip stall false s2)
    else s1

/-- ISO_R of R293 from the sums of a low half (P0, N0) and a high half (P1, N1), in exact arithmetic; none where the formula
divides by 0. Bridge arms in kΩ. -/
def isoR (p0 n0 p1 n1 : Int) (sym asym : Nat) : Option Nat :=
  let d := asym * (n1 * p0 - p1 * n0)
  if d = 0 ∨ n0 = 0 ∨ sym = 0 then none
  else
    let k : Int := if d < 0 then -1 else 1
    let m := max (k * (p1 * n0)) (k * (p0 * p1))
    let margin := m * sym - k * d
    some (if margin ≤ 0 then 0xFFFFFFFF else saturate 32 (k * d * sym / margin).toNat)

/-- The evaluation at the end of a high half-period that follows a low one (R293). -/
def isoEvaluate (stall : Nat) (s : State) : State :=
  let br := s.safeRd (Reg.safStBridge stall)
  let ins := s.safeRd (Reg.safStIns stall)
  let c1 := s.v .isoN stall
  let c0 := s.v .isoLowCnt stall
  if c0 = 0 ∨ c1 = 0 ∨ s.v .isoVoid stall = 1 then s
  else
    let p1 := s.v .isoSumP stall
    let n1 := s.v .isoSumN stall
    let x := isoR (s.v .isoLowP stall) (s.v .isoLowN stall) p1 n1 (field br 0 16) (field br 16 16)
    let r := x.getD (s.draw 32)
    let s0 := if x = none then s.drawn else s
    let volts := saturate 16 ((p1 + n1) / (c1 * (1000 * 2 ^ 23))).toNat
    let s1 := s0.hw (Reg.safStIso stall) (r + volts * 2 ^ 32)
    let vmax := s1.fd (Reg.vhsDcLim stall) 0 16
    let warn := decide (r * 1000 < field ins 16 16 * vmax)
    let was := s1.bit (Reg.safStStat stall) 7
    let s2 := s1.hwb (Reg.safStStat stall) 7 warn
    let s3 := if warn && !was then
        submit (rec1 9 8 9 stall 0 [(1, 0), (1, 0), (4, 2 ^ stall), (4, r)]) (s2.evt (0x910 + stall) 17)
      else s2
    if r * 1000 < field ins 0 16 * vmax then trip stall 4 0 s3 else s3

/-- The record of a block counts toward the half-period being summed (R293). -/
def isoAdd (stall : Nat) (f : FeedStall) (s : State) : State :=
  match f.iso with
  | some x => ((s.addV .isoSumP stall x.1).addV .isoSumN stall x.2.natAbs).addV .isoN stall 1
  | none => s.setV .isoVoid stall 1

/-- A half-period is complete (R293): a high one evaluates, the sums of a low one are kept for the next high one. -/
def isoClose (stall : Nat) (high : Bool) (s : State) : State :=
  let s1 := if high then (isoEvaluate stall s).setV .isoLowCnt stall 0
    else ((s.setV .isoLowP stall (s.v .isoSumP stall)).setV .isoLowN stall (s.v .isoSumN stall)).setV .isoLowCnt stall
      (if s.v .isoVoid stall = 0 then s.v .isoN stall else 0)
  ((((s1.setV .isoSumP stall 0).setV .isoSumN stall 0).setV .isoN stall 0).setV .isoVoid stall 0).setV .isoPrev stall 0

/-- Block `b` of the pole voltages (R293): it counts where it began at least ISO_SETTLE x 10 ms after the change that opened its
half-period. The record of the last block of a half-period comes after INS_SWn has changed again, and completes it. -/
def isoBlock (stall b : Nat) (f : FeedStall) (s : State) : State :=
  let settle : Int := field (s.safeRd (Reg.safStIns stall)) 32 8
  let now := s.v .insK stall
  let before := s.v .isoPrev stall
  if s.insAllowed stall ∧ s.bit (Reg.stlIns stall) 1 ∧ now ≠ 0 then
    let s1 := if before ≠ 0 ∧ before - 1 + settle ≤ b ∧ (b : Int) < now - 1 then isoAdd stall f s else s
    let s2 := if before ≠ 0 ∧ now - 1 ≤ b + 1 then isoClose stall (!s.bit (Reg.stlIns stall) 0) s1 else s1
    if now - 1 + settle ≤ b then isoAdd stall f s2 else s2
  else s

/-- The currents of a stall (R297): a normal open request withdraws once every one is below OPEN_I_LIM. -/
def currentBlock (stall : Nat) (f : FeedStall) (s : State) : State :=
  match f.current with
  | none => s
  | some mx =>
    let s1 := s.setV .feedI stall mx
    if s1.v .openReq stall = 1 ∧ mx < field (s1.safeRd (Reg.safStCtr stall)) 28 16 * 100 then
      fbSupervise stall (withdraw stall s1)
    else s1

/-- Hours since the last passed proof test (R319). -/
def proofHours (s : State) (stall : Nat) : Nat := saturate 32 ((s.counter - s.v .proofBase stall) / 3600000000000).toNat

/-- The channels evaluate block `b` (R293, R294, R297). -/
def feedBlock (b : Nat) (s : State) : State :=
  eachBelow 32 (fun i t =>
    let f := s.feedStall i b
    currentBlock i f (rcBlock i f (isoBlock i b f (t.hwf (Reg.safStProofStat i) 16 32 (t.proofHours i))))) (s.setV .feedBlk 0 (b + 1))

/-- SAFETY_FEED_RECORD (R291): the record of the last whole 10 ms of the grid arrives with its sequence number; one out of sequence only
sets the reference. Without its core the metrology block sends none. -/
def feedRecord (seq : Nat) (s : State) : State :=
  if s.bit Reg.metCoreStat 0 = false ∨ s.v .ownerFault 4 = 1 then s
  else
    let inSeq := decide (s.v .feedAt = 0 ∨ s.bit Reg.safState 6 ∨ seq = s.n .feedSeq + 1)
    let s1 := s.setV .feedSeq 0 seq
    if inSeq then
      let s2 := s1.setV .feedAt 0 (s1.counter + 1)
      let s3 := if s2.v .feedFrom = 0 then s2.setV .feedFrom 0 (s2.counter + 1) else s2
      let s4 := s3.wrf Reg.safState 6 1 0
      let k := s4.gridNs / 10000000
      if k = 0 ∨ s4.v .feedBlk 0 = (k : Nat) then s4 else feedBlock (k - 1) s4
    else s1

/-- FEED_LOST (R291): no record in sequence for 20 ms. -/
def feedLost (s : State) : State :=
  if s.feedRuns ∨ s.bit Reg.safState 6 ∨ s.counter < 20000000 then s
  else commonOnce 9 0 ((s.hwb Reg.safState 6 true).setV .feedFrom 0 0)

/-- FAST_PATH_DOWN lasts more than 1 ms (R291). -/
def fastPathTimeout (s : State) : State :=
  if s.bit Reg.safState 5 ∧ s.v .fastDownAt + 999999 < s.counter then commonOnce 9 0 s else s

/-- OVERCURRENT_DECISION (R292). -/
def overcurrent (i : Nat) (s : State) : State :=
  let mine := (List.range 32).filter fun t => decide (s.stallMp t < 64) && decide (i ∈ s.currentInputs (s.stallMp t))
  if mine = [] then commonOnce 8 i s else each mine (fun t => trip t 3 i) s

/-- Half-period of INS_SWn in units of 10 ms (R214): INS_HALF in a cable check, 10 x INS_RUN_HALF in DELIVERING. -/
def insHalf (s : State) (stall : Nat) : Nat :=
  let cfg := s.rd (Reg.stlCfg stall)
  if s.v .cableChk stall = 1 then field cfg 16 8 else field cfg 24 8 * 10

/-- Number of the 10 ms grid instant in the cycle in progress; none where none falls in it (R214). -/
def gridTen (s : State) : Option Nat :=
  let p : Int := 10000000 * 2 ^ 16
  let k := (s.gridUnits 0 s.counter + p - 1) / p
  if k * p < s.gridUnits 0 (s.counter + 1000) then some k.toNat else none

/-- INS_SWn ends its half-period at grid instant `k` (R214, R293). The half-period is complete where the record of its last block has
come; else that record completes it. -/
def insFlip (stall k : Nat) (s : State) : State :=
  let high := s.bit (Reg.stlIns stall) 0
  let opened := s.v .insK stall
  let s1 := if s.v .isoPrev stall = 0 then s else isoClose stall (!high) s
  let s2 := if opened = 0 ∨ s1.v .feedBlk 0 = (k : Nat) then isoClose stall high s1 else s1.setV .isoPrev stall opened
  (insSw stall (!high) s2).setV .insK stall (k + 1)

/-- INS_SWn at a boundary whose cycle reaches the grid instant `o`, if any: it goes low once nothing asks for it. -/
def insStep (stall : Nat) (o : Option Nat) (s : State) : State :=
  match o with
  | none => s
  | some k =>
    if s.bit (Reg.stlIns stall) 1 = false then
      ((((insSw stall false s).setV .insK stall 0).setV .isoLowCnt stall 0).setV .isoN stall 0).setV .isoPrev stall 0
    else if s.v .insK stall ≠ 0 ∧ (k : Int) < s.v .insK stall - 1 + (s.insHalf stall : Nat) then s
    else insFlip stall k s

/-- INS_SW_TOGGLE (R214, R293): the output changes at grid instants alone. -/
def insToggle (stall : Nat) (s : State) : State := insStep stall s.gridTen s

/-! Dark pulses (R298 to R300). -/

/-- TP_PERIOD in ns (R317). -/
def tpPeriod (s : State) : Nat := field (s.safeRd Reg.safTpCfg) 16 6 * 1000000000

/-- The output is given dark pulses (R298). -/
def pulsed (s : State) (o : Nat) : Bool :=
  decide (s.useOf o ≠ 0) || maskBit (s.safeRd (if o < 32 then Reg.safTpEnLo else Reg.safTpEnHi)) (o % 32)

/-- An on transition postpones the pulse: within PULL_MS or SOFT_MS, within CLOSE_MS of a close, or PROVING (R299). -/
def transition (s : State) (o : Nat) : Bool :=
  let t := s.counter - s.v .pullStart o
  let md := s.fd (Reg.drvOutCfg o) 3 2
  let ramp := (if md = 1 then s.fd (Reg.drvOutEcon o) 0 10 else if md = 2 then s.fd (Reg.drvOutLamp o) 10 8 else 0) * 1000000
  decide (t < (ramp : Nat)) ||
    match s.userOf o with
    | some (st, _) =>
      s.bit (Reg.safStStat st) 5 || (decide (s.v .closeAt st ≠ 0) &&
        decide (s.counter < s.v .closeAt st - 1 + (field (s.safeRd (Reg.safStCtr st)) 0 10 * 1000000 : Nat)))
    | none => false

/-- The pulsing channel withdraws its enable: X in even periods, Y in odd ones (R298). -/
def pulseStart (o ch : Nat) (s : State) : State :=
  drvRefresh o ((((s.setV .pulse o (1 + ch)).setV .pulseWait o 0).setV .pulseAt o s.counter).hwb (Reg.drvOutStat o) (4 + ch) false)

/-- DARK_PULSE_DUE (R298 to R300): output n at n x TP_PERIOD / 64 after the start of each period, and once 1 s after a released output next
conducts. One that does not conduct is skipped without a verdict. -/
def pulseDue (o : Nat) (s : State) : State :=
  let p := s.tpPeriod
  let k := s.counter / p
  let due := k * p + o * p / 64
  if s.v .pulse o ≠ 0 ∨ s.pulsed o = false then s
  else if s.v .rePulse o = 1 ∧ s.conducts o ∧ s.v .pullStart o + 1000000000 ≤ s.counter ∧ s.transition o = false then
    pulseStart o (k % 2) (s.setV .rePulse o 0)
  else if due < s.counter ∨ s.counter + 1000 ≤ due ∨ s.v .pulsePer o = (k + 1 : Nat) then s
  else
    let s1 := s.setV .pulsePer o (k + 1)
    if s1.conducts o = false then s1
    else if s1.transition o then s1.setV .pulseWait o (s1.counter + 10000000 + 1)
    else pulseStart o (k % 2) s1

/-- DARK_PULSE_RETRY (R299): every 10 ms; a pulse still postponed at the end of its period is counted and dropped. -/
def pulseRetry (o : Nat) (s : State) : State :=
  let k := s.counter / s.tpPeriod
  if s.v .pulseWait o = 0 then s
  else if s.v .pulsePer o ≠ (k + 1 : Nat) then (s.setV .pulseWait o 0).inc Reg.safTpCnt 32 16 1
  else if s.counter < s.v .pulseWait o - 1 then s
  else if s.conducts o = false then s.setV .pulseWait o 0
  else if s.transition o then s.setV .pulseWait o (s.counter + 10000000 + 1)
  else pulseStart o (k % 2) s

/-- DARK_PULSE_END (R298, R300): TP_WIDTH after the withdrawal. A failed pulse of a lock trips its stall, which keeps the lock as R303
says. -/
def pulseEnd (o : Nat) (passed : Bool) (s : State) : State :=
  let ch := s.n .pulse o
  if ch = 0 ∨ s.counter < s.v .pulseAt o + (field (s.safeRd Reg.safTpCfg) 0 9 * 1000 : Nat) then s
  else
    let back := drvRefresh o ((s.setV .pulse o 0).hwb (Reg.drvOutStat o) (3 + ch) true)
    if passed then back.inc Reg.safTpCnt 0 32 1
    else
      let failed (t : State) : State := (t.hwb (tpFailSlot o) (o % 32) true).evt 0x902 16
      match s.userOf o with
      | some (t, 2) => trip t 0x0B o (failed back)
      | some (t, _) => trip t 0x0B o (failed s)
      | none => fault 0x0906 o 0 0 true (failed (dropEnables o s))

/-- RELEASE_OUT (R300): the output is pulsed again 1 s after it next conducts. -/
def releaseOut (o : Nat) (s : State) : State :=
  if s.bit (tpFailSlot o) (o % 32) then
    let s1 := ((sourcesSeen s).hwb (tpFailSlot o) (o % 32) false).setV .rePulse o 1
    if s1.useOf o = 0 then fault 0x0906 o 0 0 false (giveFree o s1) else s1
  else s

/-! Proof test (R301, R302). -/

/-- A proof test may begin on a stall: in IDLE and no other stall is proving (R301). -/
def proofFree (s : State) (stall : Nat) : Bool :=
  decide (s.mode stall = 1) && (List.range 32).all fun t => !s.bit (Reg.safStStat t) 5

/-- A proof test is due: PROOF_H hours since the last passed one, in IDLE for 60 s (R301). -/
def proofDue (s : State) (stall : Nat) : Bool :=
  let c := s.safeRd (Reg.safStProof stall)
  maskBit c 8 && decide (field c 0 8 ≤ s.proofHours stall) && decide (s.v .idleAt stall + 60000000000 ≤ s.counter)

/-- The mapped contactors of a stall, A then B: output and feedback input (R301). -/
def proofPairs (s : State) (stall : Nat) : List (Nat × Nat) := (s.outsOf stall).zip (s.fbsOf stall)

/-- Drive the outputs for step `k` of a proof test (R301): 0 both channels close, 1 held closed, 2 one channel withdraws, 3 held open. -/
def proofStep (stall k : Nat) (s : State) : State :=
  let s1 := (s.setV .prfStep stall (k + 1)).setV .prfAt stall s.counter
  match (s1.proofPairs stall)[k / 8]? with
  | none => s1
  | some (o, _) =>
    if k % 4 = 0 then setDemand o true (setEnables o true s1)
    else if k % 4 = 2 then drvRefresh o (s1.hwb (Reg.drvOutStat o) (4 + k % 8 / 4) false)
    else s1

/-- The proof test begins: PROVING is set, and the first contactor closes (R301). -/
def proofStart (stall : Nat) (s : State) : State := proofStep stall 0 (s.hwb (Reg.safStStat stall) 5 true)

/-- The test is over and every enable of it withdrawn. -/
def proofOver (stall : Nat) (s : State) : State :=
  withdraw stall ((s.setV .prfStep stall 0).hwb (Reg.safStStat stall) 5 false)

/-- A passed test (R302). -/
def proofPass (stall : Nat) (s : State) : State :=
  let s0 := proofOver stall s
  let s1 := ((s0.setV .proofBase stall s0.counter).inc (Reg.safStCnt stall) 32 16 1).evt (0x910 + stall) 18
  let s2 := proofRec stall 1 (s1.hwf (Reg.safStProofStat stall) 16 32 0)
  fault 0x0905 stall 0 0 false (s2.hwb (Reg.safStStat stall) 6 false)

/-- A failed test (R302): SAFE_WELDED where a contactor did not open, else SAFE_SAFETY. -/
def proofFail (stall fb : Nat) (welded : Bool) (s : State) : State :=
  proofRec stall 2 (tripAs stall 0x0C fb (if welded then 0x28 else 0x25) (proofOver stall s))

/-- The proof test in progress goes on with what the feedback inputs read and the time that has passed (R301, R302). -/
def proofGoOn (stall : Nat) (s : State) : State :=
  let k := s.n .prfStep stall - 1
  let ctr := s.safeRd (Reg.safStCtr stall)
  let past (ns : Nat) : Bool := decide (s.v .prfAt stall + (ns : Nat) ≤ s.counter)
  let held (i : Nat) : Bool := decide (s.v .fbSince i + (field ctr 20 8 * 1000000 : Nat) ≤ s.counter)
  if s.bit (Reg.safStStat stall) 5 = false then s
  else match (s.proofPairs stall)[k / 8]? with
    | none => proofPass stall s
    | some (o, i) =>
      let closed := decide (s.v .fb i = 1)
      match (s.proofPairs stall).find? fun x => decide (x.2 ≠ i) && decide (s.v .fb x.2 = 1) with
      | some x => proofFail stall x.2 false s
      | none =>
        match k % 4 with
        | 0 =>
          if closed then proofStep stall (k + 1) s
          else if past (field ctr 0 10 * 1000000) then proofFail stall i false s
          else s
        | 1 =>
          if !closed && held i then proofFail stall i false s
          else if past 50000000 then proofStep stall (k + 1) s
          else s
        | 2 =>
          if !closed then proofStep stall (k + 1) s
          else if past (field ctr 10 10 * 1000000) then proofFail stall i true s
          else s
        | _ =>
          if closed && held i then proofFail stall i false s
          else if past 20000000 then
            let s1 := if k % 8 = 7 then setDemand o false (dropEnables o s) else s
            if (k + 1) / 8 < (s1.proofPairs stall).length then proofStep stall (k + 1) s1 else proofPass stall s1
          else s

/-- PROOF_TEST (R301, R302): a due test begins; one in progress goes on. -/
def proofTest (stall : Nat) (s : State) : State :=
  if s.bit (Reg.safStStat stall) 5 then proofGoOn stall s
  else if s.proofFree stall && s.proofDue stall then proofStart stall s
  else s

/-- FB_CHANGE (R296, R301): a feedback input reads open or closed; the stalls that map it are supervised, or proved. -/
def fbChange (i : Nat) (open_ : Bool) (s : State) : State :=
  let lv : Int := if open_ then 0 else 1
  let s0 := sourcesSeen s
  let s1 := if s0.v .fb i = lv then s0 else (s0.setV .fb i lv).setV .fbSince i s0.counter
  eachBelow 32 (fun t u => if i ∈ u.fbsOf t then proofGoOn t (fbSupervise t u) else u) s1

/-- CHANNEL_EXCHANGE (R285): the verdicts and the CRCs of the channels' copies, compared every 100 µs; the channels evaluate their
rules. -/
def channelExchange (verdictsDiffer : Bool) (s : State) : State :=
  let differ := verdictsDiffer || (decide (s.fastX ≠ s.fastY) && decide (s.channelCrc s.fastX ≠ s.channelCrc s.fastY))
  let s0 := eachBelow 32 (fun t u => if u.fbsOf t = [] then u else proofGoOn t (fbSupervise t u)) (sourcesSeen s)
  if differ then (if s0.v .disagreeAt = 0 then s0.setV .disagreeAt 0 (s0.counter + 1) else s0)
  else if s0.v .disagreeAt ≠ 0 then (s0.setV .disagreeAt 0 0).setV .agreeFrom 0 s0.counter
  else s0

/-- PROOF_OVERDUE (R302): no passed test for PROOF_H + 24 hours. -/
def proofOverdue (stall : Nat) (s : State) : State :=
  let c := s.safeRd (Reg.safStProof stall)
  if maskBit c 8 ∧ field c 0 8 + 24 ≤ s.proofHours stall ∧ s.bit (Reg.safStStat stall) 6 = false then
    fault 0x0905 stall 0 0 true (s.hwb (Reg.safStStat stall) 6 true)
  else s

end Sys2Proof.Machine.State
end

