-- ==== Sys2Proof/Machine/Pq.lean ====
section
/-! DEFINITION. Power-quality events (07_power_quality.md): half-cycle RMS, sag, swell and interruption, and fast-path peaks.
Detectors are numbered 3 x metering point + kind (0 SAG, 1 SWELL, 2 INTERRUPTION), and 192 + input for PEAK. -/
namespace Sys2Proof.Machine

/-- A half-cycle of one voltage channel (R181): the sum of the squares of its samples, their number, and whether every one is GOOD or
SATURATED. -/
structure HalfChan where
  sumSq : Nat
  n : Nat
  good : Bool
deriving DecidableEq, Repr

/-- The half-cycle of a channel from the samples stamped from `a` to before `e`. -/
def halfChan (ws : List Wave) (a e c : Nat) : HalfChan :=
  ((ws.filter fun w => decide (a ≤ w.g) && decide (w.g < e)).foldl (fun x w =>
    ⟨x.sumSq + (w.val c * w.val c).natAbs, x.n + 1, x.good && decide (w.qual c ≤ 1)⟩) ⟨0, 0, true⟩)

/-- RMS of a channel's half-cycle, calibrated LSB (R181). -/
def HalfChan.rms (x : HalfChan) : Nat := if x.n = 0 then 0 else isqrt (x.sumSq / x.n)

/-- The channel's half-cycle is valid (R181). -/
def HalfChan.valid (x : HalfChan) : Bool := x.good && decide (x.n ≠ 0)

/-- The samples, oldest first, whose sign on CH0 differs from that of the sample before, zero counting as negative (R180). -/
def signChanges : List Wave → List Wave
  | a :: b :: t => if decide (0 < a.val 0) = decide (0 < b.val 0) then signChanges (b :: t) else b :: signChanges (b :: t)
  | _ => []

namespace State

/-- A duration under R185, µs: counter difference scaled with the base rate in force at its end. -/
def pqDuration (s : State) (c0 c1 : Nat) : Nat :=
  ((((c1 - c0 : Nat) : Int) * (2 ^ 48 + s.baseRateAt c1)) / (2 ^ 48 * 1000)).toNat

/-- KIND of a detector (R192). -/
def pqKind (d : Nat) : Nat := if d < 192 then d % 3 else 3

/-- SOURCE of a detector (R192). -/
def pqSource (d : Nat) : Nat := if d < 192 then d / 3 else d - 192

/-- Bytes 6 to 26 of the event sheaf (R192). -/
def pqBody (s : State) (d flags c ext dur : Nat) : List (Nat × Nat) :=
  let t := s.timeAt c
  [(1, pqSource d), (1, flags), (6, secsOf t), (4, nsOf t), (3, min ext 0xFFFFFF), (6, dur)]

/-- The sheaf of a record goes to EVT_Q (R192). -/
def pqSheaf (seq : Nat) (body : List (Nat × Nat)) (s : State) : State :=
  if s.bit Reg.pqCfg 6 then
    let q := s.fd Reg.pqCfg 0 6
    let bs := toLE 6 seq ++ toLE 26 (packLE body)
    if s.queFits q bs then quePlace q bs (s.inc Reg.pqQCnt 0 16 1)
    else (s.inc Reg.pqQCnt 16 16 1).evt 0x500 18
  else s

/-- A START (0x010) or END (0x011) record waits for the boundary (R186, R562). -/
def pqRecord (det at_ code flags c ext dur : Nat) (s : State) : State :=
  { s with pqDue := s.pqDue ++ [⟨det, at_, code, flags, c, ext, dur⟩] }

/-- A record with its sheaf and the number that PQ_MP_LAST_SEQ shows (R186, R192, R196). -/
def pqJournal (r : PqRec) (s : State) : State :=
  let body := s.pqBody r.det r.flags r.c r.ext r.dur
  let q := s.nextSeq
  let s1 := if r.code = 0x11 ∧ r.det < 192 then s.hw (Reg.pqMpLastSeq (r.det / 3)) q else s
  pqSheaf q body (submitAt r.c (rec1 5 7 r.code (pqSource r.det) 0 body) s1)

/-- Before in the journal: by boundary, then by metering point, then peaks (R186). -/
def pqBefore (x y : PqRec) : Bool :=
  let k (r : PqRec) : Nat := if r.det < 192 then r.det / 3 else r.det
  decide (x.at_ < y.at_) || (decide (x.at_ = y.at_) && decide (k x < k y))

/-- Put a record behind those it does not come before. -/
def pqInsert (x : PqRec) : List PqRec → List PqRec
  | [] => [x]
  | y :: t => if pqBefore x y then x :: y :: t else y :: pqInsert x t

/-- The records that wait are journalled (R186, R394). -/
def pqFlush (s : State) : State :=
  if s.pqDue = [] then s else each (s.pqDue.foldl (fun l x => pqInsert x l) []) pqJournal { s with pqDue := [] }

/-- A step of corrected time lies between two counter values (R185). -/
def stepBetween (s : State) (c0 c1 : Nat) : Bool :=
  (List.range 16).any fun k => decide ((c0 : Int) + 1 < s.v .stepAt k) && decide (s.v .stepAt k ≤ (c1 : Int) + 1)

/-- The slot and low bit of the recorded and the suppressed openings of a detector (R196, R197). -/
def pqCntAddr (d : Nat) : Nat :=
  if 192 ≤ d then Reg.pqFlStat (d - 192)
  else match d % 3 with
    | 0 => Reg.pqMpCntSag (d / 3)
    | 1 => Reg.pqMpCntSwell (d / 3)
    | _ => Reg.pqMpCntInt (d / 3)

/-- PQ_OPEN of a metering point (R195). -/
def pqSummary (m : Nat) (s : State) : State :=
  let any := (List.range 3).any fun k => decide (s.v .pqOpen (3 * m + k) ≠ 0)
  s.hwb (if m < 32 then Reg.pqOpenLo else Reg.pqOpenHi) (m % 32) any

/-- A detector opens at counter `at_`, with start time `c` (R183, R187, R189): START_MAX openings a second are recorded, the others
counted. -/
def pqOpenEvent (d at_ c ext ch : Nat) (s : State) : State :=
  let recent := s.pqOpens.filter fun x => decide (at_ < x.2 + 1000000000)
  let ok := decide ((recent.filter fun x => decide (x.1 = d)).length < s.fd Reg.pqCfg 8 4)
  let s1 := (((s.setV .pqStart d c).setV .pqExt d ext).setV .pqCh d ch).setV .pqOpen d (if ok then 1 else 2)
  let s2 : State := { s1 with pqOpens := if ok then recent ++ [(d, at_)] else recent }
  if ok then
    let s3 := (if d < 192 then s2.inc (pqCntAddr d) 0 32 1 else s2.inc (pqCntAddr d) 32 16 1).evt 0x500 16
    pqRecord d at_ 0x10 (pqKind d + ch * 64) c ext 0 s3
  else if d < 192 then s2.inc (pqCntAddr d) 32 16 1 else s2.inc (pqCntAddr d) 24 8 1

/-- A detector closes at counter `at_`, with end time `c` (R183, R185, R188, R189). -/
def pqCloseEvent (d at_ c : Nat) (uncertain : Bool) (s : State) : State :=
  let was := s.v .pqOpen d
  if was = 0 then s
  else
    let ext := s.n .pqExt d
    let ch := s.n .pqCh d
    let c0 := s.n .pqStart d
    let dur := s.pqDuration c0 c
    let inside := decide (d < 192) && decide (d % 3 = 0) && decide (s.v .pqInt (d / 3) = 1)
    let flags := pqKind d + 4 + 8 * uncertain.toNat + 16 * inside.toNat + 32 * (s.stepBetween c0 c).toNat + ch * 64
    let s1 := s.setV .pqOpen d 0
    if was = 1 then
      let s2 := pqRecord d at_ 0x11 flags c ext dur (s1.evt 0x500 17)
      if d < 192 then
        let m := d / 3
        ((s2.hw (Reg.pqMpLast m) (d % 3 + ch * 4 + ext % 2 ^ 24 * 16 + uncertain.toNat * 2 ^ 28)).hw (Reg.pqMpLastDur m) dur).evt
          (0x501 + m) 19
      else s2
    else s1

/-! Half-cycles (R180 to R188). -/

/-- The detectors of a metering point run: an AC type with PQ EN. -/
def pqRuns (s : State) (m : Nat) : Bool := s.bit (Reg.pqMpCfg m) 0 && acType (s.mpType m)

/-- Channels selected in CH_MASK. -/
def pqChans (s : State) (m : Nat) : List Nat := (List.range 4).filter fun c => maskBit (s.fd (Reg.pqMpCfg m) 2 4) c

/-- The channel that carries the lowest or the highest RMS among `cs`, the lower number at equal values, with its value. -/
def extremeOf (h : Nat → HalfChan) (low : Bool) (cs : List Nat) : Nat × Nat :=
  cs.foldl (fun b c => if (if low then decide ((h c).rms < b.2) else decide (b.2 < (h c).rms)) then (c, (h c).rms) else b)
    (cs.headD 0, (h (cs.headD 0)).rms)

/-- The extreme of an open event takes a further half-cycle. -/
def pqExtreme (d : Nat) (low : Bool) (h : Nat → HalfChan) (cs : List Nat) (s : State) : State :=
  if s.v .pqOpen d = 0 ∨ cs = [] then s
  else
    let x := extremeOf h low cs
    let old := s.n .pqExt d
    let better := if low then decide (x.2 < old) else decide (old < x.2)
    if better || (decide (x.2 = old) && decide ((x.1 : Int) < s.v .pqCh d)) then (s.setV .pqExt d x.2).setV .pqCh d x.1 else s

/-- The next half-cycle boundary of a metering point (R180, R193), if its samples are on hand: its stamp, grid ns and counter. -/
def halfBoundary (s : State) (m : Nat) : Option (Nat × Nat) :=
  let wave := (s.mp m).wave
  let l := (signChanges wave.reverse).map fun w => (w.g, w.c)
  if s.v .hcFrom m = 0 then l.find? fun x => decide (s.v .hcSince m ≤ (x.1 : Int) + 1)
  else
    let a := (s.v .hcFrom m - 1).toNat
    match l.find? fun x => decide (a + 4000000 ≤ x.1) && decide (x.1 < a + 11111000) with
    | some x => some x
    | none =>
      if wave.any fun w => decide (a + 11111000 ≤ w.g) then
        let e := a + (if s.bit (Reg.pqMpCfg m) 1 then 8333333 else 10000000)
        some (e, s.gridCounter (s.inFreq (s.mpSlot m 0 % 256)) e)
      else none

/-- The detectors at the end of a half-cycle from counter `start` to `stop` (R182 to R184); `h` gives its channels. -/
def halfDetect (m start stop : Nat) (h : Nat → HalfChan) (s : State) : State :=
  let cs := s.pqChans m
  let ok := cs.filter fun c => (h c).valid
  let all := decide (ok = cs) && decide (cs ≠ [])
  let uref := s.fd (Reg.pqMpUref m) 0 32
  let thr := s.rd (Reg.pqMpThr m)
  let sag := field thr 0 12
  let swell := field thr 12 12
  let int := field thr 24 12
  let hy := field thr 36 8
  let u (c : Nat) : Nat := (h c).rms * s.kfs (s.mpSlot m c) / 2 ^ 23 * 1000
  let lowAt (t : Nat) (c : Nat) : Bool := decide (u c < t * uref)
  let dSag := 3 * m
  let dSwell := 3 * m + 1
  let dInt := 3 * m + 2
  let isOpen (d : Nat) : Bool := decide (s.v .pqOpen d ≠ 0)
  let below := ok.filter (lowAt sag)
  let above := ok.filter fun c => decide (swell * uref < u c)
  let sagOpens := !isOpen dSag && decide (below ≠ [])
  let sagCloses := isOpen dSag && all && cs.all fun c => !lowAt (sag + hy) c
  let swellOpens := !isOpen dSwell && decide (above ≠ [])
  let swellCloses := isOpen dSwell && all && cs.all fun c => decide (u c ≤ (swell - hy) * uref)
  let intOpens := !isOpen dInt && all && cs.all (lowAt int)
  let intCloses := isOpen dInt && ok.any fun c => !lowAt (int + hy) c
  let s4 := if sagCloses then s else pqExtreme dSag true h ok s
  let s5 := if swellCloses then s4 else pqExtreme dSwell false h ok s4
  let s6 := if intCloses then s5 else pqExtreme dInt true h ok s5
  let opens (d bit : Nat) (low : Bool) (t : State) : State :=
    let x := extremeOf h low ok
    pqOpenEvent d stop start x.2 x.1 ((t.hwb (Reg.pqMpStat m) bit true).evt (0x501 + m) (16 + bit))
  let s7 := if sagOpens then (opens dSag 0 true s6).setV .pqInt m 0 else s6
  let s8 := if intOpens then (opens dInt 2 true s7).setV .pqInt m 1 else s7
  let s9 := if swellOpens then opens dSwell 1 false s8 else s8
  let closes (d bit : Nat) (t : State) : State := pqCloseEvent d stop start false (t.hwb (Reg.pqMpStat m) bit false)
  let s10 := if intCloses then closes dInt 2 s9 else s9
  let s11 := if sagCloses then closes dSag 0 s10 else s10
  let s12 := if swellCloses then closes dSwell 1 s11 else s11
  pqSummary m s12

/-- HALF_CYCLE_END (R180 to R186): the next boundary of the metering point, once its samples are on hand. -/
def halfCycleEnd (m : Nat) (s : State) : State :=
  if !s.pqRuns m ∨ s.v .ownerFault 4 = 1 then s
  else
    match s.halfBoundary m with
    | none => s
    | some (g, stop) =>
      let s0 := (s.setV .hcFrom m (g + 1)).setV .hcFromC m stop
      if s.v .hcFrom m = 0 then s0
      else
        let h (c : Nat) : HalfChan := halfChan (s.mp m).wave (s.v .hcFrom m - 1).toNat g c
        let start := s.n .hcFromC m
        let cs := s.pqChans m
        let n := s.n .hcCount m + 1
        let s1 := (s0.setV .hcCount m n).hwb (Reg.pqMpStat m) 3 (cs.any fun c => !(h c).valid)
        let s2 := each cs (fun c t =>
          let t1 := t.hw (Reg.pqMpHc m c) ((h c).rms % 2 ^ 24 + n % 2 ^ 24 * 2 ^ 24)
          if (h c).valid then t1.setV .hcInvFrom (4 * m + c) 0
          else if t1.v .hcInvFrom (4 * m + c) = 0 then t1.setV .hcInvFrom (4 * m + c) (start + 1) else t1) s1
        halfDetect m start stop h (if cs.any fun c => (h c).valid then s2.setV .hcValidEnd m stop else s2)

/-- Close every open event of a metering point with UNCERTAIN (R188): interruption before sag. -/
def pqCloseMp (m : Nat) (s : State) : State :=
  let c := s.n .hcValidEnd m
  let close (k : Nat) (t : State) : State := pqCloseEvent (3 * m + k) s.counter c true (t.hwb (Reg.pqMpStat m) k false)
  if (List.range 3).all (fun k => decide (s.v .pqOpen (3 * m + k) = 0)) then s
  else pqSummary m (close 1 (close 0 (close 2 s)))

/-- The detectors of a metering point stop; when they run again, the first half-cycle begins at the first boundary (R188, R193). -/
def pqStop (m : Nat) (s : State) : State :=
  let s1 := ((pqCloseMp m s).setV .hcFrom m 0).setV .hcSince m (s.gridNs + 1)
  eachBelow 4 (fun c t => t.setV .hcInvFrom (4 * m + c) 0) s1

/-- PQ_INVALID_TIMEOUT (R188): only invalid half-cycles on a selected channel for 1 s. -/
def pqInvalidTimeout (m : Nat) (s : State) : State :=
  let over_ := (s.pqChans m).filter fun c =>
    let t := s.v .hcInvFrom (4 * m + c)
    decide (t ≠ 0) && decide (t - 1 + 1000000000 ≤ s.counter)
  if over_ = [] then s else each over_ (fun c t => t.setV .hcInvFrom (4 * m + c) (s.counter + 1)) (pqCloseMp m s)

/-! Peaks (R189 to R191). -/

/-- EN of the fast limit of an input, with its fast path (R189). -/
def pkRuns (s : State) (i : Nat) : Bool := s.bit (Reg.pqFlCfg i) 23 && s.bit (Reg.metInCfg i) 15

/-- Close an open PEAK with end time `c` (R189). -/
def pkClose (i c : Nat) (uncertain : Bool) (s : State) : State :=
  if s.bit (Reg.pqFlStat i) 0 then
    (pqCloseEvent (192 + i) s.counter c uncertain (s.hwb (Reg.pqFlStat i) 0 false)).setV .pkRun i 0
  else s

/-- A fast-path sample stamped `c` is compared with PK_LIM (R189); the first exceeding one is also the over-current decision (R190). -/
def peakSample (i c : Nat) (x : Fast) (s : State) : State :=
  if !s.pkRuns i ∨ 2 ≤ x.quality ∨ s.v .ownerFault 4 = 1 ∨ s.v .ownerFault 5 = 1 then s.setV .pkRun i 0
  else
    let y := x.y.natAbs
    let cfg := s.rd (Reg.pqFlCfg i)
    let lim := field cfg 0 23
    let d := 192 + i
    let active := s.bit (Reg.pqFlStat i) 0
    let s0 := s.setV .pkLast i c
    let s1 := if active ∧ s0.v .pqExt d < (y : Nat) then (s0.setV .pqExt d y).hwf (Reg.pqFlStat i) 1 23 (min y 8388607) else s0
    if lim ≤ y ∨ x.quality = 1 then
      let s2 := s1.setV .pkRun i 0
      if active then s2
      else
        let s3 := ((s2.hwb (Reg.pqFlStat i) 0 true).hwf (Reg.pqFlStat i) 1 23 (min y 8388607)).evt (0x541 + i / 32) (16 + i % 32)
        let s4 := if maskBit cfg 24 && s3.bit (Reg.metInKfs i) 32 then s3.setV .ocDue i 1 else s3
        pqOpenEvent d s.counter c y 0 s4
    else if y < lim - lim * field cfg 25 6 / 64 then
      let k := s1.v .pkRun i + 1
      (if k = 1 then s1.setV .pkFirst i c else s1).setV .pkRun i k
    else s1.setV .pkRun i 0

/-- FAST_SAMPLE (R103 to R107, R125, R189): fast-path window m of an input has ended, `dt` ns after the last boundary. -/
def fastSample (i m dt line : Nat) (s : State) : State :=
  let e := s.windowEnd i (16 * m * bitNs (s.inFreq i))
  if !s.fastRuns i ∨ (m : Int) + 1 ≤ s.v .pkM i ∨ s.windowEnded (s.inFreq i) e (s.counter + dt) = false then s
  else
    let x := s.fastOf i m line
    peakSample i (s.fastStamp i m) x (fastPeak i x (s.setV .pkM i (m + 1)))

/-- PEAK_CLOSE (R189): 16 consecutive valid samples below the clear level. -/
def peakClose (i : Nat) (s : State) : State := if 16 ≤ s.v .pkRun i then pkClose i (s.n .pkFirst i) false s else s

/-- OVERCURRENT_DECISION (R190, R292): the decision that a first exceeding sample of an input with TO_SAF and KIND current is. -/
def overcurrentDecision (i : Nat) (s : State) : State := if s.v .ocDue i = 1 then overcurrent i (s.setV .ocDue i 0) else s

/-- The decisions that have reached both channels by the boundary (R104). -/
def overcurrentDue (s : State) : State := eachBelow 256 overcurrentDecision s

/-- Every open event closes with UNCERTAIN (R188, R189). -/
def pqCloseAll (s : State) : State :=
  eachBelow 64 pqStop (eachBelow 256 (fun i t => pkClose i (t.n .pkLast i) true t) s)

/-! Configuration (R182, R191, R194 to R197). -/

/-- The verdict on a write to PQ_MP_CFG (R196). -/
def pqMpCfgAnswer (m v : Nat) (s : State) : Nat := if maskBit v 0 && !acType (s.mpType m) then 0x15 else 0x01

/-- The verdict on a write to PQ_MP_THR (R182). -/
def pqThrAnswer (v : Nat) : Nat :=
  let hy := field v 36 8
  if field v 0 12 < field v 24 12 + hy ∨ 1000 < field v 0 12 + hy ∨ field v 12 12 < 1000 + hy then 0x15 else 0x01

/-- Stalls that use an input (R191): their metering point maps it, or SAF_ST_INPUTS names it. -/
def stallsUsing (s : State) (i : Nat) : List Nat :=
  (List.range 32).filter fun t =>
    (decide (s.stallMp t < 64) && (List.range 8).any fun c => decide (s.mpSlot (s.stallMp t) c = i))
      || [0, 12, 24].any fun b => decide (s.fd (Reg.safStInputs t) b 9 = i)

/-- The verdict on a write to PQ_FL_CFG (R191): only SAFETY_ADMIN, and no lower protection of a stall in use. -/
def pqFlAnswer (m : Master) (i v : Nat) (s : State) : Nat :=
  let old := s.rd (Reg.pqFlCfg i)
  let lower := maskBit old 24 && (decide (field old 0 23 < field v 0 23) || decide (field old 25 6 < field v 25 6)
    || (maskBit old 23 && !maskBit v 23) || !maskBit v 24)
  if s.role m ≠ 5 then 0x12
  else if lower && (s.stallsUsing i).any (fun t => !s.stallFree t) then 0x15
  else 0x01

/-- What follows a committed PQ_MP_CFG or TYPE: detectors that do not run close their events (R188). -/
def pqMpCfgSet (m : Nat) (s : State) : State := if s.pqRuns m then s else pqStop m s

/-- What follows a committed PQ_FL_CFG or FAST_EN: an input without detection closes its PEAK (R189). -/
def pkCfgSet (i : Nat) (s : State) : State := if s.pkRuns i then s else pkClose i (s.n .pkLast i) true s

end State
end Sys2Proof.Machine
end

