-- ==== Sys2Proof/Machine/Glean.lean ====
section
/-! DEFINITION. Supply loss and gleaning (14_supply_loss_gleaning.md R368 to R382): pre-capture, the commit, captures, the end of
gleaning, and the bounds and readings of the recovery. -/
namespace Sys2Proof.Machine.State

/-- The staging buffer is drained to MRAM (R342). -/
def drainAll (s : State) : State := s.setV .drained 0 (s.rd Reg.jnlHead - 1)

/-- A capture of metering points at grid instant `t` is written (R373): it continues the save numbers. CAPTURES counts those of the
gleaning (R382). -/
def writeCapture (mps : List (Nat × Mp)) (t : Nat) (s : State) : State :=
  let k := s.n .saveNum + 1
  let c := s.metCopy k true mps (s.gridCounter 0 t) (s.gridTime t)
  let s1 := { s with copies := keepCopies (c :: s.copies) }.setV .saveNum 0 k
  if s.v .gleaning = 1 then s1.incSat Reg.glnStat 5 8 1 else s1

/-- A capture of this instant. -/
def captureNow (s : State) : State := writeCapture s.mps s.gridNs s

/-- The first 1 ms grid instant after this one, plus 1 (R374). -/
def nextCapture (s : State) : Int := ((s.gridNs / 1000000 + 1) * 1000000 + 1 : Nat)

/-- The metering points as they stood at the capture instant: before their first sample stamped at or after it (R373). -/
def capMps (s : State) : List (Nat × Mp) :=
  s.mps.map fun x => (x.1, ((s.capSet.find? fun y => decide (y.1 = x.1)).map (·.2)).getD x.2)

/-- The capture that is due is written (R374); during gleaning the next 1 ms grid instant follows. -/
def captureDue (s : State) : State :=
  let t := (s.v .capAt - 1).toNat
  if s.v .capAt = 0 ∨ s.gridNs < t then s
  else
    let s1 : State := { writeCapture s.capMps t s with capSet := [] }
    s1.setV .capAt 0 (if s1.v .gleaning = 1 then s1.nextCapture else 0)

/-- PFW_ASSERTED (R369): PFW_N has been asserted for `us` µs; from PFW_FILT on it is recognised, and the pre-capture drains the
staging buffer and writes one capture. -/
def pfwAsserted (us : Nat) (s : State) : State :=
  if s.bit Reg.glnCfg 0 = false ∨ us < max 1 (s.fd Reg.glnCfg 8 8) ∨ s.v .gleaning = 1 then s
  else
    let s1 := if s.bit Reg.glnStat 0 then s else (s.hwb Reg.glnStat 0 true).evt 0x40C 16
    let t := s1.v .preCancelAt
    if s1.bit Reg.glnStat 1 ∨ (t ≠ 0 ∧ (s1.counter : Int) < t - 1 + 100000000) then s1
    else
      let s2 : State := { drainAll (s1.hwb Reg.glnStat 1 true) with capSet := [] }
      s2.setV .capAt 0 s2.nextCapture

/-- PRE_CAPTURE_CANCELLED (R369). -/
def preCaptureCancelled (s : State) : State :=
  if s.v .gleaning = 1 then s
  else
    let s1 := s.hwb Reg.glnStat 0 false
    if s1.bit Reg.glnStat 1 then
      (((s1.hwb Reg.glnStat 1 false).inc Reg.glnCnt 16 16 1).setV .preCancelAt 0 (s1.counter + 1)).evt 0x40C 17
    else s1

/-- Every pilot goes to state F (R370). -/
def pilotsToF (s : State) : State :=
  eachBelow 32 (fun t u => ((u.hwf (Reg.stlPilot t) 0 3 5).hwf (Reg.stlPilot t) 4 12 0).setV .dutyWant t 0) s

/-- Stalls open at the commit are confirmed at the commit (R374). -/
def confirmNow (s : State) : State :=
  eachBelow 32 (fun t u => if u.openConfirmed t then u.setV .confAt t (u.counter + 1) else u) s

/-- The commit of a supply loss (R368, R370, R523): `cause` 1 VIN, 2 rail. The common safe state and the SUPPLY_LOSS record come
first; sessions open now end with cause SUPPLY_LOSS (R379); no write that waits is accepted any longer. -/
def supplyCommit (cause mv rail : Nat) (s : State) : State :=
  if s.v .gleaning = 1 ∨ s.v .powerOff = 1 then s
  else
    let s0 := confirmNow (((s.setV .gleaning 0 1).setV .glnAt 0 (s.counter + 1)).setV .offCause 0 cause)
    let s1 := { s0 with sessions := s0.sessions.map fun (x : Sess) =>
      if x.endCause = 0 ∨ (x.seqLast = 0 ∧ s0.mode x.stall = 6) then { x with endCause := 15 } else x }
    let s2 := pilotsToF ((commonOnce 1 0 s1).hwf Reg.safState 8 8 1)
    let s3 := submit (stateRec 1 1 0xFFFF 0 1 cause [(2, saturate 16 mv), (1, rail)]) s2
    let t := s3.now
    let s4 := ((s3.wr Reg.glnLastSec (secsOf t)).wr Reg.glnLastNs (nsOf t * 2 ^ 16 + fracOf t)).inc Reg.glnCnt 0 16 1
    let s5 := balBreak (((s4.hwf Reg.glnStat 3 10 0).setV .capAt 0 (if s4.v .capAt = 0 then s4.nextCapture else s4.v .capAt)).setV
      .alcDue 0 0)
    let s6 : State := { s5 with cycle := [], reads := [], trig := [] }
    drainAll (s6.hwb Reg.sysMstLink 0 false)

/-- SUPPLY_LOSS_COMMIT (R368, R370). -/
def supplyLossCommit (mv : Nat) (s : State) : State := supplyCommit 1 mv 0xFF s

/-- CAPTURE (R374): once per 1 ms grid instant of gleaning. -/
def rollingCapture (s : State) : State := if s.v .gleaning = 1 then captureDue s else s

/-- Stalls not confirmed open, as a mask (R374, R381). -/
def unconfirmed (s : State) : Nat := ((List.range 32).map fun t => if s.openConfirmed t then 0 else 2 ^ t).sum

/-- The open settlement periods end with gleaning (R374). -/
def settleOpen (s : State) : State :=
  eachBelow 64 (fun m t => if settleNs (t.mp m).se ≠ 0 ∧ (t.mp m).ty ≠ 0 then settleAt m t.gridNs t else t) s

/-- GLEANING_END (R375): `complete` when the marker is written; `mw` is the mean load from 200 µs after the commit. A gleaning
that is not completed leaves what was drained and captured before (R377). -/
def gleaningEnd (complete : Bool) (mw : Nat) (s : State) : State :=
  if s.v .gleaning ≠ 1 then s
  else
    let us := (s.counter + 1 - s.n .glnAt) / 1000
    let s1 := if complete then captureNow (settleOpen (drainAll (pqFlush (pqCloseAll s)))) else s
    let s2 := (s1.wr Reg.glnLastRun (saturate 24 us + mw * 2 ^ 24)).wr Reg.glnUnconf s1.unconfirmed
    let s3 := if complete then s2.setV .rtcNs 0 (nanosOf s2.now) else s2.inc Reg.glnCnt 32 16 1
    let s4 : State := { s3.setV .capAt 0 0 with capSet := [] }
    (((s4.hwb Reg.glnStat 3 complete).setV .glnEnd 0 (if complete then 1 else 2)).setV .gleaning 0 0).setV .powerOff 0 1

/-! Recovery (R376 to R379). -/

/-- The newest copy among saves and captures (R378). -/
def newestCopy (s : State) : Option MetCopy :=
  s.copies.foldl (fun (b : Option MetCopy) c => match b with
    | none => some c
    | some d => if d.num < c.num then some c else b) none

/-- ΣK of a metering point, µW (R134). -/
def sumK (s : State) (m : Nat) : Nat := s.fullScale m

/-- A bound goes to UNMEASURED with its record (R376, R565). -/
def addBound (m b : Nat) (unbounded short : Bool) (s : State) : State :=
  let s1 := setMp m ((s.mp m).add 22 b) s
  submit ⟨4, 5, 3, m, 0, 1,
    packLE [(1, m), (1, 22), (12, b), (6, s1.rd Reg.metSealCnt), (1, unbounded.toNat + 2 * short.toNat)]⟩ s1

/-- The stall is confirmed open in a copy: since its last withdrawal (R374, R376). -/
def confirmedIn (s : State) (c : MetCopy) (t : Nat) : Bool := maskBit c.confirmed t && decide (c.withdrawn.getD t 0 = s.n .openAt t)

/-- The bound of R376 for a stall not confirmed open when metering ended at the copy's instant; a copy from before this power-on
leaves all of it unmetered (R377). -/
def stallBound (s : State) (c : MetCopy) (t : Nat) : Nat :=
  if s.confirmedIn c t ∨ 64 ≤ s.stallMp t then 0
  else
    let openNs : Int := (field (s.safeRd (Reg.safStCtr t)) 10 10 * 1000000 : Nat)
    let cw := s.v .openAt t - 1
    let ce := if c.boot = s.rd Reg.sysIdRestarts then c.counter else 0
    s.sumK (s.stallMp t) * (cw + openNs - ce).toNat / 10 ^ 9

/-- The restored state and the bounds (R376 to R379), before counter and time start anew. `rtc` is the real-time clock, none
when RTC_LOST is 1. -/
def gleanRecover (rtc : Option Nat) (s : State) : State :=
  match s.newestCopy with
  | none => { s with mps := [], mpCap := [], saving := none }
  | some c =>
    let short := decide (s.v .glnEnd = 2)
    let out := rtc.map fun r => r - nanosOf c.time
    let s0 : State := { s with mps := c.mps, mpCap := [], saving := none }
    let s1 := (s0.hw Reg.glnOutage ((out.map (· / 10 ^ 9)).getD (2 ^ 48 - 1))).setV .glnOut 0 (((out.map fun (d : Nat) => d + 1).getD 0 : Nat) : Int)
    let lost := decide (s.v .glnEnd ≠ 0)
    let s2 := if !lost then s1 else eachBelow 32 (fun t u =>
      let b := u.stallBound c t
      let u1 := ((u.setV .glnBound t b).setV .glnWait t 1)
      let u2 := if b = 0 then u1 else addBound (u1.stallMp t) b false short u1
      { u2 with sessions := u2.sessions.map fun (x : Sess) =>
          if x.stall = t ∧ x.ended = false then
            let t1 := if s.confirmedIn c t ∧ c.confAt.getD t 0 ≠ 0 then s.timeAt (c.confAt.getD t 0 - 1) else c.time
            { x with
              endT := t1, ended := true, begun := true
              startT := if x.begun then x.startT else t1
              startAcc := if x.begun then x.startAcc else (u2.mp x.mp).reading
              endAcc := (u2.mp x.mp).reading, sealCnt := u2.rd Reg.metSealCnt, calEnd := (u2.calAct.map (·.id)).getD 0, glean := b
              flagsEnd := Nat.lor x.flags (64 + (if b = 0 then 0 else 16) + (if short then 32 else 0)) }
          else x }) s1
    let s3 := if !lost then s2 else eachBelow 64 (fun m u =>
      let k := u.sumK m
      if k = 0 ∨ (List.range 32).any (fun t => decide (u.stallMp t = m)) then u
      else match out with
        | some d => if d = 0 then u else addBound m (k * d / 10 ^ 9) false short u
        | none => addBound m 0 true short u) s2
    let s4 := s3.hwf Reg.glnStat 0 5 ((if c.capture then 4 else 0) + (if lost then (if short then 16 else 8) else 0))
    let s5 := if c.capture then s4.evt 0x40C 18 else s4
    let s6 := if lost ∧ short then s5.evt 0x40C 19 else s5
    (s6.setV .bt 0 c.bt).setV .glnEnd 0 0

/-- The first proof of a stall after an outage (R376): where it fails, the bound is extended; an outage that could not be measured
leaves the record UNBOUNDED. -/
def gleanProof (t : Nat) (held : Bool) (s : State) : State :=
  if s.v .glnWait t = 0 then s
  else
    let s1 := s.setV .glnWait t 0
    let d := s.n .glnOut
    if held ∨ 64 ≤ s.stallMp t then s1
    else if d = 0 then addBound (s.stallMp t) 0 true (s.bit Reg.glnStat 4) s1
    else
      let full := s.sumK (s.stallMp t) * (d - 1 + s.counter) / 10 ^ 9
      let more := full - s.n .glnBound t
      if more = 0 then s1
      else
        let s2 := addBound (s.stallMp t) more false (s.bit Reg.glnStat 4) (s1.setV .glnBound t full)
        { s2 with sessions := s2.sessions.map fun (x : Sess) =>
            if x.stall = t ∧ x.endCause = 15 then { x with glean := full, flagsEnd := Nat.lor x.flagsEnd 16 } else x }

end Sys2Proof.Machine.State
end

