-- ==== Sys2Proof/Machine/Bil.lean ====
section
/-! DEFINITION. Billing (15_billing.md R384 to R405): billing time, tariff selection, demand intervals, session and reading
records. -/
namespace Sys2Proof.Machine.State

/-- Wall clock now, units of 2^-16 ns: corrected time minus the UTC offset (R384). -/
def wall (s : State) : Int := s.now - (s.fd Reg.timUtc 0 16 : Nat) * (10 ^ 9 * 2 ^ 16)

/-- BT seconds. -/
def btSec (s : State) : Nat := secsOf s.btNow

/-- BIL does nothing while it restarts or gleaning runs (R394, R401). -/
def bilIdle (s : State) : Bool := s.ownerFault 0xD00 || decide (s.v .gleaning = 1) || decide (s.v .powerOff = 1)

/-- A BILLING record of one part (R400). -/
def bilRec (code inst : Nat) (fields : List (Nat × Nat)) : Submission := rec1 0xD 6 code inst 0 fields

/-! Demand intervals (R392, R393). -/

/-- DEMAND_MIN in force, minutes. -/
def demandMin (s : State) : Nat := (s.calAct.map (·.demandMin)).getD 0

/-- The demand interval in progress of a metering point. -/
def dem (s : State) (m : Nat) : Option Dem := (s.dems.find? fun x => decide (x.1 = m)).map (·.2)

/-- An instant as billing uses it: counter, grid time in ns, BT seconds. -/
structure Instant where
  counter : Nat
  grid : Nat
  bt : Nat
deriving DecidableEq, Repr

/-- This instant. -/
def billNow (s : State) : Instant := ⟨s.counter, s.gridNs, s.btSec⟩

/-- The instant at which BT, which runs, has reached second `x` (R389); this instant while BT is held. -/
def btInstant (s : State) (x : Nat) : Instant :=
  let e := s.btNow - (x * (10 ^ 9 * 2 ^ 16) : Nat)
  if s.v .btMode = 2 ∨ e < 0 then s.billNow
  else
    let r := if s.v .btMode = 1 then s.rate else s.baseRate
    ⟨((s.counter : Int) - e * 2 ^ 32 / (2 ^ 48 + r)).toNat, ((s.gridUnits 0 s.counter - e + 2 ^ 15) / 2 ^ 16).toNat, x⟩

/-- An interval begins (R392). -/
def demStart (m : Nat) (i : Instant) (acc : Option Nat) (tar : Nat) (s : State) : State :=
  let d : Dem := ⟨i.bt, i.counter, i.grid, acc, tar, s.flagsNow⟩
  ({ s with dems := s.dems ++ [(m, d)] }.hw (Reg.bilMpIntStart m) d.start).hw (Reg.bilMpIntE m) 0

/-- Intervals run on this metering point (R392); after an outage from its first sample on (R393). -/
def demRuns (s : State) (m : Nat) : Bool :=
  decide (s.demandMin ≠ 0) && s.bit (Reg.bilMpCfg m) 4 && (decide (s.v .accWait m = 0) || decide (s.mpType m = 0))

/-- Begin an interval at an instant where one should run and none does; the first after an outage began with the first sample. -/
def demBegin (m : Nat) (i : Instant) (tar : Nat) (s : State) : State :=
  if !s.demRuns m || (s.dem m).isSome then s
  else
    let f := s.v .demFrom m
    if f = 0 then demStart m i none tar s
    else
      let g := (f - 1).toNat
      demStart m ⟨s.gridCounter 0 g, g, secsOf (s.btNow - (s.now - s.gridTime g))⟩ (some (s.n .demAcc m)) tar (s.setV .demFrom m 0)

/-- The interval in progress is given up without a record. -/
def demDrop (m : Nat) (s : State) : State := { s with dems := s.dems.filter fun x => decide (x.1 ≠ m) }

/-- The interval in progress ends at an instant, with further flags (R393). -/
def demStop (m : Nat) (i : Instant) (more n : Nat) (s : State) : State :=
  match s.dem m with
  | none => s
  | some d =>
    let x : DemEnd := ⟨m, { d with flags := Nat.lor d.flags more }, i.counter, i.grid, i.bt, n, none⟩
    let s1 := demDrop m s
    { s1 with demEnds := s1.demEnds ++ [x] }

/-- The energy from one reading of ACT_IMP to a later one, µJ. -/
def demEnergy (a b : Nat) : Nat := let e := (b + 2 ^ 96 - a) % 2 ^ 96; if e < 2 ^ 95 then e else 0

/-- An ended interval's record, the last interval, and the maximum of its tariff (R392, R393). The mean power of an interval of 0 µs is
free (log entry 6). -/
def demRecord (x : DemEnd) (s : State) : State :=
  let m := x.mp
  let d := x.dem
  let span : Int := (x.to_ - d.from_ : Nat)
  let us := ((span * 2 ^ 48 + span * s.baseRateAt x.to_) / (2 ^ 48 * 1000)).toNat
  let b := x.acc.getD 0
  let e := demEnergy (d.acc.getD b) b
  let short := decide (us < x.min * 30000000)
  let flags := Nat.lor d.flags (if short then 0x400 else 0)
  let w := if us = 0 then s.draw 32 else e / us
  let s1 := submit (bilRec 4 m [(1, m), (1, d.tar), (2, flags), (6, x.bt), (4, us / 1000), (8, e)])
    (if us = 0 then s.drawn else s)
  let s2 := (s1.hw (Reg.bilMpLast m) (w % 2 ^ 32 + d.tar * 2 ^ 32 + flags % 2 ^ 13 * 2 ^ 35)).hw (Reg.bilMpLastEnd m) x.bt
  let s3 := s2.evt (0xD10 + m) 16
  if !short && !maskBit flags 6 && decide (s3.fd (Reg.bilMpMax m d.tar) 0 32 < w) then
    ((s3.hw (Reg.bilMpMax m d.tar) (w % 2 ^ 32)).hw (Reg.bilMpMaxt m d.tar) x.bt).evt (0xD10 + m) 17
  else s3

/-- The records of ended intervals whose energy is known are made, in their order (R394). -/
def demCompose (s : State) : State :=
  let ready := s.demEnds.takeWhile fun x => x.acc.isSome
  each ready demRecord { s with demEnds := s.demEnds.drop ready.length }

/-- End an interval at an instant and begin the next one, under tariff `tar`. -/
def demTurn (m : Nat) (i : Instant) (more n tar : Nat) (s : State) : State := demBegin m i tar (demStop m i more n s)

/-- Nominal end of an interval, BT seconds (R392, R393). -/
def demEnd (s : State) (d : Dem) : Nat :=
  let k := s.demandMin * 60
  if s.timeValid then (d.start / k + 1) * k else d.start + k

/-- BT has reached the nominal end of a metering point's interval. -/
def demOver (s : State) (m : Nat) : Bool :=
  decide (s.demandMin ≠ 0) && match s.dem m with
    | none => false
    | some d => decide (s.demEnd d ≤ s.btSec)

/-- Intervals that should run and do not begin, without samples ACT_IMP is taken as it stands, ended intervals are recorded, and the
energy of those in progress is shown in mJ (R405). -/
def demRefresh (s : State) : State :=
  let s1 := if s.demandMin = 0 ∨ s.bilIdle then s else eachBelow 64 (fun m t => demBegin m t.billNow (t.fd (Reg.bilMpSel m) 0 3) t) s
  let quiet := (s1.demEnds.map (·.mp) ++ s1.dems.map (·.1)).filter fun m => s1.noSamples m && decide (s1.demInstants m ≠ [])
  let s2 := demCompose (each quiet (fun m t => demTake m t.gridNs t) s1)
  each s2.dems (fun x t =>
    let a := (t.mp x.1).acc.getD 0 0
    t.hw (Reg.bilMpIntE x.1) (demEnergy (x.2.acc.getD a) a / 1000)) s2

/-! Tariff selection (R386 to R389). -/

/-- Days of BT that the search for the next switching instant covers. -/
def nextDays : Nat := 400

/-- DEFAULT: the selection of R389 without calendar or valid time. -/
def tariffDefault (s : State) : Bool := !s.timeValid || s.calAct.isNone

/-- The tariff that metering points with CAL_EN 1 take now. -/
def calTariff (s : State) : Nat :=
  match s.calAct with
  | none => 0
  | some c => if s.timeValid then c.tariff s.btSec else c.dflt

/-- The tariff of a metering point by R389, given that of the calendar. -/
def tariffOf (s : State) (m cal : Nat) : Nat :=
  if s.bit (Reg.bilMpCfg m) 0 then cal else s.fd (Reg.bilMpCfg m) 1 3

/-- Metering points that change together are journalled together (R389). -/
def switchRecs (bt : Nat) (ch : List (Nat × Nat × Nat)) (s : State) : State :=
  let pairs := (ch.map (·.2)).eraseDups
  each pairs (fun p t =>
    let mask := (ch.map fun x => if x.2 = p then 2 ^ x.1 else 0).sum
    submit (bilRec 3 0xFFFF [(8, mask), (1, p.1), (1, p.2), (6, bt), (4, (t.calAct.map (·.id)).getD 0),
      (1, t.tariffDefault.toNat)]) t) s

/-- BIL_STAT and BIL_MP_NEXT follow the selection. -/
def selShow (s : State) : State :=
  let d := s.tariffDefault
  let a := Reg.bilStat
  let ofs := (s.calAct.map fun c => c.localOfs s.btSec).getD 0
  let s1 := ((s.hwb a 0 s.calAct.isSome).hwb a 1 s.calPend.isSome).hwf a 8 16 (unsigned 16 ofs)
  let s2 := if d && !s1.bit a 3 then (s1.hwb a 3 true).evt 0xD00 22 else s1.hwb a 3 d
  let nx := if d then 0 else (s2.calAct.map fun c => c.next s2.btSec nextDays (s2.btSec / 86400)).getD 0
  eachBelow 64 (fun m t =>
    let en := t.bit (Reg.bilMpCfg m) 0
    (((t.hw (Reg.bilMpNext m) (if en then nx else 0)).hwb (Reg.bilMpSel m) 3 (en && d))).hwb (Reg.bilMpSel m) 4 !en) s2

/-- The selectors follow R389 at an instant: records, selector slots, and the metering points from that instant on (R138). -/
def tariffAt (i : Instant) (s : State) : State :=
  let cal := s.calTariff
  let ch := (List.range 64).filterMap fun m =>
    let old := s.fd (Reg.bilMpSel m) 0 3
    let new := s.tariffOf m cal
    if old = new then none else some (m, old, new)
  let s1 := switchRecs i.bt ch s
  let s2 := each ch (fun x t => (setTariff x.1 x.2.2 i.grid (t.hwf (Reg.bilMpSel x.1) 0 3 x.2.2)).evt (0xD10 + x.1) 18) s1
  selShow s2

/-- The selectors follow R389 as of now. -/
def tariffEval (s : State) : State := tariffAt s.billNow s

/-! Calendars (R391). -/

/-- The slots that show the calendars. -/
def calShow (s : State) : State :=
  let act := match s.calAct with
    | none => 0
    | some c => c.id % 2 ^ 32 + c.demandMin % 256 * 2 ^ 32 + c.dflt % 8 * 2 ^ 40
  ((s.hw Reg.bilCalAct act).hw Reg.bilCalPend ((s.calPend.map (·.id)).getD 0)).hw Reg.bilCalPendAt ((s.calPend.map (·.at_)).getD 0)

/-- A calendar record: 5 loaded, 6 activated, 7 dropped, 8 refused. -/
def calRec (code id at_ reason : Nat) : Submission := bilRec code 0xFFFF [(4, id), (6, at_), (1, reason)]

/-- The pending calendar becomes active at an instant (R391, R393, R394). -/
def calActivate (i : Instant) (s : State) : State :=
  match s.calPend with
  | none => s
  | some c =>
    let old := s.demandMin
    let s1 := submit (calRec 6 c.id c.at_ 0) { s with calAct := some c, calPend := none }
    let s2 := (flagSpans 12 ((calShow s1).inc Reg.bilCnt 32 16 1)).evt 0xD00 17
    let s3 := tariffAt i s2
    if old = c.demandMin then s3
    else eachBelow 64 (fun m t => demTurn m i 0 old (t.fd (Reg.bilMpSel m) 0 3) t) s3

/-- CALENDAR_ACTIVATION (R391): acts once BT has reached ACTIVATE_AT, at the instant at which it did; at once for a calendar loaded
later. -/
def calendarActivation (s : State) : State :=
  match s.calPend with
  | none => s
  | some c =>
    if s.bilIdle ∨ s.btSec < c.at_ then s
    else
      let i := s.btInstant c.at_
      calActivate (if s.n .calLoadAt ≤ i.counter then i else s.billNow) s

/-- TARIFF_SWITCH (R389): an activation that is due comes first (R394); the new index applies from the instant at which BT reached the
switch (R138). -/
def tariffSwitch (s : State) : State :=
  if s.bilIdle then s
  else
    let s1 := calendarActivation s
    let x := (s1.calAct.map fun c => c.last s1.btSec).getD 0
    tariffAt (if x = 0 ∨ s1.v .btMode ≠ 1 then s1.billNow else s1.btInstant x) s1

/-- Every interval whose nominal end BT has reached ends there, in ascending metering point; a tariff switch that is due comes first and
gives the next interval its tariff (R393, R394). -/
def demDue (s : State) : State :=
  if s.bilIdle ∨ (List.range 64).all fun m => !s.demOver m then s
  else eachBelow 64 (fun m t => match t.dem m with
    | some d => if t.demOver m then demTurn m (t.btInstant (t.demEnd d)) 0 t.demandMin (t.fd (Reg.bilMpSel m) 0 3) t else t
    | none => t) (tariffSwitch s)

/-- DEMAND_INTERVAL_END (R393): acts once BT has reached the nominal end, for every metering point whose interval ends with it. -/
def demandEnd (m : Nat) (s : State) : State := if s.bilIdle || !s.demOver m then s else demCompose (demDue s)

/-- The reason for which BIL refuses a calendar image; 0 none (R391). -/
def calVerdict (s : State) (b : List Byte) (sigOk : Bool) : Nat := calReason b sigOk ((s.calAct.map (·.id)).getD 0)

/-- A calendar image reaches BIL (R391). -/
def calLoad (b : List Byte) (sigOk : Bool) (s : State) : State :=
  let c := Cal.ofBytes b
  let r := s.calVerdict b sigOk
  if r ≠ 0 then (submit (calRec 8 c.id c.at_ r) s).evt 0xD00 18
  else
    let s1 := match s.calPend with
      | none => s
      | some p => submit (calRec 7 p.id p.at_ 0) s
    selShow ((calShow (submit (calRec 5 c.id c.at_ 0) ({ s1 with calPend := some c }.setV .calLoadAt 0 s1.counter))).evt 0xD00 16)

/-- DROP_PENDING (R391): without effect where no calendar is pending. -/
def dropPending (s : State) : State :=
  match s.calPend with
  | none => s
  | some p => selShow (calShow (submit (calRec 7 p.id p.at_ 0) { s with calPend := none }))

/-! Billing time (R384, R385). -/

/-- The hold ends: its exit record and event. -/
def holdEnd (s : State) : State :=
  submit (rec1 0xD 6 0x80A 0xFFFF 0 [(6, secsOf (s.v .bt)), (6, s.n .btHoldW)]) ((s.hwb Reg.bilStat 2 false).evt 0xD00 20)

/-- What W is formed with now is kept, so that a step is seen. -/
def btSeen (s : State) : State :=
  ((s.setV .btOfs 0 s.offset).setV .btRate 0 s.rate).setV .btUtc 0 (s.fd Reg.timUtc 0 16 : Nat)

/-- BT follows W from now on. -/
def btFollow (s : State) : State := btSeen (s.setV .btMode 0 1)

/-- BT jumps forward to W (R384, R393): every interval closes with STEPPED. -/
def btJump (s : State) : State :=
  let s1 := flagSpans 2 ((btFollow s).inc Reg.bilCnt 16 16 1)
  let s2 := match s1.calPend with
    | some c => if s1.btSec < c.at_ then s1 else calActivate s1.billNow s1
    | none => s1
  eachBelow 64 (fun m t => match t.dem m with
    | some d => if d.from_ < t.counter then demTurn m t.billNow 4 t.demandMin (t.fd (Reg.bilMpSel m) 0 3) t else t
    | none => t) (tariffEval s2)

/-- BT holds its value (R384). -/
def btHold (b : Int) (s : State) : State :=
  let s1 := (((((btSeen s).setV .btMode 0 2).setV .bt 0 b).setV .btHoldW 0 (secsOf s.wall)).hwb Reg.bilStat 2 true).inc Reg.bilCnt 0 16 1
  submit (rec1 0xD 6 0xA 0xFFFF 0 [(6, secsOf b), (6, secsOf s.wall)]) ((flagSpans 1 s1).evt 0xD00 19)

/-- Rounding of R66 between two forms of one continuous time: up to 1 ns is no step. -/
def btSlack : Int := 2 ^ 16

/-- BT is brought in line with the time block (R384), at the instant of whatever changed there. -/
def btUpdate (s : State) : State :=
  if s.v .powerOff = 1 ∨ s.v .gleaning = 1 then s
  else
    let b := s.btNow
    let mode := s.v .btMode
    if s.timeValid then
      let w := s.wall
      if mode = 2 then
        let was := convert (s.v .btOfs) (s.v .btRate) s.counter - s.v .btUtc * (10 ^ 9 * 2 ^ 16)
        if w < s.v .bt then btSeen s
        else if was + btSlack < w ∧ s.v .bt < w then btJump (holdEnd s)
        else btFollow (holdEnd s)
      else if b + btSlack < w then btJump s
      else if w < b - btSlack then
        let s1 := btHold b s
        if mode = 0 then tariffEval s1 else s1
      else if mode = 0 then tariffEval (btFollow s)
      else btFollow s
    else if mode = 0 then s
    else
      let s1 := if mode = 2 then holdEnd s else s
      tariffEval (flagSpans 0 (((s1.setV .btMode 0 0).setV .bt 0 b).setV .btAt 0 s1.counter))

/-- BT_HOLD_END (R384): W has reached the held value. -/
def btHoldEnd (s : State) : State :=
  if s.bilIdle ∨ s.v .btMode ≠ 2 ∨ s.wall < s.v .bt then s else btFollow (holdEnd s)

/-- BIL at a command-cycle boundary: time first, then an activation that is due, then intervals (R391, R394). -/
def bilBoundary (s : State) : State :=
  if s.bilIdle then s else demRefresh (demDue (calendarActivation (btUpdate s)))

/-- BIL_BT_CAPTURE (R403): billing time and HOLD_LEFT as a read forms them at counter + dt. -/
def btCapture (m : Master) (dt : Nat) (s : State) : State :=
  let t := { s with counter := s.counter + dt }
  let b := t.btNow
  let left := if s.bit Reg.bilStat 2 then secsOf (b - t.wall) else 0
  ((s.wrB m Reg.bilBtSec (secsOf b)).wrB m Reg.bilBtNs (nsOf b * 2 ^ 16 + fracOf b)).wrB m Reg.bilHoldLeft left

/-! Session and reading records (R395 to R399). -/

/-- A time of a record: 6 bytes seconds, 4 bytes nanoseconds. -/
def timeField (t : Int) : List (Nat × Nat) := [(6, secsOf t), (4, nsOf t)]

/-- Growth of a reading, modulo 2^64. -/
def growth (a b : List Nat) (k : Nat) : Nat := (b.getD k 0 + 2 ^ 96 - a.getD k 0) % 2 ^ 96 % 2 ^ 64

/-- Bytes 0 to 239 of a record (R397), REC_NUM still 0. -/
def recordBytes (s : State) (kind session stall mp cause auth ref : Nat) (t0 t1 : Int) (a b : List Nat) (glean first last cnt
    flags cal emaid : Nat) : Nat :=
  packLE ([(1, 1), (1, kind), (6, s.rd Reg.sysIdSerial), (6, 0), (6, session), (1, stall), (1, mp), (1, cause), (1, auth), (4, ref)]
    ++ timeField t0 ++ timeField t1
    ++ [(12, a.getD 0 0), (12, b.getD 0 0), (12, a.getD 1 0), (12, b.getD 1 0)]
    ++ ((List.range 8).map fun k => (8, growth a b (2 + k)))
    ++ [(8, growth a b 10), (8, glean), (6, first), (6, last), (6, cnt), (2, flags), (4, cal), (40, emaid)])

/-- Another enabled stall names the same metering point (R398). -/
def sharedMp (s : State) (x : Sess) : Bool :=
  (List.range 32).any fun t => decide (t ≠ x.stall) && s.bit (Reg.stlCfg t) 0 && decide (s.stallMp t = x.mp)

/-- A session whose span still cannot end at a settlement boundary gets its readings as they stand (R395). -/
def instantSpan (x : Sess) (s : State) : State :=
  let acc := (s.mp x.mp).reading
  if x.ended then s
  else if x.closedAt = 0 then endSpan acc s.now x (if x.begun then s else beginSpan acc s.now x s)
  else if x.openAt ≠ 0 ∧ s.noSamples x.mp then
    endSpan acc (s.timeAt (x.openAt - 1)) x (if x.begun then s else beginSpan acc (s.timeAt (x.closedAt - 1)) x s)
  else s

/-- Compose the record of a closed session whose span has ended (R395, R397). -/
def composeSession (x : Sess) (s : State) : State :=
  let q := s.nextSeq
  let s1 := submit (readingRec x.mp 1 x.endAcc x.sealCnt) s
  let flags := Nat.lor x.flagsEnd (if s1.sharedMp x then 0x800 else 0)
  let r : SRec := ⟨1, x.stall, x.seq, s1.recordBytes 1 x.seq x.stall x.mp x.endCause x.authKind x.authRef x.startT x.endT x.startAcc
    x.endAcc x.glean x.seq q x.sealCnt flags x.calEnd x.emaid⟩
  { s1 with
    bilWait := s1.bilWait ++ [r]
    sessions := s1.sessions.map fun (y : Sess) => if y.stall = x.stall ∧ y.seq = x.seq then { y with seqLast := q } else y }

/-- A session of a stall that has ended and whose record is not composed. -/
def endedSession (s : State) (stall : Nat) : Option Sess :=
  s.sessions.find? fun x => decide (x.stall = stall ∧ x.endCause ≠ 0 ∧ x.seqLast = 0)

/-- The record of a stall's ended session is composed once its contactors' opening is confirmed or timed out (R395). -/
def closeOne (stall : Nat) (s : State) : State :=
  match s.endedSession stall with
  | none => s
  | some x =>
    let s1 := instantSpan x s
    match s1.endedSession stall with
    | some y => if y.ended then composeSession y s1 else s1
    | none => s1

/-- SESSION_CLOSE (R395): acts once the session has ended. Switches and interval ends that are due come first, and the records of
sessions that are ready are made in ascending stall (R394). -/
def sessionClose (stall : Nat) (s : State) : State :=
  if s.bilIdle ∨ s.jnlHalted ∨ s.endedSession stall = none then s
  else eachBelow 32 closeOne (demCompose (demDue s))

/-- A reading record at publication instant `t` (R396). -/
def composeReading (m t : Nat) (s : State) : State :=
  let p := (s.pubSet m).reading
  let time := s.gridTime t
  let cnt := s.rd Reg.metSealCnt
  let old : Rdg := ((s.rdgs.find? fun x => decide (x.1 = m)).map (·.2)).getD ⟨time, p, 0, s.flagsNow⟩
  let last := s.rd Reg.jnlDurable - 1
  let s1 := submit (readingRec m 1 p cnt) s
  let r : SRec := ⟨2, 0xFF, 0, s1.recordBytes 2 0 0xFF m 0 0 0 old.startT time old.acc p 0 old.seq last cnt old.flags
    ((s1.calAct.map (·.id)).getD 0) 0⟩
  { s1.setV .rdgWant m 0 with
    bilWait := s1.bilWait ++ [r]
    rdgs := (s1.rdgs.filter fun x => decide (x.1 ≠ m)) ++ [(m, ⟨time, p, last, s1.flagsNow⟩)] }

/-- The reading records asked for take the publication instant that is about to be shown (R396). -/
def readingsDue (s : State) : State :=
  let t := s.v .pubT - 1
  if s.v .pubT = 0 ∨ (s.gridNs : Int) < t + 1000000 ∨ s.bilIdle then s
  else eachBelow 64 (fun m u => if u.v .rdgWant m ≠ 0 ∧ u.v .rdgWant m - 1 < t then composeReading m t.toNat u else u) s

/-- The count of unsigned records (R426). -/
def unsignedRecord (s : State) : State := s.inc Reg.keyEngStat 32 16 1

/-- RECORD_RELEASE (R399, R426): the oldest composed record takes the next REC_NUM, its signature (free, or zeros where none
can be made) and its BILLING entry; it is released once the entry is durable. -/
def recordRelease (num : Nat) (verdict : Bool) (s : State) : State :=
  let signed_ := verdict && !s.bit Reg.keyState 1
  match s.bilWait with
  | [] => s
  | r :: rest =>
    if s.bilIdle ∨ s.jnlHalted ∨ s.space 3 ∨ s.free < 14 ∨ num ≠ s.rd Reg.bilRecNum + 1 then s
    else
      let sig := if signed_ then s.draw 768 else 0
      let full := r.bytes % 2 ^ 64 + num % 2 ^ 48 * 2 ^ 64 + r.bytes / 2 ^ 112 * 2 ^ 112 + sig * 2 ^ 1920
      let s1 := if signed_ then s.drawn else unsignedRecord s
      let s2 := submit ⟨0xD, 6, r.kind, if r.kind = 1 then r.stall else field r.bytes 168 8, 0, 14, full⟩ s1
      let s3 : State := { s2 with bilWait := rest, bilStore := ((num, full) :: s2.bilStore).take 32768 }
      let s4 := (s3.hw Reg.bilRecNum num).evt 0xD00 21
      if r.kind = 1 then
        { s4 with sessions := s4.sessions.filter fun x => !(decide (x.stall = r.stall) && decide (x.seq = r.seq)) }.trigger r.stall
          .closed
      else s4

/-! Commands and configuration (R402 to R405). -/

/-- The answer to a BIL command. -/
def bilAnswer (code : Nat) (m : Master) (s : State) : Nat :=
  match code with
  | 1 | 3 => if s.role m = 2 then 0x01 else 0x12
  | 2 => 0x01
  | _ => 0x16

/-- DEMAND_RESET (R393). -/
def demandReset (m : Nat) (s : State) : State :=
  let maxima := (List.range 8).map fun k => (4, s.fd (Reg.bilMpMax m k) 0 32)
  eachBelow 8 (fun k t => (t.hw (Reg.bilMpMax m k) 0).hw (Reg.bilMpMaxt m k) 0)
    (submit ⟨0xD, 6, 9, m, 0, 2, packLE ((1, m) :: maxima)⟩ s)

/-- The effect of an accepted BIL command. -/
def bilEffect (code arg : Nat) (s : State) : State :=
  match code with
  | 1 => dropPending s
  | 2 => s.setV .rdgWant (field arg 0 6) (s.gridNs + 1)
  | _ => demandReset (field arg 0 6) s

/-- The answer to a write of BIL_MP_CFG (R402). -/
def bilCfgAnswer (m : Nat) (s : State) : Nat :=
  if (List.range 32).any fun t => decide (s.stallMp t = m) && s.inSession t then 0x15 else 0x01

/-- A committed BIL_MP_CFG. -/
def bilCfgSet (m : Nat) (s : State) : State :=
  let s1 := tariffEval (if s.bit (Reg.bilMpCfg m) 4 then s else demDrop m s)
  demBegin m s1.billNow (s1.fd (Reg.bilMpSel m) 0 3) s1

/-! Resets (R385, R393, R401). -/

/-- BT in the copy that is restored, with the intervals closed at the end of gleaning (R393): before counter and time start
anew. -/
def bilRecover (s : State) : State :=
  match s.newestCopy with
  | none => s
  | some c =>
    let s1 := each s.dems (fun x t => demStop x.1 ⟨c.counter, (c.time / 2 ^ 16).toNat, secsOf c.bt⟩ 0x40 t.demandMin t) s
    let known (m : Nat) (a : Option Nat) : Option Nat := some (a.getD ((s1.mp m).acc.getD 0 0))
    demCompose { s1 with demEnds := s1.demEnds.map fun x =>
      { x with dem := { x.dem with acc := known x.mp x.dem.acc }, acc := known x.mp x.acc } }

/-- BIL at a power-on (R384, R385, R401). -/
def bilPowerOn (had : Bool) (s : State) : State :=
  let s0 := (((s.setV .btMode 0 0).setV .btAt 0 s.counter).hwb Reg.bilStat 2 false)
  let s1 := eachBelow 64 (fun m t =>
    let p := t.mp m
    t.hwf (Reg.bilMpSel m) 0 3 (((p.tarNext.getLast?).map (·.2)).getD p.tar)) s0
  let s2 := if had then s1 else submit (stateRec 0xD 1 0xFFFF 0 1 1) (s1.setV .bt 0 0)
  flagSpans 0 (tariffEval s2)

end Sys2Proof.Machine.State
end

