-- ==== Sys2Proof/Machine/Ctl.lean ====
section
/-! DEFINITION. The contactless tag, its field memory and the two readers (17_contactless.md R435 to R454). -/
namespace Sys2Proof.Machine

/-- Bytes that a card's cascade levels send (R446). -/
def cascade (u : List Byte) : List Byte :=
  if u.length ≤ 4 then u
  else if u.length ≤ 7 then 0x88#8 :: u
  else 0x88#8 :: (u.take 3 ++ 0x88#8 :: u.drop 3)

/-- The bits of a byte string in sending order, least significant first. -/
def bitsOf (l : List Byte) : List Bool := l.flatMap fun b => (List.range 8).map fun i => b.getLsbD i

/-- The branch with bit value 1 comes first (R446). -/
def branchFirst : List Bool → List Bool → Bool
  | a :: t, b :: u => if a = b then branchFirst t u else a
  | _, _ => false

/-- A card before another in the order of resolution: Type A by its branches, Type B after it in the order found. -/
def cardBefore (a b : Card) : Bool :=
  match a.typeB, b.typeB with
  | false, true => true
  | false, false => branchFirst (bitsOf (cascade a.uid)) (bitsOf (cascade b.uid))
  | _, _ => false

/-- Insert a card behind those that are resolved before it. -/
def cardInsert (x : Card) : List Card → List Card
  | [] => [x]
  | y :: t => if cardBefore x y then x :: y :: t else y :: cardInsert x t

/-- The cards of a poll in order of resolution; equal identifiers are one card (R446). -/
def cardSort (l : List Card) : List Card := l.foldl (fun a x => if x ∈ a then a else cardInsert x a) []

/-- Areas of field memory (R437): 0 IDENTITY, 1 STATUS, 2 HOST, 3 FIELD. -/
def fieldArea (off : Nat) : Nat := if off < 0x100 then 0 else if off < 0x1000 then 1 else if off < 0x4000 then 2 else 3

/-- An access of `n` bytes stays in one area (R439). -/
def inArea (off n : Nat) : Bool := decide (off + n ≤ 0x8000) && decide (fieldArea off = fieldArea (off + n - 1))

/-- Code of a result (R449). -/
def verdictCode : CardVerdict → Nat
  | .ok => 1
  | .fail => 2
  | .noProfile => 3

namespace State

/-- The module runs: not gleaning and not off. -/
def running (s : State) : Bool := decide (s.v .gleaning = 0 ∧ s.v .powerOff = 0)

/-- Bytes of field memory. -/
def fmemRead (s : State) (off n : Nat) : List Byte := (List.range n).map fun i => Tab.get (fun _ => 0#8) s.fmem (off + i)

/-- Write bytes of field memory. -/
def fmemWrite (off : Nat) : List Byte → State → State
  | [], s => s
  | b :: t, s => fmemWrite (off + 1) t { s with fmem := Tab.put natLt (fun _ => 0#8) s.fmem off b }

/-! The tag. -/

/-- FIELD_ROLE (R441). -/
def fieldRole (s : State) : Nat := s.fd Reg.ctlTagStat 4 3

/-- A SECURITY record of the field's role session; none while the module is off. -/
def fieldRec (code inst : Nat) (fields : List (Nat × Nat)) (s : State) : State :=
  if s.v .powerOff = 1 then s else submit (rec1 0xF 9 code inst 0 fields) s

/-- The field role session ends: LOGOUT with its reason (R442, R564). -/
def fieldLogout (how : Nat) (s : State) : State :=
  let r := s.fieldRole
  let s1 := s.setV .fieldChal 0 0
  if r = 0 then s1 else fieldRec 2 r [(1, r), (1, 2), (1, how)] (s1.hwf Reg.ctlTagStat 4 3 0)

/-- HARV_OUT follows the field strength (R436), 0.1 A/m. -/
def harvest (strength : Nat) (s : State) : State :=
  let a := Reg.ctlTagStat
  let s1 := s.hwf a 8 8 (min strength 255)
  let on := s.bit Reg.ctlTagCfg 1 && (decide (30 ≤ strength) || (decide (25 ≤ strength) && s.bit a 3))
  s1.hwb a 3 on

/-- FIELD_ENTRY (R435, R436). -/
def fieldEntry (strength : Nat) (s : State) : State :=
  let s1 := harvest strength s
  if s.bit Reg.ctlTagCfg 0 = false ∨ strength < 15 ∨ s.bit Reg.ctlTagStat 0 then s1
  else
    let s2 := (((s1.setV .fieldUid 0 (0x08 + 256 * s1.draw 24 : Nat)).drawn).setV .fieldLast 0 s.counter).hwb Reg.ctlTagStat 0 true
    if s.running then s2.evt 0xF00 16 else s2

/-- FIELD_LOSS (R436, R442). -/
def fieldLoss (s : State) : State :=
  let s1 := fieldLogout 5 (harvest 0 s)
  s1.hwf Reg.ctlTagStat 0 3 0

/-- A field command reaches the tag. -/
def fieldUp (s : State) : Bool := s.bit Reg.ctlTagCfg 0 && s.bit Reg.ctlTagStat 0

/-- The tag answers a command: data and status word; the transaction ends and is counted (R439, R444, R453). -/
def fieldSay (data : List Byte) (sw : Nat) (s : State) : State :=
  (({ s with fieldReply := data ++ toBE 2 sw }.inc Reg.ctlTagStat 16 16 1).hwb Reg.ctlTagStat 2 false).setV .fieldLast 0 s.counter

/-- The module serves the tag (R439, R451): it runs and the key store is READY. -/
def fieldModule (s : State) : Bool := s.running && s.bit Reg.keyState 0

/-- The AID of the Salfoin application (R435). -/
def tagAid : List Byte := [0xF0#8, 0x53#8, 0x46#8, 0x4E#8, 0x4D#8, 0x52#8, 0x4C#8]

/-- ACTIVE: the application is selected. -/
def fieldActive (s : State) : Bool := s.bit Reg.ctlTagStat 1

/-- SELECT (R439). The status word for another AID is free: the spec states none (log entry 6). The row also carries every command whose
CLA or INS the tag does not know; those that have a row of their own come by it. -/
def fieldSelect (cla ins p1 p2 : Nat) (aid : List Byte) (s : State) : State :=
  if s.fieldUp = false then s
  else if cla = 0 ∧ ins = 0xA4 then
    if p1 ≠ 4 ∨ p2 ≠ 0 then fieldSay [] 0x6A86 s
    else if aid = tagAid then fieldSay (toBE 2 1) 0x9000 (s.hwb Reg.ctlTagStat 1 true)
    else fieldSay [] (s.draw 16) s.drawn
  else if cla = 0x80 ∧ ins ∈ [0xB0, 0xD6, 0x84, 0x88, 0x8A] then s
  else if s.fieldActive = false then fieldSay [] 0x6985 s
  else fieldSay [] (if cla = 0 ∨ cla = 0x80 then 0x6D00 else 0x6E00) s

/-- The field's role may read an area, and write it (R437). -/
def areaRight (s : State) (area : Nat) (write : Bool) : Bool :=
  if write then decide (area = 3) && decide (2 ≤ s.fieldRole) else decide (area ≤ 1) || decide (2 ≤ s.fieldRole)

/-- READ (R439). -/
def fieldRead (off le : Nat) (s : State) : State :=
  if s.fieldUp = false then s
  else if s.fieldActive = false then fieldSay [] 0x6985 s
  else if le = 0 ∨ 256 < le then fieldSay [] 0x6700 s
  else if inArea off le = false then fieldSay [] 0x6B00 s
  else if s.areaRight (fieldArea off) false = false then fieldSay [] 0x6982 s
  else fieldSay (s.fmemRead off le) 0x9000 s

/-- WRITE (R439). -/
def fieldWrite (off : Nat) (bs : List Byte) (s : State) : State :=
  let n := bs.length
  if s.fieldUp = false then s
  else if s.fieldActive = false ∨ s.fieldModule = false then fieldSay [] 0x6985 s
  else if n = 0 ∨ 250 < n then fieldSay [] 0x6700 s
  else if inArea off n = false then fieldSay [] 0x6B00 s
  else if s.areaRight (fieldArea off) true = false then fieldSay [] 0x6982 s
  else fieldSay [] 0x9000 (((fmemWrite off bs s).inc Reg.ctlTagCnt 0 16 1).evt 0xF00 18)

/-- GET_CHALLENGE (R439, R441): 96 free bits. -/
def fieldChallenge (p1 p2 le : Nat) (s : State) : State :=
  if s.fieldUp = false then s
  else if s.fieldActive = false ∨ s.fieldModule = false then fieldSay [] 0x6985 s
  else if p1 ≠ 0 ∨ p2 ≠ 0 then fieldSay [] 0x6A86 s
  else if le ≠ 12 then fieldSay [] 0x6700 s
  else fieldSay (toBE 12 (s.draw 96)) 0x9000 ((s.setV .fieldChal 0 (s.v .free + 1)).drawn)

/-- AUTHENTICATE (R441) for role P1: `valid` is the verdict on the signature over the challenge, the role and 0x02. No login where its
record finds no room (R356, log entry 39). -/
def fieldAuth (role p2 len : Nat) (valid : Bool) (s : State) : State :=
  if s.fieldUp = false then s
  else if s.fieldActive = false ∨ s.fieldModule = false then fieldSay [] 0x6985 s
  else if p2 ≠ 0 then fieldSay [] 0x6A86 s
  else if len ≠ 96 then fieldSay [] 0x6700 s
  else
    let s1 := s.setV .fieldChal 0 0
    if (s.counter : Int) < s.v .loginBlockEnd 2 then
      fieldSay [] 0x6983 (fieldRec 4 role [(1, role), (1, 2), (1, 4), (1, 0)] s1)
    else if s.space 3 ∧ reserveRecords ≤ s.n .resUsed then fieldSay [] 0x6982 s1
    else if s.bit Reg.ctlTagCfg 4 && decide (role = 2 ∨ role = 3) && decide (s.v .fieldChal ≠ 0) && valid
        && decide (s.slotAlg role ≠ 0) then
      let s2 := fieldRec 1 role [(1, role), (1, 2)] ((s1.setV .loginFails 2 0).hwf Reg.ctlTagStat 4 3 role)
      fieldSay [] 0x9000 (s2.evt 0xF00 17)
    else
      let n := s.n .loginFails 2 + 1
      let block := decide (3 ≤ n)
      let s2 := s1.setV .loginFails 2 (if block then 0 else n)
      let s3 := if block then s2.setV .loginBlockEnd 2 (s.counter + 60 * 10 ^ 9) else s2
      fieldSay [] 0x6982
        (fieldRec 4 role [(1, role), (1, 2), (1, 2), (1, block.toNat)] (s3.inc Reg.ctlTagCnt 16 16 1))

/-- LOGOUT (R439, R442). -/
def fieldOut (p1 p2 len : Nat) (s : State) : State :=
  if s.fieldUp = false then s
  else if s.fieldActive = false then fieldSay [] 0x6985 s
  else if p1 ≠ 0 ∨ p2 ≠ 0 then fieldSay [] 0x6A86 s
  else if len ≠ 0 then fieldSay [] 0x6700 s
  else fieldSay [] 0x9000 (fieldLogout 5 s)

/-- S(DESELECT) (R442). -/
def fieldDeselect (s : State) : State :=
  if s.fieldUp = false then s else (fieldLogout 5 s).hwf Reg.ctlTagStat 1 2 0

/-- FIELD_SESSION_TIMEOUT (R442): five minutes without a command. -/
def fieldTimeout (s : State) : State :=
  let r := s.fieldRole
  if r = 0 ∨ (s.counter : Int) < s.v .fieldLast + 300 * 10 ^ 9 then s
  else fieldRec 3 r [(1, r), (1, 2)] ((s.setV .fieldChal 0 0).hwf Reg.ctlTagStat 4 3 0)

/-- S(WTX) (R440): WTXM of the expected wait, within 1 to 59, repeated until the response is ready; the transaction runs until then
(R444). -/
def fieldWtx (waitUs : Nat) (s : State) : State :=
  if s.fieldUp = false then s
  else
    let m := max 1 (min 59 ((waitUs + 603) / 604))
    ((s.inc Reg.ctlTagStat 32 16 (max 1 ((waitUs + 59 * 604 - 1) / (59 * 604)))).hwb Reg.ctlTagStat 2 true).setV .fieldWtxm 0 m

/-- IDENTITY is written at start-up (R438, R451). Without a seed there is no IDENTITY key, and its bytes stay. -/
def identityArea (s : State) : State :=
  let b := toLE 6 (s.rd Reg.sysIdPart) ++ toLE 6 (s.rd Reg.sysIdSerial) ++ toLE 1 (s.fd Reg.sysIdRev 0 8)
    ++ toLE 1 (s.fd Reg.sysIdRev 8 8) ++ toLE 2 (s.fd Reg.keyState 16 16)
    ++ (if s.zeroised then s.fmemRead 16 97 else s.builtinPublic 1)
  fmemWrite 0 (b ++ List.replicate (0x100 - b.length) 0#8) s

/-- STATUS_REFRESH (R438). -/
def statusRefresh (s : State) : State :=
  if s.running = false ∨ s.bit Reg.ctlTagStat 2 then s
  else
    let modes := (List.range 32).foldl (fun a t => a + s.mode t * 16 ^ t) 0
    let b := toLE 6 (secsOf s.btNow) ++ toLE 1 (if s.commonSafe then 1 else 0) ++ [0#8] ++ toLE 16 modes
      ++ toLE 4 (s.rd Reg.safTripped) ++ toLE 4 (s.rd Reg.stlSumOos) ++ toLE 6 (s.rd Reg.jnlHead)
      ++ toLE 4 (ofLE (s.fmemRead 0x126 4) + 1)
    fmemWrite 0x100 (b ++ List.replicate (0xF00 - b.length) 0#8) s

/-! Host access (R443, R444). -/

/-- A master's window CTL_MEM_DATA. -/
def memWindow (s : State) (m : Master) : List Byte :=
  ((List.range 43).flatMap fun k => toLE 6 (s.rdB m (Reg.ctlMemData k))).take 256

/-- Fill a master's window. -/
def memFill (bs : List Byte) (m : Master) (s : State) : State :=
  eachBelow 43 (fun k t => t.wrB m (Reg.ctlMemData k) (ofLE (slice bs (6 * k) 6))) s

/-- The masters that an operation answers. -/
def opMasters (o : MemOp) : List Master := if o.both then [.host, .mgmt] else [o.m]

/-- CTL_MEM_STAT and CTL_MEM_SEQ of an operation: STATE 1 WAITING, 2 DONE, 3 BUSY. -/
def memShow (o : MemOp) (st wait : Nat) (s : State) : State :=
  (each (opMasters o) (fun m t =>
    (t.wrB m Reg.ctlMemStat (st + o.page * 4 + min wait 0xFFFF * 2 ^ 16)).wrB m Reg.ctlMemSeq o.seq) s).touch 0xF00

/-- A page operation ends, with its STATE record (R443, R561); `wait` in units of 10 µs. -/
def memEnd (o : MemOp) (st wait : Nat) (s : State) : State :=
  let s1 := memShow o st wait { s with memOps := s.memOps.erase o }
  let s2 := if st = 3 then (s1.inc Reg.ctlTagCnt 32 16 1).evt 0xF00 20 else s1.evt 0xF00 19
  submit (stateRec 0xF 1 o.page 1 st (if o.write then 2 else 1)
    [(6, o.seq), (1, o.m.ix), (2, min wait 0xFFFF)]) s2

/-- The answer to a command of CTL (R443, R453). -/
def ctlAnswer (code arg : Nat) (m : Master) (s : State) : Nat :=
  let p := field arg 0 7
  if code = 1 ∨ code = 2 then
    if s.memOps.any fun o => decide (m ∈ opMasters o) then 0x15
    else if code = 2 ∧ ¬ (16 ≤ p ∧ p ≤ 63) then 0x15
    else 0x01
  else 0x16

/-- The effect: the operation waits (R443). -/
def ctlEffect (code arg : Nat) (m : Master) (both : Bool) (seq : Nat) (s : State) : State :=
  let o : MemOp := ⟨m, both, decide (code = 2), field arg 0 7, if code = 2 then s.memWindow m else [], seq, s.counter⟩
  memShow o 1 0 { s with memOps := s.memOps ++ [o] }

/-- PAGE_OPERATION_BEGIN (R444), `dt` ns after the last boundary: the oldest operation begins in a gap between transactions, or ends BUSY
when 5 ms have passed or the tag does not answer the module (R443, R450). -/
def memBegin (dt : Nat) (reach : Bool) (s0 : State) : State :=
  match s0.memOps with
  | [] => s0
  | o :: _ =>
    if s0.running = false ∨ s0.bit Reg.ctlTagStat 2 then s0
    else
      let s := fault 0x0F01 0 0 0 (!reach) s0
      let wait := s.counter + dt - o.at_
      if 5000000 < wait then memEnd o 3 500 s
      else if !reach then memEnd o 3 (wait / 10000) s
      else
        let s1 := if o.write then fmemWrite (0x100 * o.page) o.data s
          else each (opMasters o) (memFill (s.fmemRead (0x100 * o.page) 0x100)) s
        memEnd o 2 (wait / 10000) s1

/-- PAGE_OPERATION_TIMEOUT (R444): 5 ms after the committing boundary. -/
def memTimeout (m : Master) (s : State) : State :=
  match s.memOps.find? fun o => decide (m ∈ opMasters o) with
  | none => s
  | some o => if s.running = false ∨ s.counter < o.at_ + 5000000 then s else memEnd o 3 500 s

/-! Readers. -/

/-- Cards present on a channel, 0 to 4. -/
def cardsOn (s : State) (c : Nat) : Nat := min 4 (s.cards.filter fun (p : Present) => decide (p.channel = c)).length

/-- A presentation or a removal is journalled (R449). -/
def cardRec (code : Nat) (p : Present) (s : State) : State :=
  submit (rec1 0xF 7 code p.channel 0 [(1, p.channel), (1, p.card.typeB.toNat), (1, p.card.uid.length), (10, ofLE p.card.uid),
    (1, p.auth), (1, s.cardsOn p.channel), (1, p.multi.toNat + 2 * p.overflow.toNat)]) s

/-- A presentation is reported (R447, R449). -/
def cardReport (p : Present) (s : State) : State :=
  let c := p.channel
  let q := s.nextSeq
  let s1 := (s.hw (Reg.ctlRdUidLo c) (ofLE (p.card.uid.take 6))).hw (Reg.ctlRdUidHi c)
    (ofLE (slice p.card.uid 6 4) + p.card.uid.length % 16 * 2 ^ 32 + p.card.typeB.toNat * 2 ^ 36 + p.auth * 2 ^ 37
      + p.multi.toNat * 2 ^ 39)
  let s2 := (s1.inc (Reg.ctlRdCnt c) 0 16 1).hw (Reg.ctlRdLastSeq c) q
  cardRec 1 p (s2.evt 0xF01 (16 + c))

/-- A card the poll has resolved: present already, or presented now or after its authentication (R447, R448). -/
def cardSeen (c : Nat) (multi exceeds : Bool) (x : Card) (s : State) : State :=
  if s.cards.any fun p => decide (p.channel = c ∧ p.card = x) then
    { s with cards := s.cards.map fun (p : Present) => if p.channel = c ∧ p.card = x then { p with missed := 0 } else p }
  else
    let w := s.bit (Reg.ctlRdCfg c) 19 && x.activated
    let p : Present := ⟨c, x, 0, 0, w, multi, exceeds⟩
    let s1 : State := { s with cards := s.cards ++ [p] }
    let s2 := s1.hwf (Reg.ctlRdStat c) 2 3 (s1.cardsOn c)
    if w then s2 else cardReport p s2

/-- A card missed at three consecutive polls is removed (R447). -/
def cardGone (p : Present) (s : State) : State :=
  let s1 : State := { s with cards := s.cards.erase p }
  cardRec 2 p (s1.hwf (Reg.ctlRdStat p.channel) 2 3 (s1.cardsOn p.channel))

/-- FIELD_ON of a reader. -/
def readerOn (c : Nat) (s : State) : State :=
  s.hwb (Reg.ctlRdStat c) 0 (s.bit (Reg.ctlRdCfg c) 0 && !s.bit (Reg.ctlRdStat c) 1)

/-- The antenna check of a poll (R450). -/
def antennaCheck (c : Nat) (bad : Bool) (s : State) : State :=
  let k := if bad then s.n .antBad c + 1 else 0
  let s1 := s.setV .antBad c k
  if k < 3 then s1
  else fault 0x0F01 (1 + c) 0 0 true (((readerOn c (s1.hwb (Reg.ctlRdStat c) 1 true)).evt 0xF01 18).setV .antAt c s1.counter)

/-- The type a channel polls next (R446): both enabled alternate, Type A first. -/
def pollsB (s : State) (c : Nat) : Bool :=
  s.bit (Reg.ctlRdCfg c) 2 && (!s.bit (Reg.ctlRdCfg c) 1 || decide (s.v .pollB c = 1))

/-- READER_POLL (R446, R447, R450): the cards that answer, the collisions resolved, and the antenna current. -/
def readerPoll (c : Nat) (found : List Card) (collisions : Nat) (bad : Bool) (s : State) : State :=
  let cfg := Reg.ctlRdCfg c
  if s.running = false ∨ s.bit cfg 0 = false ∨ s.bit (Reg.ctlRdStat c) 1 ∨ s.ownerFault 0xF01 then s
  else
    let typeB := s.pollsB c
    let ok := cardSort (found.filter fun x => decide (x.typeB = typeB) && (typeB || s.bit cfg 1))
    let l := ok.take 4
    let exceeds := decide (4 < ok.length)
    let multi := decide (1 < l.length)
    let s1 := ((readerOn c s).hwf (Reg.ctlRdStat c) 16 32 (s.fd (Reg.ctlRdStat c) 16 32 + 1)).hwb (Reg.ctlRdStat c) 5 exceeds
    let s2 : State := { s1.inc (Reg.ctlRdCnt c) 16 16 collisions with
      cards := s1.cards.map fun (p : Present) =>
        if p.channel = c ∧ p.card ∉ l then { p with missed := p.missed + 1 } else p }
    let s3 := each (s2.cards.filter fun p => decide (p.channel = c ∧ 3 ≤ p.missed)) cardGone s2
    antennaCheck c bad (each l (cardSeen c multi exceeds) (s3.setV .pollB c (!typeB).toNat))

/-- The card master key is there: Kc can be derived (R412, R448). -/
def cardKey (s : State) (c : Nat) : Bool :=
  let k := s.fd (Reg.ctlRdCfg c) 20 8
  !s.zeroised && decide (s.slotAlg k ≠ 0) && s.bit (Reg.keySlot k) 6

/-- CARD_AUTH (R448): the result of the oldest presentation that waits; without the master key no tag is proved. -/
def cardAuth (c : Nat) (r0 : CardVerdict) (s : State) : State :=
  let r := if r0 = .ok ∧ s.cardKey c = false then .fail else r0
  match s.cards.find? fun p => decide (p.channel = c) && p.wait with
  | none => s
  | some p =>
    if s.running = false then s
    else
      let q : Present := { p with auth := verdictCode r, wait := false }
      let s1 : State := { s with cards := s.cards.map fun (x : Present) => if x = p then q else x }
      cardReport q (if r = .fail then s1.inc (Reg.ctlRdCnt c) 32 16 1 else s1)

/-- ANTENNA_RETRY (R450): once per 10 s. -/
def antennaRetry (c : Nat) (ok : Bool) (s : State) : State :=
  if s.running = false ∨ s.bit (Reg.ctlRdStat c) 1 = false ∨ (s.counter : Int) < s.v .antAt c + 10000000000 then s
  else if ok = false then s.setV .antAt c s.counter
  else fault 0x0F01 (1 + c) 0 0 false (readerOn c ((s.hwb (Reg.ctlRdStat c) 1 false).setV .antBad c 0))

/-- CARD_AUTH 1 needs a CARD_SLOT of PURPOSE GENERAL with DERIVE usage (R448). -/
def ctlCfgAnswer (v : Nat) (s : State) : Nat :=
  let k := field v 20 8
  if field v 19 1 = 1 ∧ (slotReserved k ∨ slotPurpose k ≠ 0 ∨ s.slotAlg k = 0 ∨ s.bit (Reg.keySlot k) 6 = false) then 0x15 else 0x01

/-- The effect of a configuration write: HARV_OUT and the carriers follow (R436, R446). -/
def ctlCfgSet (s : State) : State := readerOn 1 (readerOn 0 (harvest (s.fd Reg.ctlTagStat 8 8) s))

/-- CTL at a power-on: IDENTITY is written, the readers poll (R451). -/
def ctlPowerOn (s : State) : State :=
  let s1 : State := { s.hwf Reg.ctlTagStat 16 32 0 with memOps := [], cards := [] }
  identityArea (readerOn 1 (readerOn 0 ((s1.setV .antBad 0 0).setV .antBad 1 0)))

/-- CTL at a device reset (R451): presences go without records, the field role session ends; page operations go on. -/
def ctlReset (s : State) : State :=
  let s1 : State := { fieldLogout 4 s with cards := [] }
  let s2 := (s1.hwf (Reg.ctlRdStat 0) 2 4 0).hwf (Reg.ctlRdStat 1) 2 4 0
  readerOn 1 (readerOn 0 ((s2.setV .antBad 0 0).setV .antBad 1 0))

/-- CTL block restart (R451): page operations that wait end BUSY. -/
def ctlRestart (s : State) : State := each s.memOps (fun o t => memEnd o 3 ((t.counter - o.at_) / 10000) t) s

end State
end Sys2Proof.Machine
end

