-- ==== Sys2Proof/Machine/Mlk.lean ====
section
/-! DEFINITION. The mains link: zero crossings, link frames, beacons, neighbours and modes (20_mains_link.md R488 to R505). -/
namespace Sys2Proof.Machine.State

/-- The broadcast address (R491). -/
def linkAll : Nat := 0xFFFFFFFFFFFF

/-- STATE of a port (R505): 0 DISABLED, 1 STARTING, 2 UP, 3 DRIVER_OFF. -/
def linkState (s : State) (p : Nat) : Nat := s.fd (Reg.mlkPStat p) 0 2

/-- REF_PHASE of a port. -/
def refPhase (s : State) (p : Nat) : Nat := s.fd (Reg.mlkPCfg p) 2 2

/-- ZX_LOST of an input. -/
def zxLost (s : State) (z : Nat) : Bool := s.bit Reg.mlkStat z

/-- MLK_PORT is on while the port's driver is off or its reference is lost (R489, R490). -/
def linkFault (p : Nat) (s : State) : State :=
  fault 0x0A01 p 0 0 (decide (s.linkState p = 3) || (decide (s.linkState p ≠ 0) && s.zxLost (s.refPhase p))) s

/-- A port enters or leaves DRIVER_OFF, which is journalled once (R490) also where MLK_PORT stays as it is, by a lost reference. -/
def driverMoved (p : Nat) (entry : Bool) (s : State) : State :=
  let t := linkFault p s
  if t.faultOn 0x0A01 p = s.faultOn 0x0A01 p then
    submit (rec1 0xA 3 0xF00 p 0
      ([(2, 1 - entry.toNat), (2, entry.toNat), (2, 0x0A01)] ++ (t.faultDetail 0x0A01 p).map fun d => (6, d))) t
  else t

/-- The MLK block does not work: restarting, gleaning or off. -/
def linkIdle (s : State) : Bool := s.ownerFault 0xA00 || decide (s.v .gleaning = 1) || decide (s.v .powerOff = 1)

/-! Zero crossings (R489). -/

/-- ZERO_CROSSING at counter + dt: the stamp, already less the filter's delay. -/
def zeroCrossing (z dt : Nat) (s : State) : State :=
  if s.linkIdle then s
  else
    let c : Nat := s.counter + dt
    let last := s.v .zxAt (4 * z)
    let s1 := [3, 2, 1].foldl (fun t i => t.setV .zxAt (4 * z + i) (t.v .zxAt (4 * z + i - 1))) s
    let s2 := (s1.setV .zxAt (4 * z) (c + 1 : Nat)).hwb Reg.mlkStat z false
    let T := ((c : Int) + 1 - last).toNat
    let s3 := if z = 0 ∧ last ≠ 0 ∧ T ≠ 0 then s2.hwf Reg.mlkStat 16 16 (min 0xFFFF (10 ^ 12 / T)) else s2
    linkFault 1 (linkFault 0 s3)

/-- ZX_LOST (R489): 40 ms without a rising crossing. -/
def zxLoss (z : Nat) (s : State) : State :=
  let from_ := max (s.v .zxAt (4 * z) - 1) (s.v .zxFrom z)
  if s.linkIdle ∨ (s.counter : Int) < from_ + 40000000 ∨ s.zxLost z then s
  else
    let s1 := (s.hwb Reg.mlkStat z true).evt 0xA00 16
    linkFault 1 (linkFault 0 (if z = 0 then s1.hwf Reg.mlkStat 16 16 0 else s1))

/-- Last period of an input, ns; 0 unknown. -/
def zxPeriod (s : State) (z : Nat) : Nat :=
  if s.v .zxAt (4 * z + 1) = 0 then 0 else (s.v .zxAt (4 * z) - s.v .zxAt (4 * z + 1)).toNat

/-! Neighbours (R498 to R501). -/

/-- The table entry of a neighbour on a port. -/
def neighbour (s : State) (p serial : Nat) : Option Nat :=
  (List.range 16).find? fun e => decide (serial ≠ 0 ∧ s.rd (Reg.mlkNbId p e) = serial)

/-- Neighbours in STAT of a port. -/
def nbCount (p : Nat) (s : State) : State :=
  s.hwf (Reg.mlkPStat p) 3 5 ((List.range 16).filter fun e => decide (s.rd (Reg.mlkNbId p e) ≠ 0)).length

/-- Key of a neighbour on a port. -/
def nbKey (p serial : Nat) : Nat := 2 ^ 48 * p + serial

/-- The fastest mode at or below MODE_MAX that the last 16 frames allow (R501). -/
def nbMode (s : State) (p serial : Nat) : Nat :=
  let h := ((s.linkHist.find? fun x => decide (x.1 = nbKey p serial)).map (·.2)).getD []
  let mx := min 2 (s.fd (Reg.mlkPCfg p) 4 2)
  let good (m : Nat) : Bool := let l := h.filter fun x => decide (x.1 = m); decide ((l.map (·.2)).sum ≤ l.length)
  if good mx then mx else if 1 ≤ mx ∧ good (mx - 1) then mx - 1 else 0

/-- A unicast frame to a neighbour has ended with its resends; 17 stands for a dropped frame, which no average bears. -/
def nbEnded (p serial resends : Nat) (s : State) : State :=
  let k := nbKey p serial
  let h := ((s.linkHist.find? fun x => decide (x.1 = k)).map (·.2)).getD []
  let s1 : State := { s with
    linkHist := (k, (((s.nbMode p serial, resends) :: h).take 16)) :: s.linkHist.filter fun x => decide (x.1 ≠ k) }
  match s1.neighbour p serial with
  | none => s1
  | some e => s1.hwf (Reg.mlkNbStat p e) 8 2 (s1.nbMode p serial)

/-- An entry leaves the table. -/
def nbRemove (p e : Nat) (s : State) : State :=
  let k := nbKey p (s.rd (Reg.mlkNbId p e))
  let s1 : State := { s with
    linkHist := s.linkHist.filter fun x => decide (x.1 ≠ k)
    linkRx := s.linkRx.filter fun x => decide (x.1 ≠ k) }
  (nbCount p ((s1.hw (Reg.mlkNbId p e) 0).hw (Reg.mlkNbStat p e) 0)).evt (0xA01 + p) 18

/-- NEIGHBOUR_AGE_OUT (R500). -/
def nbAge (p e : Nat) (s : State) : State :=
  if s.linkIdle ∨ s.rd (Reg.mlkNbId p e) = 0
      ∨ (s.counter : Int) < s.v .nbAt (16 * p + e) + s.fd Reg.mlkCfg 16 8 * 1000000000 then s
  else nbRemove p e s

/-- The class of an angle given as d of T (R498): 0 L1, 1 L2, 2 L3, 3 none. -/
def phaseClass (d T : Nat) : Nat :=
  let a := d * 360
  if a ≤ 30 * T ∨ 330 * T ≤ a then 0
  else if 90 * T ≤ a ∧ a ≤ 150 * T then 1
  else if 210 * T ≤ a ∧ a ≤ 270 * T then 2
  else 3

/-- The last crossing of ZX0 at or before `zs` with its period. -/
def zxBefore (s : State) (zs : Int) : Option (Int × Nat) :=
  ((List.range 3).find? fun i => decide (s.v .zxAt (i + 1) ≠ 0 ∧ s.v .zxAt i - 1 ≤ zs)).map fun i =>
    (s.v .zxAt i - 1, (s.v .zxAt i - s.v .zxAt (i + 1)).toNat)

/-- An observation of a neighbour (R499). -/
def observe (p e cls angle : Nat) (s : State) : State :=
  let a := Reg.mlkNbStat p e
  let i := 16 * p + e
  let run := if cls = 3 then 0 else if s.v .nbClass i = cls then min 15 (s.fd a 3 4 + 1) else 1
  let s1 := ((s.setV .nbClass i cls).hwf a 3 4 run).hwf a 16 8 angle
  let ident := s.bit a 2
  let old := s.fd a 0 2
  if run ≠ 8 ∨ (ident ∧ old = cls) then s1
  else
    let s2 := ((s1.hwf a 0 2 cls).hwb a 2 true).evt (0xA01 + p) 19
    let s3 := if ident then s2 else s2.evt 0xA00 17
    submit (stateRec 0xA 1 p old cls (if ident then 2 else 1) [(6, s.rd (Reg.mlkNbId p e))]) s3

/-- A valid beacon of a sender, its preamble stamped at `c` (R498 to R500). -/
def beacon (p src : Nat) (c : Int) (attenDb : Nat) (payload : List Byte) (s : State) : State :=
  let put (e : Nat) (t : State) : State :=
    let a := Reg.mlkNbStat p e
    let t1 := (((t.setV .nbAt (16 * p + e) c).hwf a 10 6 (min 63 attenDb)).hwf a 32 16 0).hwf a 8 2 (t.nbMode p src)
    let zs := c - leAt payload 2 4
    match t1.zxBefore zs with
    | none => t1
    | some (z1, T) =>
      if t1.zxLost 0 ∨ T < 15384616 ∨ 22222222 < T then t1
      else
        let d := (zs - z1).toNat % T
        observe p e (phaseClass d T) (d * 256 / T) t1
  match s.neighbour p src with
  | some e => put e s
  | none =>
    match (List.range 16).find? fun e => decide (s.rd (Reg.mlkNbId p e) = 0) with
    | none => s.inc (Reg.mlkPBcn p) 32 16 1
    | some e =>
      let s1 := ((s.hw (Reg.mlkNbId p e) src).hw (Reg.mlkNbStat p e) 3).setV .nbClass (16 * p + e) 3
      put e ((nbCount p s1).evt (0xA01 + p) 17)

/-! Frames (R491 to R497). -/

/-- The bytes of a link frame (R491). -/
def linkBytes (dst src ty lseq : Nat) (payload : List Byte) : List Byte :=
  let b := toLE 6 dst ++ toLE 6 src ++ toLE 1 ty ++ toLE 1 lseq ++ toLE 2 payload.length ++ payload
  b ++ toLE 4 (crc32c b)

/-- A relay message waits on every port of PORTS on which its addressee is in the table (R502). -/
def linkRelay (dst prio : Nat) (payload : List Byte) (s : State) : State :=
  eachBelow 2 (fun p t =>
    if t.bit Reg.updRelayCfg (2 + p) ∧ (t.neighbour p dst).isSome ∧ t.linkState p ≠ 0 then
      { t with linkTx := t.linkTx ++ [LinkOut.mk p prio dst 2 payload t.counter false 0 0] }
    else t) s

/-- BEACON_DUE (R497): the last crossing of REF_PHASE is the first one after a multiple of BCN_PERIOD. -/
def beaconDue (p : Nat) (s : State) : State :=
  let z := s.refPhase p
  let at_ := s.v .zxAt (4 * z)
  let k (c : Int) : Int := secsOf (s.timeAt (c - 1).toNat) / s.fd Reg.mlkCfg 8 8 + 1
  let before := s.v .zxAt (4 * z + 1)
  if s.linkIdle ∨ s.bit Reg.mlkCfg 0 = false ∨ s.linkState p < 2 ∨ s.zxLost z ∨ at_ = 0 ∨ k at_ = s.v .bcnK p
      ∨ (before ≠ 0 ∧ k before = k at_) then s
  else { s.setV .bcnK p (k at_) with linkTx := s.linkTx ++ [LinkOut.mk p 3 linkAll 1 [] (at_ - 1).toNat false 0 0] }

/-- BEACON_ABANDONED (R497): not started within 20 ms of the crossing. -/
def beaconAbandoned (p : Nat) (s : State) : State :=
  match s.linkTx.find? fun f => decide (f.port = p ∧ f.ty = 1) && !f.sent with
  | none => s
  | some f =>
    if s.linkIdle ∨ s.counter < f.at_ + 20000000 then s
    else { s.inc (Reg.mlkPBcn p) 16 16 1 with linkTx := s.linkTx.erase f }

/-- The frame that a port sends next (R494): the highest priority, then the oldest. -/
def linkNext (s : State) (p : Nat) : Option LinkOut :=
  match s.linkTx.filter fun f => decide (f.port = p) && !f.sent with
  | [] => none
  | x :: rest => some (rest.foldl (fun b f => if b.prio < f.prio then f else b) x)

/-- Beacons that have not started within 20 ms of their crossing are abandoned and counted (R497). -/
def beaconsLate (p : Nat) (s : State) : State :=
  let late (f : LinkOut) : Bool := decide (f.port = p ∧ f.ty = 1 ∧ f.at_ + 20000000 < s.counter) && !f.sent
  let l := s.linkTx.filter late
  if s.linkIdle ∨ l = [] then s else { s.inc (Reg.mlkPBcn p) 16 16 l.length with linkTx := s.linkTx.filter fun f => !late f }

/-- BACKOFF_END (R494): the port sends. A broadcast is done with; a unicast frame waits for its acknowledgement. -/
def backoffEnd (p : Nat) (s0 : State) : State :=
  let s := beaconsLate p s0
  match s.linkNext p with
  | none => s
  | some f =>
    if s.linkIdle ∨ s.linkState p ≠ 2 then s
    else
      let q := (s.n .mlkSeq p + 1) % 256
      let body := if f.ty = 1 then
          toLE 1 (s.refPhase p) ++ toLE 1 (s.fd (Reg.mlkPCfg p) 1 1) ++ toLE 4 (s.counter - f.at_) ++ toLE 4 (s.zxPeriod (s.refPhase p))
        else f.payload
      let b := linkBytes f.dst (s.rd Reg.sysIdSerial) f.ty q body
      let s1 := (s.setV .mlkSeq p q).inc (Reg.mlkPTx p) 0 48 1
      let rest := s1.linkTx.erase f
      let s2 : State := { s1 with
        linkSent := (p, b) :: s1.linkSent.filter fun x => decide (x.1 ≠ p)
        linkTx := if f.dst = linkAll then rest else rest ++ [{ f with sent := true, lseq := q }] }
      if f.ty = 1 then s2.inc (Reg.mlkPBcn p) 0 16 1 else s2

/-- LINK_ACK (R492): failed blocks are resent up to 8 times, then the frame is dropped. -/
def linkAck (p lseq : Nat) (ok : Bool) (s : State) : State :=
  match s.linkTx.find? fun f => decide (f.port = p ∧ f.lseq = lseq) && f.sent with
  | none => s
  | some f =>
    if s.linkIdle then s
    else
      let s1 : State := { s with linkTx := s.linkTx.erase f }
      if ok then nbEnded p f.dst f.resends s1
      else if f.resends < 8 then
        { s.inc (Reg.mlkPErr p) 0 16 1 with
          linkTx := s.linkTx.map fun (x : LinkOut) => if x = f then { f with resends := f.resends + 1 } else x }
      else nbEnded p f.dst 17 (s1.inc (Reg.mlkPErr p) 16 16 1)

/-- LINK_FRAME_RECEIVED at counter + dt (R491, R492): the state, and the relay message that it delivers. -/
def linkFrame (p : Nat) (b : List Byte) (dt attenDb : Nat) (s : State) : State × Option (List Byte) :=
  let n := b.length
  let dst := leAt b 0 6
  let src := leAt b 6 6
  let len := leAt b 14 2
  let k := nbKey p src
  let q := leAt b 13 1
  if s.linkIdle ∨ s.linkState p < 2 then (s, none)
  else if n < 21 ∨ leAt b (n - 4) 4 ≠ crc32c (b.take (n - 4)) then (s.inc (Reg.mlkPErr p) 16 16 1, none)
  else if leAt b 12 1 = 0 ∨ 2 < leAt b 12 1 ∨ (dst ≠ linkAll ∧ dst ≠ s.rd Reg.sysIdSerial) ∨ len + 20 ≠ n ∨ 1084 < len then (s, none)
  else
    let s1 := s.inc (Reg.mlkPRx p) 0 48 1
    if leAt b 12 1 = 1 then
      (if len = 10 then beacon p src (s.counter + dt : Nat) attenDb (slice b 16 10) s1 else s1, none)
    else if dst ≠ linkAll ∧ s.linkRx.any (fun x => decide (x = (k, q))) then (s1, none)
    else
      ({ s1 with linkRx := if dst = linkAll then s1.linkRx
          else (k, q) :: s1.linkRx.filter fun x => decide (x.1 ≠ k ∨ (q + 256 - x.2) % 256 < 64) },
        some (slice b 16 len))

/-- NOISE_TIMEOUT (R495): the port treats the medium as idle. -/
def noiseTimeout (p : Nat) (s : State) : State :=
  if s.linkIdle ∨ s.linkState p < 2 then s else s.inc (Reg.mlkPErr p) 32 16 1

/-- DRIVER_OFF (R490). -/
def driverOff (p : Nat) (s : State) : State :=
  if s.linkIdle ∨ s.linkState p ≠ 2 then s
  else
    let a := Reg.mlkPStat p
    driverMoved p true ((((s.hwf a 0 2 3).hwb a 2 true).setV .mlkOffAt p s.counter).evt (0xA01 + p) 16)

/-- DRIVER_RETRY (R490): 10 s later. -/
def driverRetry (p : Nat) (s : State) : State :=
  if s.linkIdle ∨ s.linkState p ≠ 3 ∨ (s.counter : Int) < s.v .mlkOffAt p + 10000000000 then s
  else
    let a := Reg.mlkPStat p
    driverMoved p false ((s.hwf a 0 2 2).hwb a 2 false)

/-! Configuration, commands, resets. -/

/-- A port runs, or is DISABLED, as its EN says; frames in flight are lost. -/
def linkStart (p : Nat) (s : State) : State :=
  let a := Reg.mlkPStat p
  let s1 : State := { s with linkTx := s.linkTx.filter fun f => decide (f.port ≠ p) }
  (if s.linkState p = 3 then driverMoved p false else linkFault p)
    ((s1.hwf a 0 2 (if s1.bit (Reg.mlkPCfg p) 0 then 2 else 0)).hwb a 2 false)

/-- The effect of a port's configuration write: EN starts and stops it. -/
def mlkCfgSet (p : Nat) (s : State) : State :=
  if s.bit (Reg.mlkPCfg p) 0 = decide (s.linkState p ≠ 0) then linkFault p s else linkStart p s

/-- The answer to a configuration write (R488): COUPLE3 is for ML0. -/
def mlkCfgAnswer (p v : Nat) : Nat := if p = 1 ∧ field v 1 1 = 1 then 0x15 else 0x01

/-- The answer to a command of MLK (R504). -/
def mlkAnswer (code : Nat) : Nat := if code = 1 ∨ code = 2 then 0x01 else 0x16

/-- Empty a port's neighbour table. -/
def nbClear (p : Nat) (s : State) : State :=
  eachBelow 16 (fun e t => if t.rd (Reg.mlkNbId p e) = 0 then t else nbRemove p e t) s

/-- The effect of a command of MLK (R504). -/
def mlkEffect (code arg : Nat) (s : State) : State :=
  let p := field arg 0 1
  if code = 1 then linkStart p s else nbClear p s

/-- Seconds since each neighbour's last beacon (R505), at each whole second. -/
def mlkRefresh (s : State) : State :=
  eachBelow 32 (fun i t =>
    if t.rd (Reg.mlkNbId (i / 16) (i % 16)) = 0 then t
    else t.hwf (Reg.mlkNbStat (i / 16) (i % 16)) 32 16 (min 0xFFFF (((t.counter : Int) - t.v .nbAt i) / 1000000000).toNat)) s

/-- Ports restart from the configuration in force: power-on, device reset or MLK restart (R502). -/
def mlkRestart (s : State) : State := linkStart 1 (linkStart 0 s)

/-- The time base of the counters that MLK holds begins again with the counter, at power-on. -/
def mlkPowerOn (s : State) : State :=
  let s1 : State := { s with linkSent := [], linkHist := [], linkRx := [] }
  let s2 := eachBelow 12 (fun i t => t.setV .zxAt i 0) s1
  mlkRestart (eachBelow 3 (fun i t => (t.setV .zxFrom i 0).setV .bcnK i 0) s2)

end Sys2Proof.Machine.State
end

