-- ==== Sys2Proof/Machine/SafLink.lean ====
section
/-! DEFINITION. The twin-path safety link (11_safety_functions.md R307 to R310, R318). -/
namespace Sys2Proof.Machine.State

/-- SL_CFG of the active set. -/
def slCfg (s : State) : Nat := s.safeRd Reg.slCfg

/-- WD_MS in ns. -/
def slWd (s : State) : Nat := field s.slCfg 16 8 * 1000000

/-- MODE_2OO2: integrity mode (R308). -/
def slIntegrity (s : State) : Bool := maskBit s.slCfg 1

/-- The peer is enabled and the link runs. -/
def slPeerOn (s : State) (p : Nat) : Bool := maskBit s.slCfg 0 && maskBit (s.safeRd (Reg.slPeerMap p)) 16

/-- Bytes 0 to 19 of the frame for a path (R307). Bits 0 to 14 of TRIP are the filtered pins, bit 15 the common safe
state, each 0 when asserted. -/
def slBody (s : State) (path : Nat) : List Byte :=
  let trip := ((List.range 15).map fun k => if s.v .tinFilt k = 1 then 0 else 2 ^ k).sum
    + (if s.commonSafe then 0 else 2 ^ 15)
  toLE 1 1 ++ toLE 1 (path + 2 * s.slIntegrity.toNat) ++ toLE 6 (s.rd Reg.sysIdSerial) ++ toLE 4 (s.n .slSeq)
    ++ toLE 2 trip ++ toLE 2 (0xFFFF - trip) ++ toLE 4 0

/-- The 46 payload bytes of the frame for a path (R307). -/
def slFrame (s : State) (path : Nat) : List Byte :=
  let b := s.slBody path
  b ++ toLE 4 (crc32c b) ++ toLE 4 (crc32 b) ++ toLE 18 0

/-- SAFETY_LINK_TRANSMIT (R307, R309): once per TX_PERIOD; frames go only if both channels composed the same bytes, and
SEQ advances in any case. -/
def slTransmit (same : Bool) (s : State) : State :=
  let per := field s.slCfg 8 8 * 1000000
  let k := s.counter / per + 1
  if s.v .slTxAt = k then s
  else
    let s1 := (s.setV .slTxAt 0 k).setV .slSeq 0 ((s.n .slSeq + 1) % 2 ^ 32 : Nat)
    if maskBit s.slCfg 0 = false then s1
    else if same then { s1.inc Reg.slCnt 0 16 2 with
      slSent := [0, 1].map fun path => ⟨s.safeRd Reg.slDst, 0x88B6, 7, s.slFrame path⟩ }
    else channelExchange true s1

/-- The bits of a peer that act (R310): bit 15 only with COMMON_FOLLOW. -/
def slActing (s : State) (p : Nat) : Nat :=
  if s.slPeerOn p then
    let rx := field (s.safeRd (Reg.slPeerMap p)) 0 16
    if s.v .slExpired p = 1 then rx else Nat.land (s.n .slBits p) rx
  else 0

/-- The logical trip inputs and the common safe state follow a peer's bits (R310). -/
def slApply (p : Nat) (s : State) : State :=
  let s0 := sourcesSeen s
  let a := s0.slActing p
  let s1 := eachBelow 15 (fun k u =>
    let old := u.n .tinLink k
    let new := setField old p 1 (if maskBit a k then 1 else 0)
    if new = old then u else tinRefresh k (u.setV .tinLink k new)) s0
  let s2 := s1.setV .linkCommon p (if maskBit a 15 then 1 else 0)
  if maskBit a 15 then commonOnce 7 p s2 else s2

/-- A change of SL_PEERp_STAT bits [3:0]: the register, the PEER record (R563), events (R318) and the fault of a degraded
path (R517), whose record the PEER record is (R561). -/
def slStat (p new : Nat) (s : State) : State :=
  let old := s.fd (Reg.slPeerStat p) 0 4
  if old = new then s
  else
    let q := s.safetySeq
    let s1 := submit (rec1 9 8 8 p 0 [(1, 0), (1, p), (4, 0), (1, new), (1, old)]) (s.hwf (Reg.slPeerStat p) 0 4 new)
    let s2 := if maskBit old 0 && !maskBit new 0 then s1.evt 0x903 (16 + p) else s1
    let s3 := if maskBit new 3 && !maskBit old 3 then s2.evt 0x903 (20 + p) else s2
    faultMove 0x0904 p 0 0 (maskBit new 3) q s3

/-- UP, E0_OK, E1_OK and DEGRADED from a peer's counters (R308, R310). -/
def slRefresh (p : Nat) (s : State) : State :=
  let old := s.fd (Reg.slPeerStat p) 0 4
  let up := maskBit old 0 || decide (16 ≤ s.v .slRun p)
  let ok (k : Nat) := decide (s.v .slPathLost (2 * p + k) = 0) && (maskBit old (1 + k)
    || decide (16 ≤ s.v .slPathRun (2 * p + k)) || (s.slIntegrity && decide (16 ≤ s.v .slRun p)))
  let deg := !s.slIntegrity && (decide (s.v .slPathLost (2 * p) = 1) || decide (s.v .slPathLost (2 * p + 1) = 1))
  let s1 := if up then s.setV .slExpired p 0 else s
  slStat p (up.toNat + 2 * (ok 0).toNat + 4 * (ok 1).toNat + 8 * deg.toNat) s1

/-- A SEQ of a peer is accepted with its asserted bits (R308). -/
def slAccept (p seq bits : Nat) (s : State) : State :=
  let next := decide (s.v .slRef p = (seq + 2 ^ 32 - 1) % 2 ^ 32 + 1)
  let s1 := ((s.setV .slRef p (seq + 1)).setV .slAccAt p s.counter).setV .slRun p (if next then s.v .slRun p + 1 else 1)
  slRefresh p ((s1.setV .slBits p bits).hwf (Reg.slPeerStat p) 16 16 (0xFFFF - bits))

/-- A valid copy counts for its path (R308, R310). -/
def slPathSeen (p path : Nat) (s : State) : State :=
  let i := 2 * p + path
  let s1 := (s.setV .slPathAt i s.counter).addV .slPathRun i 1
  if s1.v .slPathLost i = 1 ∧ 16 ≤ s1.v .slPathRun i then s1.setV .slPathLost i 0 else s1

/-- The sender of a frame among the enabled peers (R308). -/
def slSender (s : State) (f : List Byte) : Option Nat :=
  (List.range 4).find? fun p => s.slPeerOn p && decide (s.safeRd (Reg.slPeer p) = leAt f 2 6)

/-- A copy is sound apart from its place in the sequence (R308): version, both checks, the complement. -/
def slSound (f : List Byte) : Bool :=
  decide (28 ≤ f.length ∧ leAt f 0 1 = 1 ∧ leAt f 20 4 = crc32c (f.take 20) ∧ leAt f 24 4 = crc32 (f.take 20)
    ∧ leAt f 14 2 = 0xFFFF - leAt f 12 2)

/-- SAFETY_LINK_COPY (R308, R309): a copy that arrives on E0 or E1. Every bit it shows asserted acts at once. -/
def slCopy (path : Nat) (f : List Byte) (s : State) : State :=
  if maskBit s.slCfg 0 = false ∨ 2 ≤ path then s
  else
    match s.slSender f with
    | none => s.inc Reg.slCnt 16 16 1
    | some p =>
      if !slSound f then (s.inc Reg.slCnt 16 16 1).setV .slPathRun (2 * p + path) 0
      else
        let seq := leAt f 8 4
        let bits := 0xFFFF - leAt f 12 2
        let s0 := s.setV .slBits p (Nat.lor (s.n .slBits p) bits)
        let ref := s.v .slRef p
        let ahead := (seq + 2 ^ 32 - ref.toNat + 1) % 2 ^ 32
        let fresh := decide (ref = 0 ∨ (1 ≤ ahead ∧ ahead ≤ 64))
        let partner := s.slCopies.find? fun x =>
          decide (x.peer = p ∧ x.seq = seq ∧ x.path ≠ path ∧ s.counter ≤ x.counter + 2000000)
        let drop : State → State := fun u => { u with slCopies := u.slCopies.filter fun (x : SlCopy) => decide (x.peer ≠ p ∨ x.seq ≠ seq) }
        let keep : State → State := fun u =>
          { u with slCopies := u.slCopies ++ [SlCopy.mk p path s.counter seq (slice f 2 18)] }
        let out :=
          match partner with
          | some x =>
            if s.slIntegrity then
              let s1 := drop (slPathSeen p path s0)
              if fresh && decide (x.body = slice f 2 18) then slAccept p seq bits s1 else s1
            else
              let s1 := drop (slPathSeen p path s0)
              slRefresh p (s1.hwf (Reg.slPeerStat p) 16 16 (0xFFFF - s1.n .slBits p))
          | none =>
            if fresh then
              let s1 := keep (slPathSeen p path s0)
              if s.slIntegrity then slRefresh p s1 else slAccept p seq bits s1
            else (s0.inc Reg.slCnt 16 16 1).setV .slPathRun (2 * p + path) 0
        slApply p out

/-- PAIR_TIMEOUT (R308): copies of a peer whose partner has not come within 2 ms. -/
def slPairTimeout (p : Nat) (s : State) : State :=
  let late := s.slCopies.filter fun x => decide (x.peer = p ∧ x.counter + 2000000 < s.counter)
  { s.inc Reg.slCnt 32 16 late.length with
    slCopies := s.slCopies.filter fun (x : SlCopy) => !decide (x.peer = p ∧ x.counter + 2000000 < s.counter) }

/-- SAFETY_LINK_WATCHDOG (R308, R310): no accepted SEQ of a peer, or no valid copy of it on a path, for WD_MS. -/
def slWatchdog (p : Nat) (path : Option Nat) (s : State) : State :=
  if s.slPeerOn p = false then s
  else match path with
  | none =>
    if s.v .slAccAt p + s.slWd ≤ s.counter ∧ ¬ (s.v .slExpired p = 1 ∧ s.v .slRef p = 0) then
      let s1 := (((s.setV .slExpired p 1).setV .slRef p 0).setV .slRun p 0).inc (Reg.slPeerStat p) 32 16 1
      let old := s1.fd (Reg.slPeerStat p) 0 4
      let new := setField old 0 1 0
      slApply p (slStat p (if s1.slIntegrity then setField new 1 2 0 else new) s1)
    else s
  | some k =>
    let i := 2 * p + k % 2
    if s.slIntegrity = false ∧ s.v .slPathAt i + s.slWd ≤ s.counter ∧ s.v .slPathLost i = 0 then
      slRefresh p ((s.setV .slPathLost i 1).setV .slPathRun i 0)
    else s

/-- A peer is awaited anew (R309): no reference, not UP. -/
def slAwait (p : Nat) (s : State) : State :=
  let s1 := (((s.setV .slRef p 0).setV .slAccAt p s.counter).setV .slRun p 0).setV .slExpired p 0
  eachBelow 2 (fun k u =>
    ((u.setV .slPathAt (2 * p + k) u.counter).setV .slPathRun (2 * p + k) 0).setV .slPathLost (2 * p + k) 0)
    (s1.setV .slBits p 0)

/-- The link follows a new active set: a peer enabled is awaited, one no longer enabled delivers nothing (R309). -/
def slFollow (before : State) (s : State) : State :=
  eachBelow 4 (fun p u =>
    if before.slPeerOn p = u.slPeerOn p then slApply p u
    else slApply p (slStat p 0 (slAwait p u))) s

/-- The link at a power-on (R309): SEQ begins at SYS_ID_RESTARTS x 2^20, no peer has a reference. -/
def slPowerOn (s : State) : State :=
  let s1 := { s with slCopies := [], slSent := [] }
  let s2 := (s1.setV .slSeq 0 (s1.rd Reg.sysIdRestarts * 2 ^ 20 % 2 ^ 32 : Nat)).setV .slTxAt 0 0
  eachBelow 4 (fun p u => slAwait p (u.hwf (Reg.slPeerStat p) 0 4 0)) s2

end Sys2Proof.Machine.State
end

