-- ==== Sys2Proof/Machine/Net.lean ====
section
/-! DEFINITION. The Ethernet switch: forwarding, queues, safety ports, link loss and re-qualification (19_ethernet_ports.md R476 to
R487). -/
namespace Sys2Proof.Machine.State

/-- STATE of a port (R486): 0 DISABLED, 1 DOWN, 2 QUALIFYING, 3 UP, 4 LATCHED, 5 TAKEN_OUT. -/
def portState (s : State) (p : Nat) : Nat := s.fd (Reg.netPStat p) 0 3

/-- SAFETY_PORTS. -/
def safetyPorts (s : State) : Bool := s.bit Reg.netCfg 0

/-- The switch works. -/
def netRuns (s : State) : Bool := !s.ownerFault 0x300 && decide (s.v .gleaning = 0 ∧ s.v .powerOff = 0)

/-- A counter that its page shows at its period. -/
def tally (a lo w n : Nat) (s : State) : State := s.wrf a lo w (s.fd a lo w + n)

/-- NET_STAT (R485). -/
def netShow (s : State) : State :=
  let mask (k : Nat) : Nat := ((List.range 4).filter fun p => decide (s.portState p = k)).foldl (fun a p => a + 2 ^ p) 0
  s.hw Reg.netStat (mask 3 + mask 2 * 2 ^ 4 + mask 4 * 2 ^ 8 + s.safetyPorts.toNat * 2 ^ 12 + min 2048 s.macs.length * 2 ^ 16)

/-! Egress (R478). -/

/-- Wire time of a frame at a port's speed, ns: its bytes, preamble and gap. -/
def wireNs (s : State) (p len : Nat) : Nat :=
  (len + 20) * (match s.fd (Reg.netPStat p) 3 2 with | 2 => 80 | 3 => 800 | _ => 8)

/-- The frame that leaves a port next, and when: strict priority among the frames that wait when the wire is free. -/
def ethNext (s : State) (p : Nat) : Option (EthOut × Nat) :=
  let l := s.ethQ.filter fun f => decide (f.port = p)
  match l with
  | [] => none
  | x :: _ =>
    let t := max (s.n .ethFree p) (l.foldl (fun a f => min a f.at_) x.at_)
    match l.filter fun f => decide (f.at_ ≤ t) with
    | [] => none
    | y :: rest => some (rest.foldl (fun b f => if b.queue < f.queue then f else b) y, t)

/-- Frames that have started to leave a port by `c`. -/
def ethDrain (c p : Nat) : Nat → State → State
  | 0, s => s
  | k + 1, s =>
    match s.ethNext p with
    | none => s
    | some (f, t) =>
      if c < t then s
      else
        let s1 : State := { s with ethQ := s.ethQ.erase f }
        ethDrain c p k (tally (Reg.netPTx p) 0 48 1 (s1.setV .ethFree p (t + s.wireNs p f.len : Nat)))

/-- Every port sends what it can by now. -/
def ethSend (s : State) : State :=
  if s.netRuns then eachBelow 4 (fun p t => ethDrain t.counter p (t.ethQ.length + 1) t) s else s

/-- A frame enters an egress queue of 64 KiB, or is dropped and counted (R478, R481). -/
def ethEnqueue (p queue len : Nat) (s : State) : State :=
  if s.portState p ≠ 3 ∨ s.netRuns = false then s
  else
    let s1 := ethDrain s.counter p (s.ethQ.length + 1) s
    let used := ((s1.ethQ.filter fun f => decide (f.port = p ∧ f.queue = queue)).map (·.len)).sum
    if 65536 < used + len then tally (Reg.netPDrop p) 0 16 1 s1
    else ethDrain s.counter p 1 { s1 with ethQ := s1.ethQ ++ [EthOut.mk p queue len s.counter] }

/-- Queue of a frame (R478). -/
def ethQueue (f : EthFrame) : Nat :=
  match f.ptp, f.pcp with
  | some true, _ => 3
  | some false, some 7 => 3
  | some false, _ => 2
  | none, some 7 => 3
  | none, some 5 | none, some 6 => 2
  | none, some 2 | none, some 3 | none, some 4 => 1
  | none, _ => 0

/-- Bytes of an untagged frame with a message of PTP (IEEE 1588-2019 over IEEE 802.3), at least 64. -/
def ptpBytes : PtpKind → Nat
  | .announce => 82
  | .pdelayReq | .pdelayResp | .pdelayRespFollowUp => 72
  | .delayResp => 72
  | _ => 64

/-- The PTP messages of an event go to their ports' queues: event messages to queue 3, the others to queue 2 (R478). -/
def ptpSent (s : State) : State :=
  each s.ptpOut (fun x t => ethEnqueue x.port (if eventKind x.kind then 3 else 2) (ptpBytes x.kind) t) s

/-- Bytes of a frame that a block sends, with its addresses, tag, EtherType and check sequence. -/
def EthTx.bytes (b : EthTx) : Nat := max 64 (b.body.length + 22)

/-- The safety-link frames of a transmit period leave on E0 and E1 (R307). -/
def slSentOut (before : State) (s : State) : State :=
  if s.v .slTxAt = before.v .slTxAt ∨ maskBit s.slCfg 0 = false then s
  else match s.slSent with
    | [x, y] => ethEnqueue 1 3 (EthTx.bytes y) (ethEnqueue 0 3 (EthTx.bytes x) s)
    | _ => s

/-- The balance frames of a tick leave on the ports of PORTS (R164), each with its addresses, tag, EtherType and check sequence. -/
def balSentOut (before : State) (s : State) : State :=
  if s.v .balTick = before.v .balTick then s
  else each s.balSent (fun b t => eachBelow 4 (fun p u =>
    if (u.balAsOf ((u.v .balTick).toNat - 1)).bit Reg.balNbCfg (2 + p) then ethEnqueue p 2 (EthTx.bytes b) u else u) t) s

/-! States (R480, R481). -/

/-- A port's address entries go. -/
def macsDrop (p : Nat) (s : State) : State := { s with macs := s.macs.filter fun x => decide (x.2.1 ≠ p) }

/-- A port that leaves UP loses its queues, its address entries and the frame on its wire (R481). -/
def portEmpty (p : Nat) (s : State) : State :=
  let q := (s.ethQ.filter fun f => decide (f.port = p)).length + (if s.counter < s.n .ethFree p then 1 else 0)
  let s1 : State := { s with ethQ := s.ethQ.filter fun f => decide (f.port ≠ p) }
  macsDrop p (tally (Reg.netPDrop p) 0 16 q ((s1.setV .ethFree p 0).hwf (Reg.netPStat p) 3 2 0))

/-- A port changes state; entries into and exits from DOWN, LATCHED and TAKEN_OUT are journalled (R482, R561). The exit from DOWN
is the entry into UP. -/
def setPort (p new cause : Nat) (s : State) : State :=
  let old := s.portState p
  if old = new then s
  else
    let s0 := if old = 3 then ptpPortDown p (portEmpty p s) else if new = 3 then ptpPortUp p s else s
    let s1 := (if new = 2 ∨ new = 3 then s0 else s0.hwf (Reg.netPStat p) 3 2 0).hwf (Reg.netPStat p) 0 3 new
    let s2 := if new = 1 then ((s1.inc (Reg.netPStat p) 16 16 1).evt 0x300 (16 + p)) else s1
    let s3 := if new = 4 then s2.evt 0x300 (20 + p) else s2
    let q := s3.nextSeq
    let quiet := decide (new = 2) || (decide (old = 0 ∨ old = 3) && decide (new = 0))
    let s4 := if quiet then s3 else submit (stateRec 3 1 p old new cause) s3
    netShow (faultMove 0x0302 p 0 0 (decide (new = 4)) q
      (faultMove 0x0301 p 0 0 (decide (new = 1 ∨ new = 2 ∨ new = 5)) q s4))

/-- A port enters DOWN; the FLAP_MAX + 1th entry within 60 s latches it (R480). -/
def portDown (p cause : Nat) (s : State) : State :=
  let l := s.netFlaps.filter fun x => decide (s.counter < x.2 + 60000000000)
  let s1 := setPort p 1 cause { s with netFlaps := l ++ [(p, s.counter)] }
  if max 1 (s.fd Reg.netCfg 8 4) < ((l.filter fun x => decide (x.1 = p)).length + 1) then setPort p 4 3 s1 else s1

/-- One trigger of a port (R480). -/
def netTrigger (p : Nat) (t : NetTrig) (s : State) : State :=
  let st := s.portState p
  match t with
  | .enable false => setPort p 0 5 s
  | .enable true => if st = 0 then portDown p 5 s else s
  | .up speed =>
    if st = 1 then
      let v := if s.fd (Reg.netPCfg p) 1 2 = 0 then speed else s.fd (Reg.netPCfg p) 1 2
      (setPort p 2 0 (s.setV .netQualAt p s.counter)).hwf (Reg.netPStat p) 3 2 v
    else s
  | .down => if st = 2 ∨ st = 3 then portDown p 1 s else s
  | .qualified =>
    if st = 2 ∧ s.v .netQualAt p + s.fd (Reg.netPCfg p) 16 16 * 1000000 ≤ s.counter then setPort p 3 2 s else s
  | .readmit =>
    if st = 4 ∨ st = 5 then setPort p 1 4 { s with netFlaps := s.netFlaps.filter fun x => decide (x.1 ≠ p) } else s
  | .takeOut => if st = 0 then s else setPort p 5 4 s

/-- The address entries that have seen a frame within AGE_S stay (R477). -/
def macsYoung (s : State) (keep : Nat → Bool) : State :=
  let l := s.macs.filter fun x => keep x.1 || decide (s.counter < x.2.2 + s.fd Reg.netCfg 16 12 * 1000000000)
  if l.length = s.macs.length then s else netShow { s with macs := l }

/-- The port state machines at a boundary (R480): TAKE_OUT governs. During the block's restart the states stay, and what has come acts
after it (R483). -/
def netStep (s : State) : State :=
  if s.ownerFault 0x300 then s
  else
    let s0 : State := { macsYoung s (fun _ => false) with netTrig := [] }
    eachBelow 4 (fun p t =>
      let l := (s.netTrig.filter fun x => decide (x.1 = p)).map (·.2)
      if NetTrig.takeOut ∈ l ∧ t.portState p ≠ 0 then netTrigger p .takeOut t else each l (netTrigger p) t) s0

/-- A trigger waits for the boundary; there is none without power or after the commit of a supply loss (R483). -/
def netPost (p : Nat) (t : NetTrig) (s : State) : State :=
  if s.v .gleaning = 1 ∨ s.v .powerOff = 1 then s else { s with netTrig := s.netTrig ++ [(p, t)] }

/-- PORT_LINK_UP (R476, R480): half duplex leaves the port DOWN. -/
def portLinkUp (p speed : Nat) (full : Bool) (s : State) : State :=
  if full then netPost p (.up (speed + 1)) s else s

/-- PORT_LINK_DOWN (R480). -/
def portLinkDown (p : Nat) (s : State) : State := netPost p .down s

/-- PORT_QUALIFIED (R480): at the boundary it needs QUAL_MS without a loss. -/
def portQualified (p : Nat) (s : State) : State := netPost p .qualified s

/-! Forwarding (R476, R477, R479). -/

/-- A receive error; more than ERR_MAX of them in 1 s take the port DOWN (R480). -/
def portError (p : Nat) (s : State) : State :=
  let l := (s.netErrs.filter fun x => decide (s.counter < x.2 + 1000000000)) ++ [(p, s.counter)]
  let s1 := tally (Reg.netPDrop p) 16 16 1 { s with netErrs := l }
  if s.fd (Reg.netPCfg p) 32 8 < (l.filter fun x => decide (x.1 = p)).length then netPost p .down s1 else s1

/-- Ports that a frame from `p` may leave on (R477, R479). -/
def egressMask (s : State) (p : Nat) : List Nat :=
  (List.range 4).filter fun e =>
    decide (e ≠ p) && s.bit (Reg.netPCfg p) (8 + e) && !(s.safetyPorts && (decide (e < 2) || decide (p < 2)))

/-- Port I takes a frame: EtherTypes 0x88B6 and 0x88B5 and PTP (R477). -/
def takenByI (f : EthFrame) : Bool := decide (f.ethType = 0x88B6 ∨ f.ethType = 0x88B5) || (f.ptp.isSome && decide (f.ethType = 0x88F7))

/-- A group address. -/
def groupMac (a : Nat) : Bool := maskBit a 40

/-- Learn a source address (R477). -/
def macLearn (p a : Nat) (s : State) : State :=
  let l := s.macs.filter fun x => decide (x.1 ≠ a)
  if groupMac a ∨ 2048 ≤ l.length then s else netShow { s with macs := l ++ [(a, p, s.counter)] }

/-- FRAME_RECEIVED (R476, R477, R479). The content that port I takes reaches its engine by that engine's own row; event messages
of PTP are forwarded by the transparent clock (R86). -/
def frameReceived (p : Nat) (f : EthFrame) (s : State) : State :=
  if s.netRuns = false ∨ (s.portState p ≠ 2 ∧ s.portState p ≠ 3) then s
  else if f.len < 64 ∨ 1522 < f.len ∨ f.sound = false then portError p s
  else if s.portState p = 2 then s
  else
    let s1 := tally (Reg.netPRx p) 0 48 1 s
    if s.safetyPorts && decide (p < 2)
        && !takenByI f then
      tally (Reg.netPDrop p) 32 16 1 s1
    else
      let s2 := macLearn p f.src s1
      let out := match (if groupMac f.dst then none else s.macs.find? fun x => decide (x.1 = f.dst)) with
        | some x => (s.egressMask p).filter fun e => decide (e = x.2.1)
        | none => if f.dst = s.rd Reg.netMac then [] else s.egressMask p
      if f.ptp = some true then s2 else each out (fun e t => ethEnqueue e (ethQueue f) f.len t) s2

/-- ADDRESS_AGE_OUT (R477). -/
def macAge (a : Nat) (s : State) : State :=
  if s.netRuns then macsYoung s (fun x => decide (x ≠ a)) else s

/-- Frames of a received kind pass only through a port that is UP (R481). -/
def portUp (s : State) (p : Nat) : Bool := s.netRuns && decide (s.portState p = 3)

/-! Configuration and commands (R479, R484, R485). -/

/-- Rights beyond the page (R484): while SL_CFG EN is 1, some changes are for SAFETY_ADMIN only. -/
def netDenied (s : State) (m : Master) (p : Nat) : Bool := maskBit s.slCfg 0 && decide (p < 2) && decide (s.role m ≠ 5)

/-- The answer to a command of NET. -/
def netAnswer (code arg : Nat) (m : Master) (s : State) : Nat :=
  if code = 1 ∨ code = 2 then (if s.netDenied m (field arg 0 2) then 0x12 else 0x01) else if code = 3 then 0x01 else 0x16

/-- The effect of a command of NET. -/
def netEffect (code arg : Nat) (s : State) : State :=
  let p := field arg 0 2
  if code = 1 then netPost p .readmit s
  else if code = 2 then netPost p .takeOut s
  else netShow { s with macs := [] }

/-- The answer to a write of NET_CFG (R479, R484): `v` is the value it would hold. -/
def netCfgAnswer (v : Nat) (m : Master) (s : State) : Nat :=
  if field v 0 1 ≠ s.fd Reg.netCfg 0 1 ∧ maskBit s.slCfg 0 ∧ s.role m ≠ 5 then 0x12
  else if field v 0 1 = 0 ∧ (maskBit s.slCfg 0 ∨ s.bit Reg.slCfg 0) then 0x15
  else 0x01

/-- The answer to a write of NET_P_CFG (R484): EN, SPEED and FWD_MASK of E0 and E1. -/
def netPCfgAnswer (p v : Nat) (m : Master) (s : State) : Nat :=
  let old := s.rd (Reg.netPCfg p)
  if s.netDenied m p && decide (field v 0 3 ≠ field old 0 3 ∨ field v 8 5 ≠ field old 8 5) then 0x12 else 0x01

/-- The effect of a write of NET_P_CFG: EN (R480), and a fixed SPEED at once. -/
def netPCfgSet (p old : Nat) (s : State) : State :=
  let a := Reg.netPCfg p
  let s1 := if field old 0 1 = s.fd a 0 1 then s else netPost p (.enable (s.bit a 0)) s
  if s1.fd a 1 2 ≠ 0 ∧ 2 ≤ s1.portState p ∧ s1.portState p ≤ 3 then s1.hwf (Reg.netPStat p) 3 2 (s1.fd a 1 2) else s1

/-! Resets (R483). -/

/-- Ports start in DOWN, or DISABLED, from the configuration in force. -/
def netPowerOn (s : State) : State :=
  let s1 : State := { s with ethQ := [], macs := [], netErrs := [], netFlaps := [], netTrig := [] }
  netShow (eachBelow 4 (fun p t =>
    (t.hw (Reg.netPStat p) (if t.bit (Reg.netPCfg p) 0 then 1 else 0)).setV .ethFree p 0) s1)

/-- NET block restart: queues and the address table are emptied, port states kept. -/
def netRestart (s : State) : State := netShow { s with ethQ := [], macs := [] }

end Sys2Proof.Machine.State
end

