-- ==== Sys2Proof/Machine/Jnl.lean ====
section
/-! DEFINITION. The granary beside its appends (13_granary_journal.md R342, R352 to R363): draining, acknowledgement, the read
window, scrubbing, errors, restart and recovery. -/
namespace Sys2Proof.Machine.State

/-- Records of one area above an acknowledge pointer. -/
def unacked (s : State) (ack : Nat) (reserve : Bool) : Nat :=
  ((s.records.takeWhile fun r => decide (ack < r.seq)).filter fun r => decide ((r.flags / 2 % 2 = 1) = reserve)).length

/-- FREE, the free reserve and RESERVE_IN_USE follow the acknowledge pointer (R355 to R357). -/
def freeRefresh (s : State) : State :=
  let k := s.unacked (s.rd Reg.jnlAck) true
  let s1 := (s.hwf Reg.jnlFree 0 20 (generalRecords - s.unacked (s.rd Reg.jnlAck) false)).hwf Reg.jnlFree 20 16 (reserveRecords - k)
  (s1.setV .resUsed 0 k).hwb Reg.jnlStat 4 (decide (k ≠ 0))

/-- The answer to a write of JNL_ACK (R355). -/
def ackAnswer (v : Nat) (s : State) : Nat :=
  if v < s.rd Reg.jnlAck then 0x15 else if s.rd Reg.jnlDurable ≤ v then 0x16 else 0x01

/-- A committed JNL_ACK that moves (R354 to R357). Records of an earlier power-on count as durable since this one. -/
def ackSet (old : Nat) (s : State) : State :=
  let oldest := (s.records.takeWhile fun r => decide (s.rd Reg.jnlAck < r.seq)).getLast?
  let t : Int := match oldest with
    | none => 0
    | some r => if r.seq < s.n .firstSeq then 1 else r.counter + 1
  if old = s.rd Reg.jnlAck then s else notifyCheck (spaceCheck (freeRefresh ((s.setV .notified 0 0).setV .oldestAt 0 t)))

/-- The answer to a write of JNL_CFG (R366). -/
def jnlCfgAnswer (v : Nat) : Nat := if field v 0 18 ≤ field v 18 18 then 0x15 else 0x01

/-- STAGING_DRAIN (R342, R358): one record goes to MRAM and to the ring of each serving partition. -/
def stagingDrain (s : State) : State :=
  if s.jnlHalted ∨ (s.rd Reg.jnlHead : Int) ≤ s.v .drained + 1 then s
  else
    let k := s.n .drained + 1
    let s1 := s.setV .drained 0 k
    let s2 := if s1.partState 0 = 0 then s1.hw Reg.jnlPartA k else s1
    if s2.partState 1 = 0 then s2.hw Reg.jnlPartB k else s2

/-- The record of a number, if it is durable and still stored (R352). -/
def recordAt (s : State) (k : Nat) : Option Record := s.records.find? fun r => decide (r.seq = k)

/-- Bytes `off` to `off + len - 1` of the journal read window as a master sees it (R352). -/
def journalBytes (s : State) (m : Master) (off len : Nat) : List Byte :=
  let base := s.rdB m Reg.jnlWinBase
  let bytesOf (k : Nat) : List Byte := match s.recordAt k with
    | some r => r.bytes
    | none => List.replicate 64 0
  slice ((List.range (len / 64 + 2)).flatMap fun i => bytesOf (base + off / 64 + i)) (off % 64) len

/-- RECORDS_PENDING (R354). -/
def recordsPending (s : State) : State :=
  let ms := s.fd Reg.jnlNotify 18 16
  let old := s.v .oldestAt
  let s1 := notifyCheck s
  if s1.v .notified = 0 ∧ ms ≠ 0 ∧ old ≠ 0 ∧ s1.rd Reg.jnlAck + 1 < s1.rd Reg.jnlHead ∧ old - 1 + (ms * 1000000 : Nat) ≤ s1.counter then
    (s1.evt 0xC00 16).setV .notified 0 1
  else s1

/-- The granary is whole again (R304, R361, R362). -/
def granaryRepaired (s : State) : State :=
  if s.v .granaryBad = 0 then s
  else fault 0x0C01 0 2 0 false ((s.setV .granaryBad 0 0).setV .granaryClear 0 (s.counter + 1))

/-- SCRUB_PASS (R361). -/
def scrubPass (corrected : Nat) (s : State) : State :=
  let s1 := (s.inc Reg.jnlErrCnt 0 16 corrected).inc Reg.jnlErrCnt 16 16 1
  let s2 := submit (rec1 0xC 0 7 0xFFFF 0 [(4, corrected), (2, s1.fd Reg.jnlErrCnt 16 16)]) s1
  granaryRepaired (if corrected = 0 then s2 else s2.evt 0xC00 22)

/-- GRANARY_UNCORRECTABLE (R361). -/
def granaryUncorrectable (s : State) : State :=
  fault 0x0C01 0 2 0 true (commonOnce 0xC 0 ((s.inc Reg.jnlErrCnt 32 16 1).setV .granaryBad 0 1))

/-- GRANARY_MISMATCH (R362) before the block's restart. -/
def granaryMismatch (s : State) : State := commonOnce 0xC 0 (fault 0x0C01 0 2 0 true (s.setV .granaryBad 0 1))

/-- The records that waited are numbered in the order they arrived (R363, R364). -/
def numberWaiting (s : State) : State :=
  let w := s.waiting
  each w (fun x t => submitAs x.stamp x.sub t) { s with waiting := [] }

/-- JNL is back after a restart (R362, R364). -/
def jnlBack (s : State) : State :=
  let s1 := (numberWaiting (s.setV .replay 0 1)).setV .replay 0 0
  granaryRepaired s1

/-- Last number of the block of 4 096 that holds the last number assigned (R363). -/
def ceiling (s : State) : Nat := ((s.rd Reg.jnlHead - 2) / 4096 + 1) * 4096

/-- Recovery at a power-on (R363): after a short hold-up the records not drained are lost and their numbers skipped. -/
def jnlRecover (short : Bool) (restored : Nat) (s : State) : State :=
  let first := s.n .drained + 1
  let last := s.ceiling
  let s1 : State := if short then
      let keep := s.records.filter fun r => decide (r.seq < first)
      let toks (l : List (Nat × Nat)) := l.filter fun e => decide (e.2 < first)
      let general (l : List Record) := (l.filter fun r => decide (r.flags / 2 % 2 = 0)).length
      let s0 : State := { s with records := keep, tokH := toks s.tokH, tokM := toks s.tokM }
      let s00 := (s0.hw Reg.jnlTokens (s0.tokH.length + s0.tokM.length * 2 ^ 24)).setV .genStored 0 (general keep)
      ((s00.hw Reg.jnlHead (last + 1)).hw Reg.jnlDurable (last + 1)).setV .drained 0 last
    else s
  let s2 := freeRefresh (((s1.hwb Reg.jnlStat 5 false).hwb Reg.jnlStat 6 short).setV .ownerFault 0xC 0)
  let skipped := if short then last + 1 - first else 0
  let s3 := (s2.hw Reg.jnlRecovery (s2.draw 16 + saturate 16 restored * 2 ^ 16 + saturate 16 skipped * 2 ^ 32)).drawn
  let s4 := if short then submit (rec1 0xC 0 8 0xFFFF 0 [(6, first), (6, last)]) s3 else s3
  let s5 := (s4.setV .firstSeq 0 (s4.rd Reg.jnlHead)).setV .oldestAt 0 (if s4.rd Reg.jnlAck + 1 < s4.rd Reg.jnlHead then 1 else 0)
  numberWaiting (submit (rec1 0xC 0 1 0xFFFF 0 [(1, short.toNat), (2, saturate 16 restored), (6, s5.rd Reg.sysIdRestarts)]) s5)

/-- JNL_RATE (R366): records per second over the last 60 s. -/
def rateRefresh (s : State) : State :=
  let k := (s.records.takeWhile fun r => decide (s.counter < r.counter + 60000000000) && decide (s.n .firstSeq ≤ r.seq)).length
  s.hw Reg.jnlRate (k / 60 % 2 ^ 24)

end Sys2Proof.Machine.State
end

