-- ==== Sys2Proof/Machine/Part.lean ====
section
/-! DEFINITION. The two partitions: supervision, failure, takeover, restart and readmission (01_hub_and_module.md R14 to R16;
09_vehicle_sessions.md R245, R246; 13_granary_journal.md R358, R360; 21_faults_and_service.md R510 to R513). -/
namespace Sys2Proof.Machine.State

/-- The number of a partition: 0 A, 1 B. -/
def partIx : Partition → Nat
  | .a => 0
  | .b => 1

/-- SUPERVISION_SIGNAL (R245). -/
def supervision (p : Nat) (s : State) : State := s.setV .supAt p (s.counter + 1)

/-- The state of a partition changes, with its PARTITION_STATE record (R510, R561); the record's number. -/
def setPart (p new cause : Nat) (s : State) : State :=
  let old := s.partState p
  let s1 := s.hwf Reg.fltPart (3 * p) 3 new
  let s2 := submit (stateRec 0x11 1 p old new cause [(1, s1.fd Reg.fltPart (8 + 4 * p) 4)]) s1
  if new = 4 then s2.evt 0x1100 21 else s2

/-- TAKEOVER is set on every stall that the failed partition leads, from its failure until a new leader serves the stall (R203, R245);
the summary page raises ANY_TAKEOVER (R224). -/
def takeoverBegin (p : Nat) (s : State) : State :=
  let mine := (List.range 32).filter fun n => decide (s.leader n = p) && !s.takeover n
  if mine = [] then s
  else
    let s1 := if s.v .toAt = 0 then s.setV .toAt 0 (s.counter + 1) else s
    (each mine (fun n u => u.hwb (Reg.stlMode n) 22 true) s1).evt 0x621 17

/-- The partition that takes a stall over (R245): the shadow, or the fenced leader itself once it serves again while the shadow does not
(R513; log entry 54). -/
def newLeader (s : State) (n : Nat) : Option Nat :=
  let k := s.leader n
  if s.partState (1 - k) = 0 then some (1 - k) else if s.partState k = 0 then some k else none

/-- Neither partition serves: the 20 ms of R513 begin. -/
def noServe (s : State) : State :=
  if s.partState 0 ≠ 0 ∧ s.partState 1 ≠ 0 then (if s.v .noServeAt = 0 then s.setV .noServeAt 0 (s.counter + 1) else s)
  else s.setV .noServeAt 0 0

/-- A partition fails and is fenced (R245, R510, R511). `cause`: 1 lockstep error, 2 missed supervision, 3 PARTITION_RESET, 4 a
RESIDENT activation or fallback; only 1 and 2 count toward LATCH_N, and only the restart of 4 does not ask for AUTO_RESTART. -/
def partFail (p cause : Nat) (s : State) : State :=
  if s.partState p = 4 ∨ s.partState p = 1 then s
  else
    let counted := decide (cause = 1 ∨ cause = 2)
    let first := s.v .partFirst p
    let fresh := decide (first = 0) || decide (first - 1 + 600000000000 < s.counter)
    let recent := if !counted then s.fd Reg.fltPart (8 + 4 * p) 4 else if fresh then 1 else min 15 (s.fd Reg.fltPart (8 + 4 * p) 4 + 1)
    let s1 := if counted && fresh then s.setV .partFirst p (s.counter + 1) else s
    let s2 := ((s1.hwf Reg.fltPart (8 + 4 * p) 4 recent).inc Reg.fltPart (16 + 16 * p) 16 1).setV .supAt p 0
    let latch := (counted && decide (max 1 (s2.fd Reg.fltPartCfg 4 4) ≤ recent)) || (decide (cause ≠ 4) && !s2.bit Reg.fltPartCfg 0)
    let q := s2.nextSeq
    let s3 := setPart p 1 cause s2
    let s4 := faultMove 0xFE01 p 0 0 true q s3
    let s5 := noServe (takeoverBegin p s4)
    setPart p (if latch then 4 else 2) 6 s5

/-- PARTITION_FAILURE (R245): three signals missed in a row need 3 ms without one. -/
def partFailure (p cause : Nat) (s : State) : State :=
  if cause = 2 ∧ (s.v .supAt p = 0 ∨ (s.counter : Int) < s.v .supAt p - 1 + 3000000) then s else partFail p (max 1 (min cause 3)) s

/-- TAKEOVER (R245, R246, R360): the new leader takes one stall; the last one ends the takeover. -/
def takeOver (n : Nat) (s : State) : State :=
  match if s.takeover n then s.newLeader n else none with
  | none => s
  | some k =>
    let s1 := (setLead n k s).hwb (Reg.stlMode n) 22 false
    let s2 := sessMap n (fun x => { x with flags := setField x.flags 8 1 1 }) s1
    let s3 := leadBack n (s2.evt (0x700 + n) 21)
    if (List.range 32).any fun t => s3.takeover t then s3
    else
      let us := (s3.counter + 1 - s3.n .toAt) / 1000
      ((s3.inc Reg.vhsToStat 0 16 1).hwf Reg.vhsToStat 16 16 (saturate 16 us)).setV .toAt 0 0

/-- The stalls in IDLE that the configuration assigns to the other partition go to it, where it serves (R16). -/
def leadHome (s : State) : State := eachBelow 32 leadBack s

/-- A partition serves again, as shadow (R16, R358, R510, R513). -/
def partServe (p : Nat) (s : State) : State :=
  let s0 := s.hw (if p = 0 then Reg.jnlPartA else Reg.jnlPartB) (s.rd Reg.jnlDurable - 1)
  let q := s0.nextSeq
  let s1 := faultMove 0xFE01 p 0 0 false q (setPart p 0 6 s0)
  let s2 := fault 0xFE02 0xFFFF 2 0 false (s1.setV .noServeAt 0 0)
  leadHome (s2.setV .supAt p (s2.counter + 1))

/-- PARTITION_RESTART_STAGE (R511): RESTARTING ends; REBUILDING ends once the ring has reached JNL_DURABLE (R358). -/
def partStage (p : Nat) (s : State) : State :=
  if s.partState p = 2 then setPart p 3 6 s
  else if s.partState p = 3 ∧ s.rd (if p = 0 then Reg.jnlPartA else Reg.jnlPartB) + 1 = s.rd Reg.jnlDurable then partServe p s
  else s

/-- RING_REBUILT (R358). -/
def ringRebuilt (p : Nat) (s : State) : State := if s.partState p = 3 then partServe p s else s

/-- READMIT_PARTITION (R511): without effect on a partition that is not LATCHED. -/
def readmitPart (p : Nat) (s : State) : State :=
  if s.partState p = 4 then setPart p 2 5 ((s.hwf Reg.fltPart (8 + 4 * p) 4 0).setV .partFirst p 0) else s

/-- PARTITIONS_UNAVAILABLE (R513). -/
def partitionsUnavailable (s : State) : State :=
  let t := s.v .noServeAt
  if t = 0 ∨ (s.counter : Int) < t - 1 + 20000000 then s
  else commonOnce 0xD 0 (fault 0xFE02 0xFFFF 2 0 true s)

/-- SYS PARTITION_RESET is refused (R512). -/
def partResetRefused (s : State) (p : Nat) : Bool := decide (s.partState p = 4) || decide (s.partState (1 - p) ≠ 0)

/-- Both partitions after a power-on or a device reset: each restarts, and neither serves (R527, R529); no takeover goes on. -/
def partsRestart (s : State) : State :=
  let s1 := eachBelow 32 (fun n t => setLead n (t.homeOf n) (t.hwb (Reg.stlMode n) 22 false)) (s.setV .toAt 0 0)
  eachBelow 2 (fun p t =>
    if t.partState p = 4 then takeoverBegin p t else (t.hwf Reg.fltPart (3 * p) 3 2).setV .supAt p 0) s1

end Sys2Proof.Machine.State
end

