-- ==== Sys2Proof/Machine/SafSet.lean ====
section
/-! DEFINITION. The safety parameter set, the commands of the island and its power-on (11_safety_functions.md R311, R312,
R315). -/
namespace Sys2Proof.Machine.State

/-! The safety parameter set (R311). -/

/-- Slots of a page in which the staged and the active set differ. -/
def pageDiffers (s : State) (page : Nat) : Bool := (setSlots page).any fun a => decide (s.rd a ≠ s.safeRd a)

/-- The staged set changed: its CRC and STAGED_DIRTY follow (R315). -/
def stagedRefresh (s : State) : State :=
  (s.hw Reg.safSetStaged (setCrc s.rd)).hwb Reg.safState 4 (setPages.any fun p => s.pageDiffers p)

/-- Outputs and feedback inputs that the staged set assigns. -/
def stagedOuts (s : State) : List Nat :=
  (List.range 32).flatMap fun t =>
    let m := s.rd (Reg.safStMap t)
    (if maskBit m 6 then [field m 0 6] else []) ++ (if maskBit m 14 then [field m 8 6] else [])
      ++ (if maskBit m 46 then [field m 40 6] else [])

/-- Feedback inputs that the staged set assigns. -/
def stagedFbs (s : State) : List Nat :=
  (List.range 32).flatMap fun t =>
    let m := s.rd (Reg.safStMap t)
    (if maskBit m 6 then [field m 16 6] else []) ++ (if maskBit m 14 then [field m 24 6] else [])

/-- The stall is in a mode in which its parameters may change: DISABLED, IDLE, OUT_OF_SERVICE or SAFE (R311). -/
def setFree (s : State) (stall : Nat) : Bool := s.stallFree stall || decide (s.mode stall = 8)

/-- ACTIVATE would be refused (R311). -/
def setRefused (s : State) : Bool :=
  let dup (l : List Nat) := l.any fun x => decide (1 < l.count x)
  (List.range 32).any (fun t => s.pageDiffers (0x910 + t) && !s.setFree t)
  || (([0x901, 0x902, 0x903]).any (fun p => s.pageDiffers p) && (List.range 32).any fun t => !s.setFree t)
  || dup s.stagedOuts || dup s.stagedFbs
  || (List.range 32).any (fun t =>
      let i := s.rd (Reg.safStInputs t)
      let b := s.rd (Reg.safStBridge t)
      (maskBit (s.rd (Reg.safStMap t)) 36 &&
        (decide (field i 0 9 = 0x1FF) || decide (field i 12 9 = 0x1FF) || decide (field b 0 16 = 0) || decide (field b 16 16 = 0)))
      || (maskBit (s.rd (Reg.safStRc t)) 32 && decide (field i 24 9 = 0x1FF)))
  || decide (field (s.rd Reg.slCfg) 16 8 < 2 * field (s.rd Reg.slCfg) 8 8 + 2)

/-- What follows the active set: the mirrors in STL_MAP and USE, the enables and demands of outputs whose use changed,
trip inputs and outputs. -/
def setFollow (before : State) (s : State) : State :=
  let s1 := eachBelow 32 (fun t u => fbSupervise t (u.hw (Reg.stlMap t) (u.stMap t))) s
  let s2 := eachBelow 64 (fun o u =>
    let u1 := u.hwf (Reg.drvOutCfg o) 0 2 (u.useOf o)
    if before.useOf o = u.useOf o then u1
    else setDemand o false (dropEnables o u1)) s1
  let s3 := enablesReturn s2
  slFollow before ((eachBelow 16 (fun k u => tinRefresh k
    (if field (u.tinCfg k) 35 8 = 0 then u.setV .tinFilt k (u.bit Reg.safTinStat k).toNat else u)) s3).tripOuts)

/-- The staged set as a table (R311). -/
def stagedSet (s : State) : List (Nat × Word) :=
  (setPages.flatMap setSlots).foldl (fun t a => Tab.put natLt resetVal t a (BitVec.ofNat 48 (s.rd a))) []

/-- ACTIVATE (R311): both channels switch to the staged set at the boundary. -/
def setActivate (s : State) : State :=
  let changed := ((List.range 32).map fun t => if s.pageDiffers (0x910 + t) then 2 ^ t else 0).sum
  let before := s.fd Reg.safSetId 0 32
  let s1 := { s with safeSet := s.stagedSet }
  let crc := setCrc s1.safeRd
  let s2 := ((s1.hwf Reg.safSetId 0 32 crc).inc Reg.safSetId 32 16 1).evt 0x900 19
  let s3 := submit (rec1 9 8 6 0xFFFF 0 [(1, 0), (1, 0), (4, changed), (4, before), (4, crc), (2, s2.fd Reg.safSetId 32 16)]) s2
  setFollow s (stagedRefresh s3)

/-- DISCARD (R311): the staged set is the active one again. -/
def setDiscard (s : State) : State :=
  stagedRefresh (each (setPages.flatMap setSlots) (fun a t => t.hw a (t.safeRd a)) s)

/-! Commands (R311, R315). -/

/-- The answer to a SAF command: 0x01, 0x02 and 0x05 are SAFETY_ADMIN only. -/
def safAnswer (code arg : Nat) (m : Master) (s : State) : Nat :=
  let admin := decide (s.role m = 5)
  match code with
  | 1 => if !admin then 0x12 else if s.setRefused then 0x15 else 0x01
  | 2 => if !admin then 0x12 else 0x01
  | 3 => 0x01
  | 4 => if s.proofFree (field arg 0 5) then 0x01 else 0x15
  | 5 => if !admin then 0x12 else 0x01
  | _ => 0x16

/-- The effect of an accepted SAF command. -/
def safEffect (code arg : Nat) (s : State) : State :=
  match code with
  | 1 => setActivate s
  | 2 => setDiscard s
  | 3 => ackTrip (field arg 0 4) s
  | 4 => proofStart (field arg 0 5) s
  | 5 => releaseOut (field arg 0 6) s
  | _ => s

/-- The island at a power-on (R312): common safe state with cause POWER_ON, both channels good, the CRCs of the sets. -/
def safPowerOn (s : State) : State :=
  let s1 := fastLoad { s with trips := [], commons := [], tinChanges := [] }
  let s2 := eachBelow 32 (fun t u =>
    let u1 := ((u.hwf (Reg.safStStat t) 0 32 0).hwb Reg.safTripped t false).setV .closeAt t 0
    (((u1.setV .openAt t 0).setV .openReq t 0).setV .closeDone t 0).setV .confirmed t 0) s1
  let s3 := (((s2.hwf Reg.safState 0 8 0x06).hwf Reg.safState 8 16 0).hwf Reg.safChStat 0 16 0x0707).hw Reg.safToutStat 0xFF
  let s4 := (((s3.setV .feedAt 0 0).setV .feedFrom 0 0).setV .disagreeAt 0 0).setV .agreeFrom 0 s3.counter
  let s5 := ((s4.hwf Reg.safSetId 0 32 (setCrc s4.safeRd)).hw Reg.safSetStaged (setCrc s4.rd))
  commonEnter 1 0 (slPowerOn (eachBelow 32 (fun t u => u.hw (Reg.stlMap t) (u.stMap t)) s5))

end Sys2Proof.Machine.State
end

