-- ==== Sys2Proof/Machine/Vhs.lean ====
section
/-! DEFINITION. Session engines (09_vehicle_sessions.md R225 to R248): link matching, protocol choice, requests and responses,
setpoints, decisions and faults. -/
namespace Sys2Proof.Machine.State

/-- HLC fails (R232): an AC stall with BASIC_EN falls back, its LINK failed where SLAC failed (R252); every other ends its session. -/
def hlcFail (stall : Nat) (s : State) : State :=
  let s1 := (s.setV .slacEnd stall 0).setV .sdpEnd stall 0
  if s1.isDc stall = false ∧ s1.bit (Reg.stlCfg stall) 4 then
    let s2 := vhsClose stall 0 ((s1.hwb (Reg.stlMode stall) 20 false).hwb (Reg.vhsSess stall) 5 true)
    let s3 := if s1.link stall = 4 then s2.hwf (Reg.vhsLink stall) 0 3 4 else s2
    demandRefresh stall (dutyRefresh stall (s3.evt (0x700 + stall) 20))
  else s1.trigger stall (.endSession 7)

/-! Link matching (R228, R229). -/

/-- SLAC attempts of the session. -/
def slacTries (s : State) (stall : Nat) : Nat := s.fd (Reg.vhsLink stall) 16 4

/-- A stall whose session may still match: HLC in force in CONNECTED, or authorised before its match (R200, R228). -/
def slacOpen (s : State) (stall : Nat) : Bool :=
  s.hlc stall && decide (2 ≤ s.mode stall ∧ s.mode stall ≤ 5) && decide (s.link stall ≠ 3) && decide (s.v .slacEnd stall ≠ 0)

/-- CM_SLAC_PARAM_REQ (R228): sounding begins, and the characterisation gives ATTEN_AVG for the RunID. After a failed attempt it opens a
new one with SLAC_INIT_S of its own. -/
def slacParam (stall runId atten : Nat) (s : State) : State :=
  if s.slacOpen stall = false then s
  else
    let a := Reg.vhsLink stall
    let s0 := if s.link stall = 4 then
        (s.addV .slacRetry stall 1).setV .slacEnd stall (s.counter + s.slacInit + 1)
      else s
    let s1 := if s0.v .slacTried stall = 0 then (s0.hwf a 16 4 (s0.slacTries stall + 1)).setV .slacTried stall 1 else s0
    let x := s1.veh stall
    let s2 := s1.setVeh stall { x with runs := (x.runs.filter fun r => decide (r.1 ≠ runId)) ++ [(runId, atten, s1.counter)] }
    (s2.hwf a 0 3 2).hwf a 8 8 (saturate 8 atten)

/-- ATTEN_AVG and instant of a RunID on a stall. -/
def slacRun (s : State) (stall runId : Nat) : Option (Nat × Nat × Nat) := (s.veh stall).runs.find? fun r => decide (r.1 = runId)

/-- A match request is not confirmed (R229). -/
def slacCross (s : State) (stall runId : Nat) : Bool :=
  match s.slacRun stall runId with
  | none => true
  | some r =>
    decide (s.fd Reg.vhsGcfg 42 6 < r.2.1)
      || (List.range 32).any (fun t => decide (t ≠ stall) && s.slacOpen t && decide (s.link t = 1 ∨ s.link t = 2)
          && match s.slacRun t runId with
            | none => false
            | some q => decide (q.2.1 + s.fd Reg.vhsGcfg 38 4 ≤ r.2.1))
      || decide (s.v .connectedAt stall + s.slacInit < r.2.2)

/-- CM_SLAC_MATCH_REQ (R228, R229): a fresh membership key, or a crosstalk refusal. -/
def slacMatch (stall runId evccid : Nat) (s : State) : State :=
  if s.slacOpen stall = false ∨ s.link stall ≠ 2 then s
  else
    let a := Reg.vhsLink stall
    if s.slacCross stall runId then s.inc a 32 16 1
    else
      let s1 := ephNew (8 * stall) (s.setVeh stall { s.veh stall with nmk := some (s.ephHandle (8 * stall)) })
      let s2 := ((s1.hwf a 0 3 3).hw (Reg.vhsEvccid stall) evccid).hwb Reg.vhsSumLink stall true
      ((s2.setV .slacEnd stall 0).setV .sdpEnd stall (s2.counter + 20000000000 + 1)).evt (0x700 + stall) 16

/-- SLAC_TIMEOUT (R228): the attempt has failed. Up to three new ones may follow, each opened by its CM_SLAC_PARAM.REQ; where none comes
within a further SLAC_INIT_S, or no request came at all, SLAC has failed (log entry 55). -/
def slacTimeout (stall : Nat) (s : State) : State :=
  let t := s.v .slacEnd stall
  if t = 0 ∨ (s.counter : Int) < t - 1 ∨ s.link stall = 3 then s
  else
    let s1 := s.hwf (Reg.vhsLink stall) 0 3 4
    if s1.v .slacTried stall = 0 ∨ 3 ≤ s1.v .slacRetry stall then hlcFail stall s1
    else (s1.setV .slacEnd stall (s1.counter + s1.slacInit + 1)).setV .slacTried stall 0

/-! Protocols (R230, R232). -/

/-- SDP_REQUEST (R230): answered once the link is matched. -/
def sdpRequest (stall : Nat) (tls : Bool) (s : State) : State :=
  if s.link stall ≠ 3 ∨ s.proto stall ≠ 3 ∨ s.hlc stall = false then s
  else (s.setV .sdpEnd stall 0).hwb (Reg.vhsSess stall) 2 tls

/-- SDP_TIMEOUT (R232). -/
def sdpTimeout (stall : Nat) (s : State) : State :=
  let t := s.v .sdpEnd stall
  if t = 0 ∨ (s.counter : Int) < t - 1 then s else hlcFail stall s

/-- A protocol may be agreed on a stall: enabled, for its KIND, with the transport that the table of R230 gives it. A zeroised
key store leaves those without TLS (R425). -/
def protoAllowed (s : State) (stall p : Nat) : Bool :=
  let tls := s.bit (Reg.vhsSess stall) 2
  decide (p ≤ 2) && s.bit Reg.vhsProtoEn p && !(s.bit Reg.keyState 1 && tls) &&
    (match p with
    | 0 => s.isDc stall && !tls
    | 1 => tls || !s.bit Reg.vhsProtoEn 5
    | _ => tls)

/-- SUPPORTED_APP_PROTOCOL_REQ (R230, R232): `offers` are (protocol, priority), 1 the highest priority. -/
def appProtocol (stall : Nat) (offers : List (Nat × Nat)) (s : State) : State :=
  if s.link stall ≠ 3 ∨ s.proto stall ≠ 3 ∨ s.v .sdpEnd stall ≠ 0 ∨ s.hlc stall = false then s
  else
    match offers.filter fun o => s.protoAllowed stall o.1 with
    | [] => hlcFail stall s
    | x :: rest =>
      let b := rest.foldl (fun b o => if o.2 < b.2 then o else b) x
      let s1 := ((s.hwf (Reg.vhsSess stall) 0 2 b.1).hwb Reg.vhsSumSess stall true).setV .lastReq stall (s.counter + 1)
      (sendRes stall 0 ⟨0, .given 0, false, none, none, none, false⟩ (sessStep stall 0 0 [] s1)).evt (0x700 + stall) 18

/-- One frame of the modem (R227): a failed block is resent up to 8 times; a frame that is still incomplete is dropped, and TCP sends its
segment again. -/
def modemFrame (stall : Nat) (blocks : List Nat) (s : State) : State :=
  let a := Reg.vhsErrCnt stall
  let s1 := s.inc a 0 16 (blocks.map (min 8)).sum
  if blocks.any fun f => decide (8 < f) then (s1.inc a 16 16 1).inc a 32 16 1 else s1

/-- A record or segment arrives whole (R234): it acknowledges what was sent, and TCP, TLS and the checkpoint move on. The traffic keys are
drawn as the handshake ends (R233, R421). -/
def recordTaken (stall : Nat) (r : TlsRec) (s : State) : State :=
  let x := s.veh stall
  let tls := s.bit (Reg.vhsSess stall) 2
  let t : Tcp := { x.tcp with rx := (x.tcp.rx + r.len) % 2 ^ 32, recRx := x.tcp.recRx + tls.toNat }
  let made := tls && r.finished && decide (x.tcp.hs ≠ 2)
  let k := 8 * stall + 1
  let t1 : Tcp := if made then { t with hs := 2, keys := some (s.ephHandle k, s.ephHandle (k + 1)) }
    else if tls && decide (t.hs = 0) then { t with hs := 1 } else t
  checkpoint stall (((if made then ephNew (k + 1) (ephNew k s) else s).setVeh stall { x with tcp := t1 }).setV .tcpAt stall 0)

/-- TLS_RECORD_RECEIVED (R227, R234, R247): nothing arrives while the last frame for it was dropped. -/
def tlsRecord (stall : Nat) (r : TlsRec) (s : State) : State :=
  if s.link stall ≠ 3 ∨ s.hlc stall = false then s
  else
    let s1 := each r.frames (modemFrame stall) s
    if ((r.frames.getLast?).getD []).any fun f => decide (8 < f) then s1
    else if r.ok then recordTaken stall r s1
    else s1.trigger stall (.endSession 9)

/-! Requests and responses (R231, R233 to R240). -/

/-- I_T of R238, 0.1 A: the target, the stall's limit, and what the grant allows at the target voltage (10 mV). Where the
target voltage is 0 the last bound is a free value. -/
def targetCurrent (s : State) (stall : Nat) (r : V2gReq) : Nat :=
  let g := s.fd (Reg.alcGrant stall) 0 24
  let bound := if r.vT = 0 then s.draw 16 else g * 1000 / r.vT
  min (min (r.iT / 10) (s.fd (Reg.vhsDcLim stall) 32 16)) bound

/-- The setpoint sheaf (R239) goes to SP_Q where V_T, I_T or the flags changed. -/
def setpoint (stall : Nat) (r : V2gReq) (flags : Nat) (s : State) : State :=
  let it := s.targetCurrent stall r
  let s0 := if r.vT = 0 then s.drawn else s
  let x := s0.veh stall
  if x.setpoint = (flags, r.vT, it) ∨ s0.isDc stall = false then s0
  else
    let s1 := s0.setVeh stall { x with setpoint := (flags, r.vT, it) }
    let s2 := s1.hwf (Reg.vhsOffer stall) 24 16 it
    if s2.bit Reg.vhsGcfg 14 then
      let t := s2.now
      let q := s2.fd Reg.vhsGcfg 8 6
      let bs := toLE 1 stall ++ toLE 1 flags ++ toLE 2 0 ++ toLE 4 r.vT ++ toLE 4 (it * 10) ++ toLE 4 (s2.fd (Reg.alcGrant stall) 0 24)
        ++ toLE 6 (secsOf t) ++ toLE 4 (nsOf t) ++ toLE 6 0
      if s2.queFits q bs then quePlace q bs s2 else s2.inc Reg.vhsQCnt 16 16 1
    else s2

/-- Largest inbound EXI document of a protocol, bytes (R230). -/
def maxDoc : Nat → Nat
  | 0 => 4096
  | 1 => 8192
  | _ => 16384

/-- What the parameters of a request set: the vehicle's limits and targets (R237, R252). -/
def takeParams (stall : Nat) (r : V2gReq) (s : State) : State :=
  let x := s.veh stall
  let s1 := if r.kind = .chargeParameterDiscovery ∨ r.kind = .powerLoop then
      s.setVeh stall { x with evP := r.evP, evV := r.evV, evI := r.evI }
    else s
  let a := Reg.vhsEvTarget stall
  let s2 := if r.kind = .preCharge ∨ r.kind = .powerLoop then
      ((s1.hwf a 0 16 (saturate 16 (r.vT / 10))).hwf a 16 16 (saturate 16 (r.iT / 10))).hwf a 32 8 (saturate 8 r.soc)
    else s1
  demandRefresh stall s2

/-- FLAGS of the setpoint sheaf for a request (R239). -/
def setFlags (s : State) (stall : Nat) (k : V2gKind) : Nat :=
  let on := match k with
    | .powerStart => true
    | .powerStop | .sessionStop | .powerStandby => false
    | _ => (s.veh stall).output
  on.toNat + (if k = .cableCheck then 2 else 0) + (if k = .preCharge then 4 else 0)
    + (if k = .powerStop ∨ k = .sessionStop then 8 else 0)

/-- The failure with which a request for what the part does not support is answered (R230): Plug & Charge and external identification
count as supported where VHS_PROTO_EN enables them. -/
def unsupportedCode (s : State) (stall : Nat) : V2gKind → Option V2gCode
  | .unsupported service => some (if service then .serviceSelectionInvalid else .failed)
  | .authorization true => if s.bit Reg.vhsProtoEn 3 ∧ s.proto stall ≠ 0 then none else some .failed
  | .authorization false => if s.bit Reg.vhsProtoEn 4 then none else some .failed
  | _ => none

/-- What a request asks of the stall (R240, R242). -/
def requestActs (stall : Nat) (r : V2gReq) (s : State) : State :=
  match r.kind with
  | .powerStart =>
    let s1 := s.setVeh stall { s.veh stall with output := true }
    if s1.bit (Reg.stlMode stall) 18 then s1.trigger stall (.lift 2) else s1
  | .powerStandby =>
    if s.proto stall = 2 then (s.setVeh stall { s.veh stall with output := false }).trigger stall (.pause 2) else s
  | .powerStop | .sessionStop => (s.setVeh stall { s.veh stall with output := false }).trigger stall (.endSession 1)
  | .authorization true =>
    if s.unsupportedCode stall r.kind = none then
      (s.setVeh stall { s.veh stall with emaid := r.emaid }).hwb (Reg.vhsSess stall) 3 true
    else s
  | _ => s

/-- V2G_REQUEST (R233): out of sequence, undecodable or too long ends the session with PROTOCOL (R247); the leading partition
takes the others. -/
def v2gRequest (stall : Nat) (r : V2gReq) (s : State) : State :=
  if s.link stall ≠ 3 ∨ s.proto stall = 3 ∨ s.hlc stall = false then s
  else
    let s1 := s.setV .lastReq stall (s.counter + 1)
    let bad := !r.decodes || decide (maxDoc (s1.proto stall) < r.len)
    if bad || !r.inSequence then
      (sendFailure stall r.msg (if bad then .failed else .sequenceError) s1).trigger stall (.endSession 0xA)
    else if (s1.veh stall).refused then dutyRefresh stall (vhsClose stall 0xC (sendFailure stall r.msg .failed s1))
    else
      let flags := s1.setFlags stall r.kind
      let s2 := takeParams stall r s1
      let tgt := (s2.veh stall).setpoint
      let r1 : V2gReq := if r.kind = .preCharge ∨ r.kind = .powerLoop then r
        else { r with vT := tgt.2.1, iT := s2.fd (Reg.vhsEvTarget stall) 16 16 * 10 }
      let s3 := requestActs stall r (setpoint stall r1 flags s2)
      let x := s3.veh stall
      let rq := some (r, s3.counter)
      s3.setVeh stall { x with req := rq, ckpt := some (x.tcp, rq) }

/-- The answer to a request is EVSEProcessing Ongoing: it awaits a host decision or the cable check (R236, R240). -/
def ongoing (s : State) (stall : Nat) (k : V2gKind) : Bool :=
  match k with
  | .authorization _ => s.bit (Reg.vhsSess stall) 4 || (decide (s.mode stall = 2) && s.space 1)
  | .cableCheck => s.bit (Reg.stlIns stall) 1
  | _ => false

/-- EVSE maximum power of a response, W (R238): in AC what the floored current carries, free where U_NOM is 0. -/
def evseMax (s : State) (stall : Nat) : Nat :=
  let g := s.fd (Reg.alcGrant stall) 0 24
  if s.isDc stall then g else if s.phaseVolts stall = 0 then s.draw 24 else g / s.phaseVolts stall * s.phaseVolts stall

/-- The single schedule (R231): start, duration and PMax. In AC the cap is I_MAX x N_PH x U_NOM, as in R237 (log entry 55). -/
def schedule (s : State) (stall : Nat) : Nat × Nat × Nat :=
  let cap := if s.isDc stall then s.fd (Reg.vhsDcPmax stall) 0 24 else s.fd (Reg.stlPwrCfg stall) 12 8 * s.phaseVolts stall
  (0, 86400, min (max (s.fd (Reg.alcGrant stall) 0 24) (s.fd (Reg.alcStall stall) 12 24)) cap)

/-- EVSEPresentVoltage in mV and EVSEPresentCurrent in mA (R239): the signed means of CH0 and CH4 of the stall's metering point over the
last publication period, in the units that K_FS of their inputs gives. -/
def presentValues (s : State) (stall : Nat) : Int × Int :=
  let m := s.stallMp stall
  let f (c : Nat) : Int :=
    if 64 ≤ m then 0 else signed 24 (s.fd (Reg.metMpRms m c) 0 24) * s.fd (Reg.metInKfs (s.mpSlot m c)) 0 32 / 2 ^ 23
  (f 0, f 4)

/-- What the engine sends for a request (R230, R231, R236, R238, R239, R241). -/
def response (s : State) (stall : Nat) (r : V2gReq) (code : Nat) : V2gRes where
  msg := r.msg
  code := (s.unsupportedCode stall r.kind).getD (.given code)
  ongoing := s.ongoing stall r.kind
  max := if r.kind = .chargeParameterDiscovery ∨ r.kind = .powerLoop then some (s.evseMax stall) else none
  schedule := if r.kind = .chargeParameterDiscovery then some (s.schedule stall) else none
  present := if s.isDc stall ∧ (r.kind = .preCharge ∨ r.kind = .powerLoop) then some (s.presentValues stall) else none
  stop := (s.veh stall).stop

/-- A partition answers for a stall: it leads, or it is the new leader of a takeover that finds a request without a response (R245). -/
def answers (s : State) (p : Partition) (stall : Nat) : Bool :=
  s.leads p stall || (s.takeover stall && decide (s.newLeader stall = some (partIx p)))

/-- PARTITION_RESPONSE (R233, R235, R246): only the leading partition's response to the request in progress is sent. Steps are
journalled; a power-loop exchange, which is no step, when its limits or notification changed, and once per second. -/
def partitionResponse (p : Partition) (stall : Nat) (o : PartRes) (s : State) : State :=
  let x := s.veh stall
  match x.req with
  | none => s
  | some (r, _) =>
    if s.answers p stall = false ∨ s.jnlHalted then s
    else
      let y := s.response stall r o.code
      let em := s.evseMax stall
      let s0 := if s.isDc stall = false ∧ s.phaseVolts stall = 0 then s.drawn else s
      let s1 := s0.setVeh stall { x with tcp := { x.tcp with ctx := o.ctx } }
      let s2 := if y.max.isSome then s1.hwf (Reg.vhsOffer stall) 0 24 em else s1
      let vals := [(4, em), (1, y.stop.toNat)]
      let num := s2.codeNum stall y.code % 2 ^ 16
      let s3 := if r.kind = .powerLoop then
          let key := em + 2 ^ 24 * y.stop.toNat
          if x.loop.1 = key + 1 ∧ s2.counter < x.loop.2 + 1000000000 then s2
          else submit (s2.sessRec stall 2 r.msg num vals) (s2.setVeh stall { s2.veh stall with loop := (key + 1, s2.counter) })
        else if y.ongoing ∧ s2.v .vhsOngoing stall = (r.msg : Int) + 1 then s2
        else sessStep stall r.msg num vals (s2.setV .vhsOngoing stall (if y.ongoing then r.msg + 1 else 0))
      sendRes stall o.len y s3

/-! Authorisation (R242 to R244). -/

/-- CERT_RESULT of a contract chain (R242): its form, its root among the contract roots of the key store, its signatures, then each validity
against corrected time. A zeroised store knows no root (R425). -/
def certResultOf (s : State) (x : CertChain) : Nat :=
  let t := secsOf s.now
  let rooted := match x.root with
    | none => false
    | some k => decide (16 ≤ k ∧ k ≤ 47) && decide (s.fd (Reg.keySlot k) 0 4 ≠ 0) && !s.bit Reg.keyState 1
  if !x.formed ∨ x.count = 0 ∨ 3 < x.count then 6
  else if !rooted then 4
  else if !x.signed ∨ !x.challenge then 5
  else if !s.timeValid then 7
  else if x.periods.any fun p => decide (p.2 < t) then 2
  else if x.periods.any fun p => decide (t < p.1) then 3
  else 1

/-- CERT_VERIFY_COMPLETE (R242, R243): the first Plug & Charge authorisation asks the host. -/
def certVerified (stall : Nat) (x : CertChain) (s : State) : State :=
  if s.link stall ≠ 3 ∨ s.bit (Reg.vhsSess stall) 3 = false ∨ s.v .certResult stall ≠ 0 then s
  else
    let res := s.certResultOf x
    let s1 := (s.setV .certResult stall res).hwf (Reg.vhsSess stall) 8 4 res
    if s1.mode stall = 2 then
      let q := s1.nextSeq
      askHost stall 2 q (submit (s1.sessRec stall 1 0 0 [(1, 2), (1, res)]) s1)
    else s1

/-- AUTH_DEADLINE (R244): the leading partition applies DEFAULT_AUTH. -/
def authDeadline (stall : Nat) (s : State) : State :=
  let t := s.v .decEnd stall
  if t = 0 ∨ (s.counter : Int) < t - 1 ∨ s.mode stall ≠ 2 ∨ s.partState (s.leader stall) ≠ 0 ∨ s.takeover stall then s
  else
    let d := s.fd Reg.vhsGcfg 24 2
    let c := s.n .certResult stall
    let yes := decide (d = 2) || (decide (d = 1) && decide (c = 1 ∨ c = 7))
    let s1 := (submit (s.sessRec stall 1 0 (if yes then 0 else 1) [(1, d), (1, 1)]) (answered stall s)).inc Reg.vhsQCnt 32 16 1
    let s2 := sessMap stall (fun x => { x with flags := setField x.flags 7 1 1 }) (s1.evt (0x700 + stall) 19)
    s2.trigger stall (if yes then .on (0xFFFFFFF0 + d) else .off)

/-- STOP_GRACE_EXPIRY (R241): the partition requests the contactors open regardless. -/
def stopGrace (stall : Nat) (s : State) : State :=
  let t := s.v .stopAt stall
  if t = 0 ∨ (s.counter : Int) < t - 1 + 5000000000 then s
  else fbSupervise stall (withdraw stall (s.setV .stopAt stall 0))

/-! Faults (R247, R248). -/

/-- TCP_TIMEOUT (R247): 60 s without an acknowledgement; `retx` retransmissions were made (R252). -/
def tcpTimeout (stall retx : Nat) (s : State) : State :=
  let t := s.v .tcpAt stall
  if s.link stall ≠ 3 ∨ s.hlc stall = false ∨ t = 0 ∨ (s.counter : Int) < t - 1 + 60000000000 then s
  else (s.inc (Reg.vhsErrCnt stall) 32 16 retx).trigger stall (.endSession 8)

/-- SEQUENCE_TIMEOUT (R247): 60 s without a request. -/
def seqTimeout (stall : Nat) (s : State) : State :=
  let t := s.v .lastReq stall
  if t = 0 ∨ (s.counter : Int) < t - 1 + 60000000000 then s else s.trigger stall (.endSession 0xB)

/-- MODEM_FRONT_END_FAULT (R247). -/
def modemFault (stall : Nat) (s : State) : State :=
  frontEndFail stall 2 (fault 0x0701 stall 1 (2 ^ stall) true (s.hwf (Reg.vhsSess stall) 16 8 0x24))

/-- ENGINE_RELOAD (R248): after a VHS block restart the engine takes up its last checkpoint. -/
def engineReload (stall : Nat) (ok : Bool) (s : State) : State :=
  if s.v .ownerFault 7 = 0 then s
  else if ok then
    match (s.veh stall).ckpt with
    | some c => s.setVeh stall { s.veh stall with tcp := c.1, req := c.2 }
    | none => s
  else frontEndFail stall 2 (fault 0x0702 stall 1 (2 ^ stall) true s)

/-- PILOT_FRONT_END_FAULT (R202, R507): the pilot or the proximity front end fails. -/
def pilotFault (stall : Nat) (pp : Bool) (s : State) : State :=
  frontEndFail stall pp.toNat (fault (if pp then 0x0602 else 0x0601) stall 1 (2 ^ stall) true s)

/-- FRONT_END_HEALTHY (R202): pilot, proximity and modem front ends report healthy. -/
def frontEndsHealthy (stall : Nat) (s : State) : State :=
  each [0x0601, 0x0602, 0x0701, 0x0702] (fun c t => fault c stall 1 (2 ^ stall) false t) (s.setV .frontBad stall 0)

/-- The answer to a write of a stall's VHS page (R249). -/
def vhsCfgAnswer (stall : Nat) (s : State) : Nat := if s.stallFree stall then 0x01 else 0x15

/-- The answer to a write of VHS_GCFG (R322). -/
def vhsGcfgAnswer (v : Nat) (s : State) : Nat :=
  if field v 24 2 = 3 then 0x16 else if s.queUsesOk Reg.vhsGcfg v then 0x01 else 0x15

/-- A committed slot of a stall's VHS page: the demand follows P_MAX. -/
def vhsCfgSet (stall : Nat) (s : State) : State := demandRefresh stall s

end Sys2Proof.Machine.State
end

