-- ==== Sys2Proof/Machine/Cfg.lean ====
section
/-! DEFINITION. Which slots hold configuration and which survive, the answer of each owner to a configuration write, and what a
committed one sets off. -/
namespace Sys2Proof.Machine

/-- Pages whose writable slots have fixed reset values and no Config reset (02, 03, 04, 16, 22). -/
def fixedReset : PageClass → Bool
  | .sys0 | .sys1 | .sys2 | .sys3 | .pwr0 | .tim0 | .tim1 | .tim2 | .tim3 | .met11 | .key0 | .key1 | .key2 | .ctl0 => true
  | _ => false

/-- A slot with a Config reset: the register maps' column Reset. -/
def configSlot (a : Nat) : Bool :=
  decide (a < bankSpan) && match pageEntry (a / 0x1000), accessOf a with
    | some (c, _), some (.rw _) => !fixedReset c && decide (a ≠ Reg.jnlAck)
    | _, _ => false

/-- A slot of the safety parameter set (R311). -/
def safetySlot (a : Nat) : Bool := decide (a / 0x1000 ∈ State.setPages)

/-- A slot whose value a power-on keeps or restores: configuration, what the maps mark as kept in MRAM, in the VBAT or tag domain,
per module, or saved; and what a block's own start-up reads (R219, R276, R530). -/
def keptSlot (a : Nat) : Bool :=
  let o := a % 0x1000
  configSlot a || (decide (a < bankSpan) && match pageEntry (a / 0x1000) with
    | some (.sys0, _) => decide (0x40 ≤ o ∧ o < 0x60)
    | some (.pwr0, _) => decide (o = 0x60)
    | some (.met11, _) => decide (0x48 ≤ o ∧ o < 0x98) || decide (o = 0xA8 ∨ o = 0xB0)
    | some (.met12, _) => decide (0x50 ≤ o)
    | some (.metmp, _) => decide (0xC0 ≤ o)
    | some (.balg, _) => decide (0x100 ≤ o)
    | some (.stl, _) => decide (o = 0x58)
    | some (.drv, _) => decide (0x100 ≤ o ∧ o % 0x40 = 0x20)
    | some (.saf0, _) => decide (o = 0x50 ∨ o = 0x58)
    | some (.safst, _) => decide (o = 0xA0)
    | some (.net0, _) => decide (o = 0x50)
    | some (.jnl0, _) => decide (o < 0x60 ∧ 0x40 ≤ o) || decide (o = 0x98 ∨ o = 0xA0 ∨ o = 0xA8)
    | some (.bil0, _) => decide (0x40 ≤ o ∧ o ≤ 0x80)
    | some (.bilmp, _) => decide (0x58 ≤ o)
    | some (.key0, _) => decide (0x40 ≤ o ∧ o < 0x98) || decide (0x100 ≤ o)
    | some (.key1, _) => decide (0x40 ≤ o)
    | some (.ctl0, _) => decide (o = 0x40 ∨ o = 0x48)
    | some (.updk, _) => decide (0x40 ≤ o ∧ o ≠ 0x78 ∧ o ≠ 0x80)
    | some (.flt0, _) => decide (o = 0x68 ∨ o = 0x70)
    | _ => false)

namespace State

/-- A RESIDENT image of another configuration format is in ACTIVATING or TRIAL (R468). -/
def cfgFrozen (s : State) : Bool :=
  let st := s.fd (Reg.updKOffer 1) 0 3
  let id := s.fd (Reg.updKOfferId 1) 0 32
  decide (st = 4 ∨ st = 5) && s.bales.any fun (b : Stored) =>
    decide (b.kind = 1 ∧ b.image = id ∧ b.index = 0) && decide (leAt b.data 22 2 ≠ s.n .cfgFormat + 1)

/-- The owner's answer to a write that would leave `v` in a configuration slot. -/
def ownerAnswer (m : Master) (a v : Nat) (s : State) : Nat :=
  let o := a % 0x1000
  match pageEntry (a / 0x1000) with
  | some (.tim1, _) => if a = Reg.timPtpCfg then ptpCfgAnswer v else 0x01
  | some (.net0, _) => netCfgAnswer v m s
  | some (.netp, p) => netPCfgAnswer p v m s
  | some (.met0, _) | some (.metin, _) | some (.metmap, _) | some (.metmp, _) => metCfgAnswer m a v s
  | some (.balg, g) => balCfgAnswer g a v s
  | some (.pq0, _) => if s.queUsesOk a v then 0x01 else 0x15
  | some (.pqmp, p) => if o = 0x40 then pqMpCfgAnswer p v s else if o = 0x50 then pqThrAnswer v else 0x01
  | some (.pqfl, p) => pqFlAnswer m (32 * p + (o - 0x40) / 0x10) v s
  | some (.stl, t) => if o = 0x40 then stlCfgAnswer t v s else if o = 0x48 ∧ !s.stallFree t then 0x15 else 0x01
  | some (.alc, _) => if o = 0x40 then alcCfgAnswer v s else 0x01
  | some (.vhs, t) => vhsCfgAnswer t s
  | some (.vhs32, _) => if o = 0x40 then vhsGcfgAnswer v s else 0x01
  | some (.drv, b) =>
    let k := 8 * b + (o - 0x100) / 0x40
    if o % 0x40 = 0 then drvCfgAnswer k v s else if o % 0x40 = 0x18 then drvFuseAnswer k v s
    else if s.drvBusy k then 0x15 else 0x01
  | some (.saf3, _) => if o = 0x40 ∧ maskBit v 0 ∧ !s.safetyPorts then 0x15 else 0x01
  | some (.mlkp, p) => if o = 0x40 then mlkCfgAnswer p v else 0x01
  | some (.que, q) => if o = 0x40 then queCfgAnswer q v s else if o = 0x48 then queWmAnswer v else 0x01
  | some (.jnl0, _) => if o = 0x58 then ackAnswer v s else if o = 0x70 then jnlCfgAnswer v else 0x01
  | some (.bilmp, p) => if o = 0x40 then bilCfgAnswer p s else 0x01
  | some (.ctl1, _) => ctlCfgAnswer v s
  | _ => 0x01

/-- The answer to a configuration write: R468 first, then the owner's. -/
def cfgAnswer (m : Master) (a v : Nat) (s : State) : Nat :=
  if s.cfgFrozen && configSlot a then 0x15 else ownerAnswer m a v s

/-- The configuration of a slot takes a value (R467, R468). A read-only register's follows at once: the limit in force (R179), and the
lead of stalls in IDLE (R16, R224). -/
def cfgPut (a v : Nat) (s : State) : State :=
  if roConfig a then
    let s1 : State := { s with roCfg := Tab.put natLt resetVal s.roCfg a (BitVec.ofNat 48 v) }
    if a = Reg.alcLimit then s1.hw a v else leadHome s1
  else s.hw a v

/-- UPD_K_CFG as it is stored (R463): POLICY of CONFIG and CALENDAR is 0; a trial counts while AUTO_CONFIRM is 1. -/
def updCfgSet (k : Nat) (s : State) : State :=
  let s1 := if 5 ≤ k then s.wrf (Reg.updKCfg k) 0 1 0 else s
  if s1.fd (Reg.updKOffer k) 0 3 ≠ 5 then s1
  else if s1.bit (Reg.updKCfg k) 1 then
    (if s1.v .updTrialEnd k = 0 then
      (s1.setV .updTrialEnd k (s1.counter + s1.fd (Reg.updKCfg k) 8 16 * 1000000000 + 1)).hwf (Reg.updKTrial k) 0 24
        (s1.fd (Reg.updKCfg k) 8 16)
     else s1)
  else (s1.setV .updTrialEnd k 0).hwf (Reg.updKTrial k) 0 24 0xFFFFFF

/-- What a committed write to a slot sets off; `old` is the value before. -/
def cfgSet (a old : Nat) (s : State) : State :=
  let o := a % 0x1000
  let s0 : State := { s with cfgOld := s.cfgOld.filter fun x => decide (x.1 ≠ a) }
  match pageEntry (a / 0x1000) with
  | some (.tim0, _) => if a = Reg.timMode then timModeSet (field old 0 2) s0 else s0
  | some (.tim1, _) => if a = Reg.timPtpPort then ptpPortSet s0 else s0
  | some (.tim3, _) => if a = Reg.timPpsInCfg then ppsInSet old s0 else ppsOutShow s0
  | some (.net0, _) => netShow s0
  | some (.netp, p) => netPCfgSet p old s0
  | some (.met0, _) | some (.metmap, _) => winCfgSet a old s0
  | some (.metmp, m) => pqMpCfgSet m (winCfgSet a old s0)
  | some (.metin, p) => pkCfgSet (32 * p + (o - 0x40) / 0x40) (winCfgSet a old s0)
  | some (.pqmp, p) => if o = 0x40 then pqMpCfgSet p s0 else s0
  | some (.pqfl, p) => pkCfgSet (32 * p + (o - 0x40) / 0x10) (fastCopy (32 * p + (o - 0x40) / 0x10) s0)
  | some (.stl, t) => demandRefresh t (stlCfgSet t (if o = 0x40 then old else s0.rd (Reg.stlCfg t)) s0)
  | some (.vhs, t) => vhsCfgSet t s0
  | some (.drv, b) =>
    if o % 0x40 = 0 ∨ o % 0x40 = 0x18 then drvCurveSet (8 * b + (o - 0x100) / 0x40) s0 else s0
  | some (.saf1, _) | some (.saf2, _) | some (.saf3, _) | some (.safst, _) => stagedRefresh s0
  | some (.mlkp, p) => mlkCfgSet p s0
  | some (.que, q) => if o = 0x40 then queCfgSet q old s0 else if o = 0x48 then queWmSet q old s0 else if o = 0x50 then queIrq q s0 else s0
  | some (.jnl0, _) => if o = 0x58 then ackSet old s0 else if o = 0x70 then spaceCheck s0 else notifyCheck s0
  | some (.bilmp, p) => if o = 0x40 then bilCfgSet p s0 else s0
  | some (.ctl0, _) | some (.ctl1, _) => ctlCfgSet s0
  | some (.updk, k) => if o = 0x40 then updCfgSet k s0 else s0
  | _ => s0

end State
end Sys2Proof.Machine
end

