-- ==== Sys2Proof/Machine/Flt.lean ====
section
/-! DEFINITION. The FLT block (21_faults_and_service.md R506 to R520): the active table, the summaries, the fault log and READMIT_PARTITION. -/
namespace Sys2Proof.Machine

/-- Entries of the log ring (R514). -/
def logSize : Nat := 131072

/-- Entries of the active table (R519). -/
def activeSize : Nat := 480

/-- Bytes 0 to 59 of a log entry (R514). -/
def LogEntry.body (e : LogEntry) : List Byte :=
  toLE 6 e.num ++ toLE 2 e.code ++ toLE 2 e.inst ++ toLE 1 e.kind ++ toLE 1 e.scope ++ toLE 8 e.counter ++ toLE 6 e.tSec
    ++ toLE 4 e.tNs ++ toLE 6 e.seq ++ toLE 2 e.restarts ++ (e.detail.flatMap fun d => toLE 6 d) ++ toLE 2 e.suppressed ++ toLE 2 0

/-- The 64 bytes of a log entry (R514). -/
def LogEntry.bytes (e : LogEntry) : List Byte := e.body ++ toLE 4 (crc32c e.body)

/-- Ascending code, then ascending instance (R508); events of one fault keep their order. -/
def faultBefore (a b : FaultEvent) : Bool := decide (a.code < b.code ∨ (a.code = b.code ∧ a.inst ≤ b.inst))

/-- Put an event behind those that come before it. -/
def faultInsert (x : FaultEvent) : List FaultEvent → List FaultEvent
  | [] => [x]
  | y :: t => if faultBefore y x then y :: faultInsert x t else x :: y :: t

/-- Events of one boundary in the order of R508. -/
def faultSort (l : List FaultEvent) : List FaultEvent := l.foldl (fun a x => faultInsert x a) []

namespace State

/-- A fault of one of these codes and this instance is active. -/
def activeIs (s : State) (codes : List Nat) (inst : Nat) : Bool :=
  s.active.any fun f => decide (f.code ∈ codes ∧ f.inst = inst)

/-- A fault of one of these codes is active, whatever its instance. -/
def activeAny (s : State) (codes : List Nat) : Bool := s.active.any fun f => decide (f.code ∈ codes)

/-- FLT_DEGRADED (R518): its bits in order. -/
def degradedBits (s : State) : List Bool :=
  let sl (k : Nat) := (List.range 4).any fun p => s.activeIs [0x0904] p && decide (s.v .slPathLost (2 * p + k) = 1)
  [s.activeIs [0xFE01] 0, s.activeIs [0xFE01] 1, s.activeIs [0x1001] 0, s.activeIs [0x1001] 1, s.activeAny [0x0001]]
    ++ (List.range 4).map (fun p => s.activeIs [0x0301, 0x0302] p) ++ [sl 0, sl 1]
    ++ (List.range 2).map (fun p => s.activeIs [0x0A01] p) ++ (List.range 3).map (fun p => s.activeIs [0x0F01] p)
    ++ [s.activeAny [0x0E01], s.activeAny [0x0905], s.activeAny [0x0906],
        s.active.any fun f => decide (f.code ∈ [0x0401, 0x0402, 0x0403] ∧ f.scope = 0),
        s.activeAny [0x0405], s.activeIs [0x0C02] 1 || s.activeIs [0x0C02] 2, s.activeAny [0x1002], s.activeAny [0x0103],
        s.activeAny [0x0803], s.activeAny [0x0E02]]

/-- FLT_DEGRADED as a number. -/
def degradedVal (s : State) : Nat := s.degradedBits.foldr (fun b a => b.toNat + 2 * a) 0

/-- The active table in its order (R519): Common, Stall, Redundancy, each by entry. -/
def activeOrder (l : List ActiveFault) : List ActiveFault :=
  l.filter (fun f => decide (f.scope = 2)) ++ l.filter (fun f => decide (f.scope = 1)) ++ l.filter (fun f => decide (f.scope = 0))

/-- FLT_ACTe (R519). -/
def activeWord (f : ActiveFault) : Nat := f.code % 65536 + f.inst % 65536 * 65536 + f.scope % 4 * 2 ^ 32

/-- FLT_SUM, FLT_STALLS, FLT_DEGRADED and the active table follow the faults in force (R517 to R519). A bit of FLT_DEGRADED that
goes to 1 sends vector 65 (R508). -/
def fltShow (s : State) : State :=
  let n := s.active.length
  let stalls := (s.active.filter fun f => decide (f.scope = 1)).foldl (fun a f => Nat.lor a f.stalls) 0
  let deg := s.degradedVal
  let was := s.rd Reg.fltDegraded
  let common := s.active.any fun f => decide (f.scope = 2)
  let sum := saturate 10 n + 2 ^ 10 * common.toNat + 2 ^ 11 * (decide (stalls ≠ 0)).toNat + 2 ^ 12 * (decide (deg ≠ 0)).toNat
    + 2 ^ 13 * (decide (activeSize < n)).toNat
  let old := min activeSize (s.fd Reg.fltActCount 0 10)
  let s1 := (((s.hw Reg.fltSum sum).hw Reg.fltStalls stalls).hw Reg.fltDegraded deg).hw Reg.fltActCount (saturate 10 n)
  let s2 := eachBelow (max old (min activeSize n)) (fun e t => t.hw (Reg.fltAct e) ((s.active[e]?.map activeWord).getD 0)) s1
  let raised := (List.range 26).filter fun i => maskBit deg i && !maskBit was i
  let s3 := if raised = [] then s2 else s2.evt 0x1100 20
  each raised (fun _ t => sendMsi 65 t) s3

/-- One event enters or leaves the active table, with its page events and vector 65 (R508). -/
def fltTable (f : FaultEvent) (s : State) : State :=
  if f.entry then
    let s1 : State := { s with active := activeOrder (s.active ++ [⟨f.code, f.inst, f.scope, f.stalls⟩]) }
    let s2 := s1.evt 0x1100 16
    if f.scope = 1 then sendMsi 65 (s2.evt 0x1100 18)
    else if f.scope = 2 then sendMsi 65 (s2.evt 0x1100 19)
    else s2
  else
    { s with active := s.active.filter fun a => decide (¬ (a.code = f.code ∧ a.inst = f.inst)) }.evt 0x1100 17

/-- A slot as it is published at this boundary: a block in restart shows its last set (R31), a page of the MET publication
rate its last publication (R145). -/
def shown (s : State) (a : Nat) : Nat :=
  let held := s.ownerFault (a / 0x1000) || (match pageEntry (a / 0x1000) with
    | some (c, _) => decide (pubSrc c = 3) && decide (s.v .metPub = 0)
    | none => false)
  if held then (Tab.get resetVal s.pub a).toNat else s.rd a

/-- Entries of a fault logged in the last 60 s of the counter (R509). -/
def loggedLately (s : State) (f : FaultEvent) : Nat :=
  ((s.log.takeWhile fun e => decide (s.v .logFloor ≤ e.num)).filter fun e =>
    decide (e.code = f.code ∧ e.inst = f.inst ∧ f.counter < e.counter + 60000000000)).length

/-- One event enters the log, or is counted (R509, R514); none from the commit of a supply loss to the next power-on (R515). -/
def fltLog (f : FaultEvent) (s : State) : State :=
  let key := 65536 * f.code + f.inst
  if s.v .gleaning = 1 ∨ s.v .powerOff = 1 then s
  else if 16 ≤ s.loggedLately f then s.addV .faultSuppr key 1
  else
    let num := s.rd Reg.fltLogHead
    let t := s.timeAt f.counter
    let e : LogEntry :=
      { num := num, code := f.code, inst := f.inst, kind := if f.entry then 1 else 2, scope := f.scope, counter := f.counter,
        tSec := secsOf t, tNs := nsOf t, seq := f.seq, restarts := s.fd Reg.sysIdRestarts 0 16,
        detail := (s.detailAddrs f.code f.inst).map fun a => if a = 0 then 0 else s.shown a,
        suppressed := saturate 16 (s.n .faultSuppr key) }
    let s1 : State := { s with log := (e :: s.log).take logSize }
    (((s1.setV .faultSuppr key 0).hw Reg.fltLogHead (num + 1)).hw Reg.fltLogTail (max (s.rd Reg.fltLogTail) (num + 1 - logSize)))

/-- The faults that wait act at a boundary (R508 steps 4 to 6). -/
def fltBoundary (s : State) : State :=
  let q := faultSort s.faultQ
  if q = [] then (if s.degradedVal = s.rd Reg.fltDegraded then s else fltShow s)
  else
    let s1 := fltShow (each q fltTable { s with faultQ := [] })
    each q fltLog s1

/-- The answer to a command of FLT (R511, R517). -/
def fltAnswer (code : Nat) (m : Master) (s : State) : Nat :=
  if code ≠ 1 then 0x16 else if s.role m = 2 ∨ s.role m = 3 then 0x01 else 0x12

/-- The effect of a command of FLT. -/
def fltEffect (arg : Nat) (s : State) : State := readmitPart (field arg 0 1) s

/-- FLT_LOG_STAT for a master's FLT_LOG_SEL (R520). -/
def logShown (s : State) (m : Master) : Option LogEntry := s.log.find? fun e => decide (e.num = s.rdB m Reg.fltLogSel)

end State
end Sys2Proof.Machine
end

