-- ==== Sys2Proof/Machine/Roles.lean ====
section
/-! DEFINITION. Role sessions and snapshots of the two masters (02_register_pages.md R48 to R64) and the loss and return of the host
link (R54). -/
namespace Sys2Proof.Machine

/-- The slot that holds a master's role (R63). -/
def roleSlot : Master → Nat
  | .host => Reg.sysMstRoleH
  | .mgmt => Reg.sysMstRoleM

/-- A SECURITY record of a role session (R564). -/
def sessionRec (code actor role origin : Nat) (more : List (Nat × Nat)) : Submission :=
  State.rec1 0 9 code role actor ([(1, role), (1, origin)] ++ more)

namespace State

/-- A master's challenge (R61): 96 bits that nothing fixes, fresh after every attempt (log entry 6). -/
def challenge (s : State) (m : Master) : Nat := Config.free (2 ^ 64 * (1 + m.ix) + s.n .chal m.ix) % 2 ^ 96

/-- A fresh challenge is drawn. -/
def newChallenge (m : Master) (s : State) : State := s.addV .chal m.ix 1

/-! Snapshots. -/

/-- Every page the map populates. -/
def allPages : List Nat := pageTable.flatMap fun e => (List.range e.2.1).map fun i => e.1 + i

/-- A master's snapshot is released (R50): FROZEN and SNAP_NUM_LO of its pages clear (R34, R51), PAGE_COUNT stays (log entry 48).
`expired` is EXPIRED. -/
def snapRelease (m : Master) (expired : Bool) (s : State) : State :=
  match s.snap m with
  | none => s
  | some x =>
    let s1 := each x.pages (fun p t => t.wrB m (snapAddr p) (t.fdB m (snapAddr p) 0 1)) (s.setSnap m none)
    let s2 := s1.wrfB m Reg.sysSnapStat 0 1 0
    if expired then s2.wrfB m Reg.sysSnapStat 1 1 1 else s2

/-- SNAPSHOT_EXPIRED (R50, R52): the hold limit, a stored 0 counting as 1 ms, has run since the snapshot. -/
def snapExpired (m : Master) (s : State) : State :=
  if (s.snap m).isSome ∧ s.n .snapAt m.ix + max 1 (s.fdB m Reg.sysSnapHold 0 10) * 1000000 ≤ s.counter then snapRelease m true s
  else s

/-! Roles. -/

/-- A role session ends with a record (R60, R564); its snapshot is released (R50) and a METROLOGY session closes the seal
(R151). -/
def roleLeave (m : Master) (code actor : Nat) (more : List (Nat × Nat)) (s : State) : State :=
  let r := s.role m
  let s1 := snapRelease m false s
  if r = 0 then s1
  else
    let s2 := if r = 4 then sealRoleEnds m s1 else s1
    submit (sessionRec code actor r m.ix more) (s2.hw (roleSlot m) 0)

/-- A role session ends by link loss (3) or a reset (4). -/
def roleLost (m : Master) (how : Nat) (s : State) : State := roleLeave m 2 actorDevice [(1, how)] s

/-- Roles whose sessions expire (R60). -/
def expires (r : Nat) : Bool := decide (3 ≤ r ∧ r ≤ 6)

/-- Length of a role session without an accepted write (R60), ns. -/
def sessionNs : Nat := 1800 * 10 ^ 9

/-- ROLE_SESSION_EXPIRY (R60). -/
def roleExpiry (m : Master) (s : State) : State :=
  if expires (s.role m) ∧ s.n .lastAccepted m.ix + sessionNs ≤ s.counter then roleLeave m 3 actorDevice [] s else s

/-- Seconds left of a role session, 0xFFFF for no expiry (R61). -/
def secondsLeft (s : State) (m : Master) : Nat :=
  if expires (s.role m) then (s.n .lastAccepted m.ix + sessionNs - s.counter + 10 ^ 9 - 1) / 10 ^ 9 else 0xFFFF

/-- LOGIN_BLOCK_END (R60, R441): the 60 s of an origin are over. -/
def loginBlockEnd (o : Nat) (s : State) : State :=
  if s.v .loginBlockEnd o ≤ s.counter then s.setV .loginBlockEnd o 0 else s

/-- A failed login (R60, R61): 2 bad signature, 3 BUSY, 4 blocked. The third failure in a row starts a block; an attempt while
logins are blocked counts as none. -/
def loginFails (m : Master) (role res : Nat) (s : State) : State :=
  let i := m.ix
  let k := s.n .loginFails i + 1
  let block := decide (res ≠ 4) && decide (3 ≤ k)
  let s1 := if res = 4 then s else s.setV .loginFails i (if block then 0 else k : Nat)
  let s2 := if block then s1.setV .loginBlockEnd i (s1.counter + 60 * 10 ^ 9 : Nat) else s1
  let s3 := s2.wrfB m Reg.sysAuthStat 8 3 res
  newChallenge m (submit (sessionRec 4 (actorMaster s m) role i [(1, res), (1, block.toNat)]) s3)

/-- The other master. -/
def otherMaster : Master → Master
  | .host => .mgmt
  | .mgmt => .host

/-- A logout, or a login to GUEST (R61): `how` 1 or 2. -/
def logout (m : Master) (how : Nat) (s : State) : State :=
  if s.role m = 0 then
    submit (sessionRec 2 (actorMaster s m) 0 m.ix [(1, how)]) (snapRelease m false s)
  else roleLeave m 2 (actorMaster s m) [(1, how)] s

/-- LOGIN (R59 to R61): `valid` is the verdict on the signature under the role's credential, which its slot of the key store must hold
(R415). A role held before ends with a logout. -/
def login (m : Master) (role : Nat) (valid : Bool) (s : State) : State :=
  let i := m.ix
  let blocked := decide (s.counter < s.n .loginBlockEnd i)
  if role = 0 then (newChallenge m (logout m 2 s)).wrfB m Reg.sysAuthStat 8 3 1
  else if blocked then loginFails m role 4 s
  else if role = 7 ∨ valid = false ∨ s.slotAlg role = 0 then loginFails m role 2 s
  else if 4 ≤ role ∧ s.role (otherMaster m) = role then loginFails m role 3 s
  else
    let s1 := if s.role m = 0 then s else roleLeave m 2 (actorMaster s m) [(1, 1)] s
    let s2 := (s1.hw (roleSlot m) role).setV .loginFails i 0
    let s3 := (s2.setV .lastAccepted i s2.counter).wrfB m Reg.sysAuthStat 8 3 1
    newChallenge m (submit (sessionRec 1 (actorMaster s3 m) role i []) s3)

/-! The host link (R54). -/

/-- The host's banked slots return to their reset values, but for xxx_STAT and xxx_SEQ (R54). -/
def hostBankReset (s : State) : State :=
  let mine (k : Nat) : Bool := decide (bankSpan ≤ k ∧ k < 2 * bankSpan)
  let stays (k : Nat) : Bool := match accessOf (k % bankSpan) with
    | some .cstat | some .cseq => true
    | _ => false
  { s with
    slots := s.slots.filter fun (e : Nat × Word) => !mine e.1 || stays e.1
    vars := s.vars.filter fun (e : (Var × Nat) × Int) => decide (¬ (e.1.1 = .tokenFresh ∧ mine e.1.2)) }

/-- The MSI-X table and pending bits return to their reset state with the endpoint (log entry 7). -/
def msixReset (s : State) : State :=
  { s with slots := s.slots.filter fun (e : Nat × Word) => !isMsixTable e.1 && !isMsixPba e.1 }

/-- The host link is lost (R54, R335): the role session ends, its snapshot is released, and HOST_LINK_DOWN enters. -/
def linkLoss (how : Nat) (s : State) : State :=
  if s.bit Reg.sysMstLink 0 = false then s
  else
    let s1 := roleLost .host how (s.hwf Reg.sysMstLink 0 6 0)
    let s2 := newChallenge .host (msixReset (hostBankReset s1))
    fault 0x0001 0xFFFF 0 0 true (eachBelow 64 queLinkLoss s2)

end State
end Sys2Proof.Machine
end

