-- ==== Sys2Proof/Machine/Upd.lean ====
section
/-! DEFINITION. Update offers, bales, sources, verification, activation, trial, fallback and the relay chain
(18_firmware_update.md R455 to R475). Kinds are numbered 1 to 6. -/
namespace Sys2Proof.Machine

/-- Largest size of a kind in bales (R455). -/
def kindLargest : Nat → Nat
  | 1 => 512
  | 2 | 3 => 32
  | 4 | 5 => 128
  | _ => 1

/-- A kind's page. -/
def kindPage (k : Nat) : Nat := 0x1000 + k

/-- Roles for OFFER, FETCH and WITHDRAW (R472). -/
def offerRoles (k : Nat) : List Nat := if k ≤ 4 then [3] else if k = 5 then [2, 3, 1] else [2, 1]

/-- Roles for CONFIRM and REVERT (R472). -/
def confirmRoles : Nat → List Nat
  | 1 | 4 => [3]
  | 2 => [5]
  | 3 => [4]
  | 5 => [2, 3]
  | _ => []

/-- Roles for ACTIVATE of one section of a CONFIG image (R467): 0 GENERAL, 1 SEALED, 2 SAFETY. -/
def sectionRoles : Nat → List Nat
  | 0 => [2, 3]
  | 1 => [4]
  | _ => [5]

/-- A message of the relay chain (R471). -/
def relayBytes (ty k src id bale piece : Nat) (body : List Byte) : List Byte :=
  let b := toLE 1 ty ++ toLE 1 k ++ toLE 6 src ++ toLE 4 id ++ toLE 2 bale ++ toLE 1 piece ++ [0#8] ++ body
  b ++ toLE 4 (crc32c b)

/-- The 65 536 bytes of a bale. -/
def baleBytes (b : List Byte) : List Byte := b.take 0x10000 ++ List.replicate (0x10000 - b.length) 0

namespace State

/-- STATE of a kind's offer (R462). -/
def updState (s : State) (k : Nat) : Nat := s.fd (Reg.updKOffer k) 0 3

/-- SOURCE of an offer: 1 management port, 2 host, 3 relay chain. -/
def updSource (s : State) (k : Nat) : Nat := s.fd (Reg.updKOffer k) 4 2

/-- BALES expected. -/
def updBales (s : State) (k : Nat) : Nat := s.fd (Reg.updKOffer k) 16 10

/-- IMAGE_ID of an offer. -/
def updId (s : State) (k : Nat) : Nat := s.fd (Reg.updKOfferId k) 0 32

/-- IMAGE_ID in force. -/
def runId (s : State) (k : Nat) : Nat := s.fd (Reg.updKRunId k) 0 32

/-- Configuration format in force. -/
def cfgFmt (s : State) : Nat := s.n .cfgFormat + 1

/-- UPD does not work: restarting, gleaning or off. -/
def updIdle (s : State) : Bool := s.ownerFault 0x1000 || decide (s.v .gleaning = 1) || decide (s.v .powerOff = 1)

/-- Billing-time seconds. -/
def btSecs (s : State) : Nat := secsOf s.btNow

/-- An UPDATE record (R472); `what` is the happening: the spec states no CODE (log entry 6). -/
def updRec (what k idx st reason : Nat) (s : State) : State :=
  submit (rec1 0x10 0xA (Config.recordCode 10 what % 2 ^ 12) k 0
    [(1, k), (1, s.updSource k), (4, s.updId k), (6, s.rd (Reg.updKOfferVer k)), (2, idx), (1, st), (1, reason),
      (6, s.n .updSrc k)]) s

/-- Bales and pieces of an offer are discarded; the image in force stays. -/
def updDiscard (k : Nat) (s : State) : State :=
  let id := s.updId k
  let s1 : State := { s with
    bales := s.bales.filter fun (b : Stored) => decide (b.kind ≠ k) || decide (b.image ≠ id) || decide (id = s.runId k)
    pieces := s.pieces.filter fun (p : Piece) => decide (p.kind ≠ k)
    fetches := s.fetches.filter fun (f : Nat × Nat × Nat) => decide (f.1 ≠ k) }
  (eachBelow 11 (fun w t => t.hw (Reg.updKMap k w) 0) s1).hwf (Reg.updKOffer k) 26 10 0

/-- A bale of an image. -/
def baleOf (s : State) (k id i : Nat) : Option Stored :=
  s.bales.find? fun b => decide (b.kind = k ∧ b.image = id ∧ b.index = i)

/-- The header of an image: bytes 0 to 127 (R457); empty while bale 0 is missing. -/
def imageHead (s : State) (k id : Nat) : List Byte := ((s.baleOf k id 0).map fun b => b.data.take 128).getD []

/-- The bytes of an image. -/
def imageBytes (s : State) (k id bales : Nat) : List Byte :=
  (List.range bales).flatMap fun i => baleBytes (((s.baleOf k id i).map (·.data)).getD [])

/-- The header agrees with the offer and with R457 (R464 code 0x01). -/
def headerOk (s : State) (k : Nat) : Bool :=
  let h := s.imageHead k (s.updId k)
  let len := leAt h 16 4
  decide (slice h 0 4 = [0x53#8, 0x49#8, 0x4D#8, 0x47#8] ∧ leAt h 4 1 = 1 ∧ leAt h 5 1 = k ∧ leAt h 12 4 = s.updId k)
    && decide (224 ≤ len ∧ leAt h 20 2 = s.updBales k ∧ (len + 65535) / 65536 = s.updBales k ∧ (k ≠ 6 ∨ len = 6880))
    && decide (slice h 30 6 = [0x4D#8, 0x52#8, 0x4C#8, 0x33#8, 0x32#8, 0x20#8] ∧ leAt h 36 1 = 0x43)

/-- SVN of the offer is below the SVN in force (R464 code 0x04). -/
def svnLower (s : State) (k : Nat) : Bool := decide (s.fd (Reg.updKOfferVer k) 32 16 < s.fd (Reg.updKRun k) 32 16)

/-! The relay chain, sending (R471, R502). -/

/-- RELAY_ACTIVE (R474): an image is being relayed or received from the relay chain. -/
def relayShow (s : State) : State :=
  s.hwb Reg.updStat 2 (((List.range 7).any fun k => (List.range 4).any fun d => decide (s.v .relayAt (4 * k + d) ≠ 0))
    || ((List.range 6).any fun i => decide (s.updState (i + 1) = 1 ∧ s.updSource (i + 1) = 3)))

/-- A message goes to a device: OFFER, NEED and DONE in CA2, PIECE in CA1 (R494). -/
def relaySend (dst ty k id bale piece : Nat) (body : List Byte) (s : State) : State :=
  linkRelay dst (if ty = 2 then 1 else 2) (relayBytes ty k (s.rd Reg.sysIdSerial) id bale piece body) s

/-- An OFFER goes to a downstream device. -/
def relayOffer (k d : Nat) (s : State) : State :=
  let dst := s.rd (Reg.updRelayDn d)
  if dst = 0 ∨ s.bit Reg.updRelayCfg 1 = false then s
  else
    let h := s.imageHead k (s.n .relayImage k)
    relaySend dst 1 k (s.n .relayImage k) 0 0 (h ++ List.replicate (128 - h.length) 0)
      (s.setV .relayAt (4 * k + d) (s.counter + 1))

/-- An image that has passed its whole-image check is offered to every downstream device. -/
def relayStart (k : Nat) (s : State) : State :=
  if s.bit Reg.updRelayCfg 1 ∧ s.bit (Reg.updKCfg k) 24 then
    relayShow (eachBelow 4 (relayOffer k) (s.setV .relayImage k (s.updId k)))
  else s

/-- NEED: the bitmap of the receiver, 64 bytes. -/
def relayNeed (k : Nat) (s : State) : State :=
  let map := (List.range 11).foldl (fun a w => a + s.rd (Reg.updKMap k w) * 2 ^ (48 * w)) 0
  relaySend (s.n .updSrc k) 3 k (s.updId k) 0 0 (toLE 64 map) s

/-! States of an offer (R462). -/

/-- An offer enters a state: its page, event and record. An offer of the relay chain that leaves RECEIVING sends DONE. -/
def setOffer (k st reason what : Nat) (s : State) : State :=
  let a := Reg.updKOffer k
  let left := decide (s.updState k = 1 ∧ st ≠ 1 ∧ s.updSource k = 3)
  let s1 := (s.hwf a 0 3 st).hwf a 8 8 reason
  let s2 := s1.hw (Reg.updKExpiry k) (if 1 ≤ st ∧ st ≤ 3 then s1.n .updExp k else 0)
  let e (b : Bool) (i : Nat) (t : State) : State := if b then t.evt (kindPage k) i else t
  let s3 := e (decide (st = 3)) 16 (e (decide (st = 5)) 17 (e (decide (st = 7)) 22 s2))
  let s4 := updRec what k (s3.fd a 26 10) st reason s3
  let s5 := if left then relaySend (s4.n .updSrc k) 4 k (s4.updId k) 0 0 (toLE 1 st ++ toLE 1 reason) s4 else s4
  let s6 : State := if st = 0 then
      (s5.hw a (reason * 2 ^ 8)).setV .updSrc k 0
    else s5
  relayShow (if 4 ≤ st ∧ st ≤ 6 then s6 else (s6.setV .updTrialEnd k 0).hwf (Reg.updKTrial k) 0 24 0xFFFFFF)

/-- The offer ends: back to NONE, its bales discarded. -/
def offerEnd (k reason what : Nat) (s : State) : State := updDiscard k (setOffer k 0 reason what s)

/-- The offer fails. -/
def updFail (k reason : Nat) (s : State) : State := setOffer k 7 reason 4 s

/-- A trial begins, and is counted while AUTO_CONFIRM is 1 (R462, R467). -/
def trialStart (k : Nat) (s : State) : State :=
  let s1 := if s.updState k = 5 then s else setOffer k 5 0 4 s
  updCfgSet k ((s1.setV .updTrialEnd k 0).hwf (Reg.updKTrial k) 0 24 0xFFFFFF)

/-- Every bale is stored: VERIFYING under policy 0, READY under policy 1 (R462, R463). -/
def updAdvance (k : Nat) (s : State) : State :=
  if s.updState k = 1 ∧ s.fd (Reg.updKOffer k) 26 10 = s.updBales k then
    setOffer k (if s.bit (Reg.updKCfg k) 0 then 3 else 2) 0 4 s
  else s

/-- Bale 0 is stored: its header is checked at once (R464). -/
def headerCheck (k : Nat) (s : State) : State :=
  let h := s.imageHead k (s.updId k)
  let s1 := s.hw (Reg.updKOfferVer k) (leAt h 8 4 + leAt h 6 2 * 2 ^ 32)
  if s1.headerOk k then s1 else updFail k 1 s1

/-- A bale arrives for the open offer (R458). -/
def storeBale (k : Nat) (b : Bale) (s : State) : State :=
  let m := Reg.updKMap k (b.index / 48)
  let stored := decide (b.index < s.updBales k) && s.bit m (b.index % 48)
  if s.updState k ≠ 1 ∨ stored then s
  else if crc32c (baleBytes b.data) ≠ b.crc then s.inc (Reg.updKCnt k) 32 16 1
  else if s.updBales k ≤ b.index then s
  else
    let s1 : State := { s with bales := s.bales ++ [Stored.mk k (s.updId k) b.index (b.data.take 0x10000)] }
    let s2 := (s1.hwb m (b.index % 48) true).hwf (Reg.updKOffer k) 26 10 (s1.fd (Reg.updKOffer k) 26 10 + 1)
    let s3 := updRec 3 k b.index 1 0 s2
    let s4 := if s3.updSource k = 3 then
        let n := s3.n .relayN k + 1
        let t := s3.setV .relayN k n
        if n % 64 = 0 then relayNeed k t else t
      else s3
    updAdvance k (if b.index = 0 then headerCheck k s4 else s4)

/-! OFFER, FETCH, pieces, WITHDRAW (R459 to R462). -/

/-- Both QSPI chips are good. -/
def banksOk (s : State) : Bool := s.bit Reg.updStat 0 && s.bit Reg.updStat 1

/-- PFW_N is asserted or VIN is in its undervoltage band (R464 code 0x0A). -/
def supplyPoor (s : State) : Bool := s.bit Reg.glnStat 0 || s.bit Reg.pwrStat 0

/-- Another image of kinds 1 to 5 is in ACTIVATING, TRIAL or MIRRORING (R464 code 0x0C). -/
def otherTrial (s : State) (k : Nat) : Bool :=
  (List.range 5).any fun i => decide (i + 1 ≠ k ∧ 4 ≤ s.updState (i + 1) ∧ s.updState (i + 1) ≤ 6)

/-- Reason for which an OFFER is refused; 0 none (R464). -/
def offerReason (s : State) (k bales : Nat) : Nat :=
  if kindLargest k < bales then 0x02
  else if s.zeroised then 0x05
  else if k ≤ 4 ∧ s.banksOk = false then 0x06
  else if s.supplyPoor then 0x0A
  else if s.otherTrial k then 0x0C
  else 0

/-- A new OFFER against an open one (R461): true where it is BUSY. The sources rank 1, 2, 3. -/
def offerBusy (s : State) (src k bales id : Nat) : Bool :=
  let st := s.updState k
  if st = 0 then false
  else if 4 ≤ st ∧ st ≤ 6 then true
  else if src = s.updSource k then !decide (id = s.updId k ∧ bales = s.updBales k)
  else decide (s.updSource k < src)

/-- The effect of an accepted OFFER (R461). -/
def offerTake (src k bales id serial : Nat) (s : State) : State :=
  let st := s.updState k
  if st ≠ 0 ∧ src = s.updSource k then
    let s1 := updRec 2 k (s.fd (Reg.updKOffer k) 26 10) (if st = 7 then 1 else st) 0 s
    if st = 7 then
      let s2 := setOffer k 1 0 4 s1
      updAdvance k (if (s2.baleOf k id 0).isSome then headerCheck k s2 else s2)
    else s1
  else
    let s1 := if st = 0 then s
      else (offerEnd k 0 6 s).evt (kindPage k) 21
    let s2 := (s1.hw (Reg.updKOffer k) (1 + src * 2 ^ 4 + bales * 2 ^ 16)).hw (Reg.updKOfferId k) id
    let s3 := updDiscard k (s2.hw (Reg.updKOfferVer k) 0)
    let s4 := ((s3.setV .updExp k (s3.btSecs + 7776000 : Nat)).setV .updSrc k serial).setV .relayN k 0
    relayShow (updRec 1 k bales 1 0 (s4.hw (Reg.updKExpiry k) (s4.n .updExp k)))

/-- A refusal with its reason (R464). -/
def updRefuse (k reason : Nat) (s : State) : State :=
  updRec 5 k (s.fd (Reg.updKOffer k) 26 10) (s.updState k) reason (s.hwf (Reg.updKOffer k) 8 8 reason)

/-- A fetch's address (R459). -/
def fetchAddr (s : State) (m : Master) : Nat := s.rdB m Reg.updHaddrLo + s.fdB m Reg.updHaddrHi 0 16 * 2 ^ 48

/-- FETCH_COMPLETE (R459). -/
def fetchComplete (k fetched : Nat) (ok : Bool) (b : Bale) (s : State) : State :=
  match s.fetches.find? fun f => decide (f.1 = k ∧ f.2.1 = fetched) with
  | none => s
  | some f =>
    if s.updIdle then s
    else
      let s1 : State := { s with fetches := s.fetches.erase f }
      if ok then storeBale k b s1 else s1.inc (Reg.updKCnt k) 32 16 1

/-- BALE_STORED (R458). -/
def baleArrives (k : Nat) (b : Bale) (s : State) : State := if s.updIdle then s else storeBale k b s

/-- A piece of a bale arrives; the bale is checked once all 64 are held (R460). -/
def pieceTake (k bale crc piece : Nat) (data : List Byte) (s : State) : State :=
  if 64 ≤ piece ∨ s.updBales k ≤ bale ∨ s.updState k ≠ 1 then s
  else
    let mine (p : Piece) : Bool := decide (p.kind = k ∧ p.bale = bale)
    let l := s.pieces.filter fun p => !mine p || decide (p.crc = crc ∧ p.piece ≠ piece)
    let l1 := l ++ [Piece.mk k bale crc piece data]
    let got := l1.filter mine
    if got.length < 64 then { s with pieces := l1 }
    else
      let bytes := (List.range 64).flatMap fun i => ((got.find? fun p => decide (p.piece = i)).map (·.data)).getD []
      storeBale k ⟨bale, crc, bytes⟩ { s with pieces := l.filter fun p => !mine p }

/-- A refusal is counted for its master (R43, R63). -/
def countOnly (m : Master) (st : Nat) (s : State) : State :=
  let cnt := match m with | .host => Reg.sysMstCntH | .mgmt => Reg.sysMstCntM
  let ref := match m with | .host => Reg.sysMstRefH | .mgmt => Reg.sysMstRefM
  if st = 0x10 then s.inc cnt 0 16 1
  else if st = 0x11 then s.inc cnt 16 16 1
  else if st = 0x12 then s.inc cnt 32 16 1
  else if st = 0x15 ∨ st = 0x16 then s.inc ref 0 16 1
  else if st = 0x14 ∨ st = 0x17 then s.inc ref 16 16 1
  else s.inc ref 32 16 1

/-- A write that is not accepted is counted and shown with its byte address (R43, R63). -/
def countStatus (m : Master) (st addr : Nat) (s : State) : State :=
  let err := match m with | .host => Reg.sysMstErrH | .mgmt => Reg.sysMstErrM
  countOnly m st (s.hw err (st * 2 ^ 40 + addr % 2 ^ 26))

/-- A management-port frame has come (R63). -/
def mgmtSeen (s : State) : State := (s.setV .mgmtFrameAt 0 (s.counter + 1)).hwb Reg.sysMstLink 8 true

/-- The management port answers with a status only (R55, R460). -/
def mgmtStatus (st : Nat) (s : State) : State := { s with mgmtReply := toLE 1 st ++ toBE 2 (crc16 (toLE 1 st)) }

/-- PIECE_FRAME (R460): multi-byte fields most significant byte first, as the port sends (R26). -/
def pieceFrame (f : List Byte) (s : State) : State :=
  if s.v .powerOff = 1 then s
  else if s.updIdle then mgmtStatus 0x14 (countStatus .mgmt 0x14 0 (mgmtSeen s))
  else
    let s1 := mgmtSeen s
    let k := beAt f 1 1
    if f.length ≠ 1035 ∨ beAt f 1033 2 ≠ crc16 (f.take 1033) ∨ beAt f 0 1 ≠ 0x42 then
      mgmtStatus 0x1A (countStatus .mgmt 0x1A 0 (s1.inc Reg.updStat 8 8 1))
    else if k = 0 ∨ 6 < k ∨ s.role .mgmt ∉ offerRoles k then mgmtStatus 0x12 (countStatus .mgmt 0x12 0 s1)
    else if s.updState k = 0 ∨ s.updSource k ≠ 1 then mgmtStatus 0x14 (countStatus .mgmt 0x14 0 s1)
    else mgmtStatus 0x00 (pieceTake k (beAt f 2 2) (beAt f 5 4) (beAt f 4 1) (slice f 9 1024) s1)


/-- OFFER_EXPIRY (R462). -/
def offerExpiry (k : Nat) (s : State) : State :=
  let st := s.updState k
  if s.updIdle ∨ st = 0 ∨ 3 < st ∨ s.btSecs < s.n .updExp k then s
  else (offerEnd k 0x0D 7 s).evt (kindPage k) 20

/-- VERIFY_COMPLETE (R463, R464). -/
def verifyComplete (k : Nat) (ok : Bool) (s : State) : State :=
  if s.updIdle ∨ s.updState k ≠ 2 then s
  else if s.headerOk k = false then updFail k 1 s
  else if ok = false then updFail k 3 s
  else if s.svnLower k then updFail k 4 s
  else relayStart k (setOffer k 3 0 4 s)

/-! Configuration images (R467, R468). -/

/-- What the CONFIG image of the open offer says: slot and value. -/
def imageCfg (s : State) : List (Nat × Nat) := Config.imageFields (s.imageBytes 5 (s.updId 5) (s.updBales 5))

/-- The value that a slot takes from an image value, with the bits of a mask taken from the image and the others kept. -/
def imageValue (s : State) (a v mask : Nat) : Nat :=
  let old := s.cfgValue a
  let new := match accessOf a with
    | some (.rw fs) => (storeFields fs old v).getD old
    | _ => if roConfig a then v else old
  Nat.lor (Nat.land new mask) (Nat.land old (2 ^ 48 - 1 - mask % 2 ^ 48))

/-- Bits of a slot that belong to a section: 0 GENERAL, 1 SEALED, 2 SAFETY. -/
def sectionMask (a sect : Nat) : Nat :=
  if roConfig a then (if sect ≠ 0 then 0 else if a = Reg.alcLimit then 2 ^ 48 - 1 else 2 ^ 32 - 1)
  else if configSlot a = false then 0
  else if safetySlot a then (if sect = 2 then 2 ^ 48 - 1 else 0)
  else if sect = 1 then sealedMask a
  else if sect = 0 then 2 ^ 48 - 1 - sealedMask a else 0

/-- The fields of a section that differ from the configuration in force. -/
def sectionDiff (s : State) (sect : Nat) : List (Nat × Nat) :=
  ((s.imageCfg.filter fun x => decide (sectionMask x.1 sect ≠ 0)).map fun x =>
    (x.1, s.imageValue x.1 x.2 (sectionMask x.1 sect))).filter fun x =>
      decide (x.2 ≠ s.cfgValue x.1) && !(decide (sect = 0) && s.cfgDefer.any fun y => decide (y.2.1 = x.1))

/-- Every section that differs has been applied (R467). -/
def sectionsDone (s : State) : Bool :=
  (List.range 3).all fun i => maskBit (s.n .updSect) i || (s.sectionDiff i).isEmpty

/-- Stalls that own a slot. -/
def slotStalls (s : State) (a : Nat) : List Nat :=
  match pageEntry (a / 0x1000) with
  | some (.stl, t) | some (.vhs, t) => [t]
  | some (.drv, b) => ((s.userOf (8 * b + (a % 0x1000 - 0x100) / 0x40)).map fun u => [u.1]).getD []
  | some (.bilmp, p) => s.stallsOfMp p
  | some (.pqfl, p) => s.stallsOfInput (32 * p + (a % 0x1000 - 0x40) / 0x10)
  | _ => []

/-- A configuration slot takes a value; the value before is kept for REVERT. -/
def cfgTake (a v : Nat) (s : State) : State :=
  let old := s.cfgValue a
  let had := (s.cfgOld.find? fun x => decide (x.1 = a)).map (·.2)
  let s1 := cfgSet a old (cfgPut a v s)
  { s1 with cfgOld := s1.cfgOld ++ [(a, had.getD (BitVec.ofNat 48 old))] }

/-- One field of GENERAL: taken now, or deferred while a stall that owns it is busy. -/
def generalTake (x : Nat × Nat) (s : State) : State :=
  let st := ownerAnswer .host x.1 x.2 s
  match (s.slotStalls x.1).find? fun t => !s.stallFree t with
  | some t =>
    if st = 0x15 then { s.hwb (Reg.updKDefer 5) t true with cfgDefer := s.cfgDefer ++ [(t, x.1, BitVec.ofNat 48 x.2)] }
    else cfgTake x.1 x.2 s
  | none => if st = 0x15 ∨ st = 0x16 then s else cfgTake x.1 x.2 s

/-- DEFERRED_CONFIG_APPLY (R467): the stall is in DISABLED, IDLE or OUT_OF_SERVICE. -/
def deferredApply (t : Nat) (s : State) : State :=
  if s.updIdle ∨ s.stallFree t = false ∨ s.bit (Reg.updKDefer 5) t = false then s
  else
    let s1 := each (s.cfgDefer.filter fun x => decide (x.1 = t)) (fun x u => cfgTake x.2.1 x.2.2.toNat u) s
    { s1.hwb (Reg.updKDefer 5) t false with cfgDefer := s1.cfgDefer.filter fun x => decide (x.1 ≠ t) }

/-- Each deferred stall takes its fields at the first boundary at which its mode allows them (R467). -/
def deferDue (s : State) : State := if s.rd (Reg.updKDefer 5) = 0 then s else eachBelow 32 deferredApply s

/-- A sealed write by an image is journalled with its old and new value (R149); what REVERT restores of the slot stays kept. -/
def sealedTake (m : Master) (x : Nat × Nat) (s : State) : State :=
  let old := s.rd x.1
  let s1 := cfgSet x.1 old (submit (rec1 4 2 0 0xFFFF (actorMaster s m) [(4, x.1), (6, old), (6, x.2), (2, 0xFFFF)]) (s.hw x.1 x.2))
  { s1 with cfgOld := s.cfgOld }

/-- The sections of a CONFIG image are applied (R467). -/
def configApply (sects : Nat) (m : Master) (s : State) : State :=
  let first := decide (s.updState 5 = 3)
  let s1 := if first then (s.inc (Reg.updKCnt 5) 0 16 1).setV .updSect 0 0 else s
  let s2 := if maskBit sects 0 then each (s1.sectionDiff 0) generalTake (if first then { s1 with cfgOld := [] } else s1) else s1
  let s3 := if maskBit sects 1 then each (s2.sectionDiff 1) (sealedTake m) s2 else s2
  let s4 := if maskBit sects 2 then stagedRefresh (each (s3.sectionDiff 2) (fun x t => t.hw x.1 x.2) s3) else s3
  trialStart 5 (s4.setV .updSect 0 (Nat.lor (s4.n .updSect) sects : Nat))

/-- REVERT of a CONFIG trial: the GENERAL section of the image before, with every write accepted since (R468). -/
def configRevert (s : State) : State :=
  let l := s.cfgOld
  let s1 := each l (fun x t =>
    let now := t.cfgValue x.1
    let general := sectionMask x.1 0
    cfgSet x.1 now (cfgPut x.1 (Nat.lor (Nat.land x.2.toNat general) (Nat.land now (2 ^ 48 - 1 - general))) t)) s
  { s1.hw (Reg.updKDefer 5) 0 with cfgOld := [], cfgDefer := [] }

/-! Activation, trial, confirmation, fallback (R465 to R470). -/

/-- A part's action waits for the end of the boundary: the restart onto the other image. -/
def updPost (k : Nat) (s : State) : State := s.setV .updAfter 0 (setField (s.n .updAfter) k 1 1 : Nat)

/-- SEAL_CNT counts an activation of metrology firmware (R151). -/
def sealCount (s : State) : State := s.hw Reg.metSealCnt (s.rd Reg.metSealCnt + 1)

/-- What brings the parts of kinds 1 to 4 onto the image to run, at ACTIVATE and at a fallback. -/
def updLoad (k : Nat) (s : State) : State :=
  if k = 3 then updPost 3 (sealCount s)
  else if k = 4 then updPost 4 (s.setV .updEng 0 (2 ^ 32 - 1))
  else if k = 2 then updPost 2 (captureNow (drainAll s))
  else if k = 1 then s.setV .updStep 0 3
  else s

/-- Fallback to the image in force (R469). -/
def fallback (k reason : Nat) (s : State) : State :=
  let step := s.n .updStep
  let s1 := fault 0x1002 k 0 0 true ((s.inc (Reg.updKCnt k) 16 16 1).evt (kindPage k) 19)
  let s2 := setOffer k 7 reason 8 s1
  if k = 5 then configRevert s2
  else if k = 1 then s2.setV .updStep 0 (if s.updState 1 = 4 then 3 - step else 3 : Nat)
  else updLoad k s2

/-- MET_FW_ID names the metrology image in force (R153): VERSION, and the last four bytes of SHA-384 over the bytes that its signature
covers (R457). -/
def metFwShow (s : State) : State :=
  let id := s.updId 3
  let len := leAt (s.imageHead 3 id) 16 4
  let dig := Sha.sha384 ((s.imageBytes 3 id (s.updBales 3)).take (len - 96))
  s.hw Reg.metFwId (s.fd (Reg.updKOfferVer 3) 0 16 + beAt dig 44 4 * 2 ^ 16)

/-- The image of a trial is confirmed: it is in force (R462, R466, R468). -/
def confirm (k : Nat) (s : State) : State :=
  let id := s.updId k
  let h := s.imageHead k id
  let ver := s.rd (Reg.updKOfferVer k)
  let s1 := s.hw (Reg.updKRun k) (field ver 0 32 + max (field ver 32 16) (s.fd (Reg.updKRun k) 32 16) * 2 ^ 32)
  let bank := 1 - s1.fd (Reg.updKRunId k) 32 1
  let s2 := if k ≤ 4 then s1.hw (Reg.updKRunId k) (id + bank * 2 ^ 32)
    else s1.hwf (Reg.updKRunId k) 0 32 id |>.hwf (Reg.updKRunId k) 32 1 bank
  let s3 : State := { s2 with
    bales := s2.bales.filter fun (b : Stored) => decide (b.kind ≠ k) || decide (b.image = id)
    cfgOld := if k = 5 then [] else s2.cfgOld }
  let s4 := if k = 1 then rewrap (field ver 32 16) (s3.setV .cfgFormat 0 (leAt h 22 2 - 1 : Nat))
    else if k = 3 then metFwShow s3 else s3
  let s5 := fault 0x1002 k 0 0 false (s4.evt (kindPage k) 18)
  if k ≤ 4 ∧ s5.banksOk then setOffer k 6 0 4 s5 else setOffer k 0 0 4 s5

/-- Stalls in session modes that a partition leads. -/
def busyLeads (s : State) (p : Nat) : Nat := ((List.range 32).filter fun t => decide (s.leader t = p) && s.inSession t).length

/-- The next partition restarts onto the RESIDENT image to run: first the one that leads fewer stalls in session modes, B at equal
counts; only while the other serves (R465, R469). -/
def updNext (s : State) : State :=
  let step := s.n .updStep
  if step = 0 ∨ (List.range 32).any (fun t => s.takeover t) then s
  else
    let p := if step = 3 then (if s.busyLeads 0 < s.busyLeads 1 then 0 else 1) else step - 1
    if s.partState 0 = 0 ∧ s.partState 1 = 0 then partFail p 4 (s.setV .updStep 0 (step - 2 ^ p : Nat)) else s

/-- Reason for which an ACTIVATE is refused; 0 none (R464). -/
def activateReason (s : State) (k sects : Nat) : Nat :=
  let h := s.imageHead k (s.updId k)
  if s.headerOk k = false then 0x01
  else if s.svnLower k then 0x04
  else if s.zeroised then 0x05
  else if k ≤ 4 ∧ s.banksOk = false then 0x06
  else if s.supplyPoor then 0x0A
  else if s.otherTrial k then 0x0C
  else if k = 1 then
    if s.fd (Reg.updKRun 1) 0 32 < leAt h 26 4 ∨ (leAt h 22 2 ≠ s.cfgFmt ∧ leAt h 24 2 ≠ 0 ∧ leAt h 24 2 ≠ s.cfgFmt) then 0x08
    else if s.partState 0 ≠ 0 ∨ s.partState 1 ≠ 0 ∨ (List.range 32).any (fun t => s.takeover t) then 0x0B
    else 0
  else if k = 2 then (if (List.range 32).all fun t => s.stallFree t || decide (s.mode t = 8) then 0 else 0x07)
  else if k = 3 then
    if s.bit Reg.metSealStat 0 = false then 0x09
    else if (List.range 32).all fun t => decide (64 ≤ s.stallMp t) || s.stallFree t then 0 else 0x07
  else if k = 5 then
    if leAt h 22 2 ≠ s.cfgFmt then 0x08
    else if maskBit sects 1 && (!s.bit Reg.metSealStat 0 ||
        ((s.sectionDiff 1).any fun x => metMalformed x.1 x.2 || (s.sealedStalls x.1).any fun t => !s.stallFree t)
          || !(each (s.sectionDiff 1) (fun x t => t.wr x.1 x.2) s).metAllOk) then 0x09
    else 0
  else 0

/-- A master's role may ACTIVATE (R467, R472). -/
def activateRole (s : State) (m : Master) (k sects : Nat) : Bool :=
  match k with
  | 1 | 4 => decide (s.role m = 3)
  | 2 => decide (s.role m = 5)
  | 3 => decide (s.role m = 4)
  | 5 => (List.range 3).all fun i => !maskBit sects i || decide (s.role m ∈ sectionRoles i)
  | _ => decide (s.role m = 2)

/-- The image of the kind is READY; a CONFIG image in TRIAL takes further sections. -/
def activatable (s : State) (k : Nat) : Bool := decide (s.updState k = 3) || decide (k = 5 ∧ s.updState k = 5)

/-- The reason that a refused command of UPD records; 0 none. -/
def updReason (code arg : Nat) (m : Master) (s : State) : Nat :=
  let k := field arg 0 4
  if code = 1 ∧ 1 ≤ k ∧ k ≤ 6 ∧ s.role m ∈ offerRoles k then s.offerReason k (field arg 4 10)
  else if code = 4 ∧ 1 ≤ k ∧ k ≤ 6 ∧ s.activateRole m k (field arg 4 3) ∧ s.activatable k then s.activateReason k (field arg 4 3)
  else 0

/-- The answer to a command of UPD (R461, R462, R464, R467, R472, R474). -/
def updAnswer (code arg : Nat) (m : Master) (s : State) : Nat :=
  let k := field arg 0 4
  let src := if m = .mgmt then 1 else 2
  if code = 0 ∨ 6 < code ∨ k = 0 ∨ 6 < k then 0x16
  else match code with
    | 1 =>
      let n := field arg 4 10
      if s.role m ∉ offerRoles k then 0x12
      else if n = 0 then 0x16
      else if s.offerReason k n ≠ 0 then 0x15
      else if s.offerBusy src k n (s.fdB m Reg.updParam 0 32) then 0x14
      else 0x01
    | 2 =>
      if s.role m ∉ offerRoles k then 0x12
      else if m = .mgmt ∨ s.updState k ≠ 1 ∨ s.updSource k ≠ 2 then 0x15
      else if s.updBales k ≤ field arg 4 9 then 0x16
      else if 8 ≤ (s.fetches.filter fun f => decide (f.1 = k)).length then 0x14
      else 0x01
    | 3 =>
      let st := s.updState k
      if s.role m ∉ offerRoles k then 0x12 else if st = 0 ∨ (4 ≤ st ∧ st ≤ 6) then 0x15 else 0x01
    | 4 =>
      let sects := field arg 4 3
      if k = 5 ∧ sects = 0 then 0x16
      else if s.activateRole m k sects = false then 0x12
      else if s.activatable k = false ∨ s.activateReason k sects ≠ 0 then 0x15
      else 0x01
    | 5 =>
      if s.role m ∉ confirmRoles k then 0x12
      else if s.updState k ≠ 5 ∨ (k = 5 ∧ s.sectionsDone = false) then 0x15 else 0x01
    | _ =>
      if s.role m ∉ confirmRoles k then 0x12
      else if s.updState k = 4 ∨ s.updState k = 5 then 0x01 else 0x15

/-- The effect of an accepted command of UPD; `ok` is the verdict on a calendar's own signature (R390, R465). -/
def updEffect (code arg : Nat) (m : Master) (ok : Bool) (s : State) : State :=
  let k := field arg 0 4
  match code with
  | 1 => offerTake (if m = .mgmt then 1 else 2) k (field arg 4 10) (s.fdB m Reg.updParam 0 32) 0 s
  | 2 => { s with fetches := s.fetches ++ [(k, field arg 4 9, s.fetchAddr m)] }
  | 3 => offerEnd k 0 4 s
  | 4 =>
    if k = 5 then configApply (field arg 4 3) m s
    else
      let s1 := setOffer k 4 0 4 (s.inc (Reg.updKCnt k) 0 16 1)
      if k = 6 then
        let data := ((s1.baleOf 6 (s1.updId 6) 0).map (·.data)).getD []
        let ver := s1.rd (Reg.updKOfferVer 6)
        let r := s1.calVerdict (slice (baleBytes data) 128 6656) ok
        let s2 := calLoad (slice (baleBytes data) 128 6656) ok s1
        if r = 0 then offerEnd 6 0 4 ((s2.hw (Reg.updKRun 6) ver).hwf (Reg.updKRunId 6) 0 32 (s2.updId 6))
        else updFail 6 (if r = 1 then 0x03 else 0x0E) s2
      else updNext (updLoad k s1)
  | 5 => confirm k s
  | _ => updNext (fallback k 0x0E s)

/-- ACTIVATION_COMPLETE (R463, R465, R469). -/
def activationComplete (k : Nat) (r : LoadResult) (s : State) : State :=
  if s.updIdle ∨ s.updState k ≠ 4 then s
  else match r with
    | .ok =>
      if k = 1 ∧ (s.v .updStep ≠ 0 ∨ s.partState 0 ≠ 0 ∨ s.partState 1 ≠ 0) then s
      else trialStart k (if s.bit (Reg.updKCfg k) 0 then relayStart k s else s)
    | .badSignature => updNext (fallback k 0x03 s)
    | .failed => updNext (fallback k 0x0E s)

/-- TRIAL_EXPIRY (R462, R467). -/
def trialExpiry (k : Nat) (s : State) : State :=
  let e := s.v .updTrialEnd k
  if s.updIdle ∨ s.updState k ≠ 5 ∨ s.bit (Reg.updKCfg k) 1 = false ∨ e = 0 ∨ (s.counter : Int) < e - 1
      ∨ (k = 5 ∧ s.sectionsDone = false) then s
  else confirm k s

/-- TRIAL_FAILURE (R469): a CONFIG or CALENDAR image has none. -/
def trialFailure (k : Nat) (s : State) : State :=
  if s.updIdle ∨ 5 ≤ k ∨ (s.updState k ≠ 4 ∧ s.updState k ≠ 5) then s else updNext (fallback k 0x0E s)

/-- A partition fails; during ACTIVATING or TRIAL of a RESIDENT image that is a trial failure (R245, R469), and the restart that it makes
is already that of the fallback (R513). -/
def partTrial (p cause : Nat) (s : State) : State :=
  let a := Reg.fltPart
  let t := partFailure p cause s
  if t.fd a (16 + 16 * p) 16 = s.fd a (16 + 16 * p) 16 then t
  else
    let u := trialFailure 1 t
    if u.updState 1 = t.updState 1 then u else u.setV .updStep 0 (setField (u.n .updStep) p 1 0 : Nat)

/-- A safety channel is lost, or the two disagree; in SAFETY's ACTIVATING or TRIAL that is a trial failure (R285, R469). -/
def chanTrial (f : State → State) (s : State) : State :=
  let t := f s
  if t.fd Reg.safState 1 3 = s.fd Reg.safState 1 3 then t else trialFailure 2 t

/-- A lockstep error of the metrology core; in METROLOGY's ACTIVATING or TRIAL that is a trial failure (R147, R469). -/
def coreTrial (s : State) : State := if s.bit Reg.metCoreStat 0 then trialFailure 3 (coreLockstep s) else coreLockstep s

/-- MIRRORING_COMPLETE (R456, R462). -/
def mirroringComplete (k : Nat) (s : State) : State :=
  if s.updIdle ∨ s.updState k ≠ 6 then s else setOffer k 0 0 4 (s.hwb (Reg.updKRunId k) 33 true)

/-- NOR_FAULT (R464, R470). -/
def norFault (chip : Nat) (s : State) : State :=
  if s.updIdle then s
  else
    let s1 := fault 0x1001 chip 0 0 true ((s.hwb Reg.updStat chip false).evt 0x1000 16)
    updNext (eachBelow 4 (fun i t =>
      let k := i + 1
      let inForce := decide (t.fd (Reg.updKRunId k) 32 1 = chip)
      if t.updState k = 5 then (if inForce then confirm k t else fallback k 0x0E t)
      else if t.updState k = 4 ∧ !inForce then fallback k 0x0E t
      else if t.updState k = 6 then setOffer k 0 0 4 t
      else t) s1)

/-! The relay chain, receiving (R471). -/

/-- The upstream devices list a serial number. -/
def relayListed (s : State) (src : Nat) : Bool :=
  decide (src ≠ 0) && (decide (s.rd (Reg.updRelayUp 0) = src) || decide (s.rd (Reg.updRelayUp 1) = src))

/-- Downstream device of a serial number. -/
def relayDown (s : State) (src : Nat) : Option Nat :=
  (List.range 4).find? fun d => decide (src ≠ 0 ∧ s.rd (Reg.updRelayDn d) = src)

/-- The bales that a NEED shows missing are sent in pieces. -/
def relayPieces (k dst map : Nat) (s : State) : State :=
  let id := s.n .relayImage k
  each (s.bales.filter fun (b : Stored) => decide (b.kind = k ∧ b.image = id) && !maskBit map b.index) (fun b t =>
    let data := baleBytes b.data
    eachBelow 64 (fun i u => relaySend dst 2 k id b.index i (toLE 4 (crc32c data) ++ slice data (1024 * i) 1024) u) t) s

/-- A relay message is received and handled (R471). -/
def relayMessage (port : Nat) (b : List Byte) (s : State) : State :=
  let n := b.length
  let k := leAt b 1 1
  let src := leAt b 2 6
  let id := leAt b 8 4
  let body := (b.drop 16).take (n - 20)
  if s.updIdle ∨ n < 20 ∨ leAt b (n - 4) 4 ≠ crc32c (b.take (n - 4)) ∨ s.bit Reg.updRelayCfg (2 + port) = false ∨ k = 0 ∨ 6 < k then s
  else match leAt b 0 1 with
    | 1 =>
      if s.bit Reg.updRelayCfg 0 = false then s
      else
        let s1 := s.evt 0x1000 17
        let bales := leAt body 20 2
        let r := if s.relayListed src then s.offerReason k bales else 0x0F
        if r ≠ 0 then updRefuse k r s1
        else if bales = 0 ∨ s.offerBusy 3 k bales id then s1
        else relayNeed k (offerTake 3 k bales id src s1)
    | 2 =>
      if s.bit Reg.updRelayCfg 0 ∧ s.updState k = 1 ∧ s.updSource k = 3 ∧ s.n .updSrc k = src ∧ s.updId k = id ∧ body.length = 1028 then
        pieceTake k (leAt b 12 2) (leAt body 0 4) (leAt b 14 1) (body.drop 4) s
      else s
    | 3 =>
      match s.relayDown src with
      | none => s
      | some d =>
        if s.bit Reg.updRelayCfg 1 ∧ s.n .relayImage k = id ∧ id ≠ 0 then
          relayPieces k src (leAt body 0 64) (s.setV .relayAt (4 * k + d) (s.counter + 1))
        else s
    | 4 =>
      match s.relayDown src with
      | none => s
      | some d => if s.n .relayImage k = id then relayShow (s.setV .relayAt (4 * k + d) 0) else s
    | _ => s

/-- RELAY_OFFER_REPEAT (R471): 600 s without NEED. -/
def relayRepeat (k d : Nat) (s : State) : State :=
  let t := s.v .relayAt (4 * k + d)
  if s.updIdle ∨ t = 0 ∨ (s.counter : Int) < t - 1 + 600000000000 then s else relayOffer k d s

/-! Time and resets. -/

/-- Engines load the PERIPHERAL image once their stall is outside the session modes (R465). -/
def updEngines (s : State) : State :=
  s.setV .updEng 0 (((List.range 32).filter fun t => maskBit (s.n .updEng) t && s.inSession t).map fun t => 2 ^ t).sum

/-- UPD_K_TRIAL at each whole second (R475). -/
def updRefresh (s : State) : State :=
  eachBelow 6 (fun i t =>
    let e := t.v .updTrialEnd (i + 1)
    if e = 0 then t else t.hwf (Reg.updKTrial (i + 1)) 0 24 ((e - 1 - t.counter + 999999999).toNat / 1000000000)) s

/-- UPD at a power-on (R470); `c` is the counter before it, `safety` the kind-2 activation that caused it. -/
def updPowerOn (c : Nat) (safety : Bool) (s : State) : State :=
  let s0 : State := { (s.setV .updStep 0 0).setV .updAfter 0 0 with fetches := [], pieces := [] }
  let s1 := eachBelow 28 (fun i t =>
    if t.v .relayAt i = 0 then t else t.setV .relayAt i (max 1 (t.v .relayAt i - c))) s0
  updRefresh (eachBelow 6 (fun i t =>
    let k := i + 1
    let e := t.v .updTrialEnd k
    let t1 := if e = 0 then t.hwf (Reg.updKTrial k) 0 24 0xFFFFFF else t.setV .updTrialEnd k (max 1 (e - c))
    if t1.updState k = 4 ∧ !(safety && decide (k = 2)) then setOffer k 3 0x0E 4 t1 else t1) s1)

end State
end Sys2Proof.Machine
end

