-- ==== Sys2Proof/Machine/Pwr.lean ====
section
/-! DEFINITION. Supplies, clocks, resets and block restarts (22_supplies_clocks_reset.md R521 to R536). -/
namespace Sys2Proof.Machine

/-- Hidden counters that the MRAM, the VBAT domain, the tag or the outside hold through a power-on. -/
def keptVar (x : Var) : Bool :=
  decide (x ∈ [.free, .savedRate, .rtcNs, .genStored, .resUsed, .drained, .suppressedN, .supprFirst, .supprLast, .saveNum, .bt,
    .glnEnd, .glnOut, .glnWait, .glnBound, .keyLen, .keyMat, .keyDormant, .keyUse, .rewrapSvn, .updExp, .updTrialEnd, .updSrc, .updSect, .updEng,
    .cfgFormat, .relayImage, .relayAt, .relayN, .causeSeq, .fb, .tinFilt, .snapNum, .refclkLost, .fieldUid, .fieldChal,
    .proofBase, .resetNLow, .rtcDead, .offCause, .chal])

/-- Faults that the start-up after an outage finds: KEY_ZEROISED, KEY_SLOT_LOST and UPDATE_FALLBACK, which what MRAM holds brings, and
those of outputs, whose latches it clears and records (R276). -/
def keptFault (code : Nat) : Bool := decide (code ∈ [0x0E01, 0x0E02, 0x1002, 0x0801, 0x0803])

namespace State

/-! Supplies. -/

/-- VIN as it is reported (R521, R535): mean, highest and lowest, and the flags; VIN_LOW enters and exits with its fault. -/
def vinMeasured (mv : Nat) (s : State) : State :=
  if s.v .gleaning = 1 ∨ s.v .powerOff = 1 then s
  else
    let a := Reg.pwrVin
    let v := saturate 16 mv
    let lo := s.fd a 32 16
    let s1 := ((s.hwf a 0 16 v).hwf a 16 16 (max (s.fd a 16 16) v)).hwf a 32 16 (if lo = 0 then v else min lo v)
    let low := decide (mv < 11400)
    let was := s.bit Reg.pwrStat 0
    let s2 := (s1.hwb Reg.pwrStat 0 low).hwb Reg.pwrStat 1 (decide (13200 < mv))
    let s3 := if low && !was then s2.evt 0x100 17 else s2
    fault 0x0103 0xFFFF 0 0 low s3

/-- VBAT_LOW (R422, R535): with VIN absent the flag waits in the VBAT domain for the next power-on. -/
def vbatMeasured (mv : Nat) (s : State) : State :=
  let low := decide (mv < 2200)
  if s.v .powerOff = 1 then s.hwb Reg.keyState 3 low
  else
    let a := Reg.pwrVbat
    let was := s.bit a 16
    let s1 := ((s.hwf a 0 16 (saturate 16 mv)).hwb a 16 low).hwb a 17 (decide (mv < 1800))
    if low && !was then s1.evt 0x100 19 else s1

/-- RTC_LOST (R533): latched for the next power-on. -/
def rtcLost (s : State) : State := (s.setV .rtcDead 0 1).hwb Reg.pwrClk 4 false

/-- RAIL_OUT (R523); a safety channel's rail takes the channel with it. From a commit on, no rail raises a fault. -/
def railOut (rail : Nat) (s : State) : State :=
  if 13 ≤ rail ∨ s.v .gleaning = 1 ∨ s.v .powerOff = 1 ∨ maskBit (s.n .railBad) rail then s
  else
    let s1 := commonOnce 0xB rail ((s.setV .railBad 0 (setField (s.n .railBad) rail 1 1 : Nat)).setV .railClear 0 0)
    let s2 := if rail = 4 then channelLoss 0 false s1 else if rail = 5 then channelLoss 1 false s1 else s1
    let s3 := ((s2.hwb Reg.pwrRail rail true).hwb Reg.pwrRail (16 + rail) true).hwb Reg.pwrStat 2 true
    fault 0x0102 rail 2 0 true (s3.evt 0x100 16)

/-- RAIL_RECOVERED (R523, R304). -/
def railRecovered (rail : Nat) (s : State) : State :=
  if 13 ≤ rail ∨ maskBit (s.n .railBad) rail = false then s
  else
    let bad := setField (s.n .railBad) rail 1 0
    let s1 := ((s.setV .railBad 0 (bad : Nat)).hwb Reg.pwrRail rail false).hwb Reg.pwrStat 2 (decide (bad ≠ 0))
    fault 0x0102 rail 2 0 false (if bad = 0 then s1.setV .railClear 0 (s1.counter + 1) else s1)

/-- BROWN_OUT (R523): handled as the commit of a supply loss. -/
def brownOut (rail : Nat) (s : State) : State := if 13 ≤ rail then s else supplyCommit 2 (s.fd Reg.pwrVin 0 16) rail s

/-! The reference clock. -/

/-- REFCLK_LOST (R525, R96, R121): holdover of the PLLs, an INVALID clock, every sample a gap, the common safe state. -/
def refclkLoss (s : State) : State :=
  if s.v .refclkLost = 1 ∨ s.v .gleaning = 1 ∨ s.v .powerOff = 1 then s
  else
    let s1 := commonOnce 0xA 0 ((s.setV .refclkLost 0 1).setV .refclkOk 0 0)
    let s2 := ((s1.hwb Reg.pwrStat 3 false).hwb Reg.pwrStat 4 true).hwf Reg.pwrClk 0 2 0
    let s3 := fault 0x0101 0xFFFF 2 0 true ((s2.inc Reg.pwrClk 16 16 1).evt 0x100 18)
    eachBelow 256 (fun i t => t.setV .inFrom i 0) (setClock 0 0 5 (s3.setV .validEnd 0 s3.counter))

/-- REFCLK_RETURN (R525, R304): relocked; every input restarts (R105). -/
def refclkReturn (s : State) : State :=
  if s.v .refclkLost = 0 then s
  else
    let s1 := (s.setV .refclkLost 0 0).setV .refclkOk 0 (s.counter + 1)
    if s.v .gleaning = 1 ∨ s.v .powerOff = 1 then s1
    else
      let s2 := ((s1.hwb Reg.pwrStat 3 true).hwb Reg.pwrStat 4 false).hwf Reg.pwrClk 0 2 3
      winRestart (fault 0x0101 0xFFFF 2 0 false s2)

/-! Milestones (R527, R535). -/

/-- A milestone of PWR_START is reached now. -/
def milestone (a lo : Nat) (s : State) : State :=
  if s.fd a lo 24 = 0xFFFFFF then s.hwf a lo 24 (min 0xFFFFFE ((s.counter - s.n .startAt) / 1000)) else s

/-- Once a partition serves: partitions serving, fully available. -/
def milestones (s : State) : State :=
  if s.partState 0 = 0 ∨ s.partState 1 = 0 then milestone Reg.pwrStart2 24 (milestone Reg.pwrStart2 0 s) else s

/-! Device reset (R529). -/

/-- Every page epoch starts at 1 (R37). -/
def epochsRestart (s : State) : State :=
  let other (e : Nat × Word) : Bool := decide (bankSpan ≤ e.1 ∨ e.1 % 0x1000 ≠ 0x30)
  { s with slots := s.slots.filter other, pub := s.pub.filter other }

/-- The blocks that R529 holds in reset. -/
def heldBlocks : List Nat := [0x7, 0xA]

/-- Every page of a block. -/
def blockPages (code : Nat) : List Nat := allPages.filter fun p => decide (p / 256 = code)

/-- A block's pages enter OWNER_FAULT (R31), with OWNER_FAULT_RAISED where they were not in it (R32). -/
def ownerLost (code : Nat) (s : State) : State :=
  (if s.v .ownerFault code = 0 then each (blockPages code) (fun p t => t.evt p 6) s else s).setV .ownerFault code 1

/-- Steps 1 to 3 of R529: `cause` 1 RESET_N, 2 DEVICE_RESET. Reset absorbs a block restart in progress (R531). -/
def deviceReset (cause : Nat) (s : State) : State :=
  let served := decide (s.partState 0 = 0) || decide (s.partState 1 = 0)
  let s1 := commonOnce 2 0 s
  let s2 := drainAll (submit (stateRec 1 2 0xFFFF 0 1 cause) (drainAll s1))
  let s3 := roleLost .mgmt 4 (roleLost .host 4 s2)
  let s4 := partsRestart (linkLoss 4 s3)
  let s5 := if served ∧ s4.v .noServeAt = 0 then s4.setV .noServeAt 0 (s4.counter + 1) else s4
  let s6 := eachBelow 64 (fun q t => if t.queEn q then queFlush q false t else t) (timReset (alcReset (ctlReset s5)))
  let s7 := eachBelow 32 vhsLost s6
  let s8 := each heldBlocks ownerLost s7
  let s9 := ((s8.hwf Reg.pwrReset 0 4 (2 + cause)).inc Reg.pwrReset 16 16 1).hw Reg.sysIdRestarts (s8.rd Reg.sysIdRestarts + 1)
  let s10 := ((s9.hw Reg.pwrStart0 0).hw Reg.pwrStart1 (0xFFFFFF * 2 ^ 24)).hw Reg.pwrStart2 (2 ^ 48 - 1)
  (epochsRestart s10).setV .devReset 0 cause
where
  /-- No vehicle session survives (R248). -/
  vhsLost (n : Nat) (s : State) : State := if s.link n = 0 then s else vhsClose n 0 s

/-- A device reset is in progress (R531). -/
def resetting (s : State) : Bool := decide (s.v .devReset ≠ 0)

/-- DEVICE_RESET at its committing boundary (R528): the release comes 10 µs later. -/
def resetCommand (s : State) : State := (deviceReset 2 s).setV .devAt 0 (s.counter + 10000)

/-- RESET_N_ASSERT (R528, R529, R531): a supply loss takes precedence; a reset by command in progress is joined. -/
def resetNAssert (s : State) : State :=
  if s.v .resetNLow = 1 then s
  else
    let s1 := s.setV .resetNLow 0 1
    if s.v .gleaning = 1 ∨ s.v .powerOff = 1 then s1
    else
      let s2 := s1.hwb Reg.pwrStat 5 true
      if s2.v .devReset = 2 then (s2.setV .devReset 0 1).hwf Reg.pwrReset 0 4 3 else deviceReset 1 s2

/-- HOST_LINK_UP (R53, R527): the endpoint trains, unless it is held in reset. -/
def linkUp (gen lanes : Nat) (s : State) : State :=
  if s.resetting ∨ s.v .gleaning = 1 ∨ s.v .powerOff = 1 ∨ s.bit Reg.sysMstLink 0 then s
  else
    let s1 := s.hwf Reg.sysMstLink 0 6 (1 + 2 * (gen % 8) + 16 * (lanes % 4))
    milestone Reg.pwrStart1 24 (fault 0x0001 0xFFFF 0 0 false s1)

/-! Block restarts (R528, R530, R536). -/

/-- What a block's restart does at once: R95, R121, R188, R190, R276, R335, R362, R428, R451, R483, R502, R220. -/
def restartActs (code : Nat) (s : State) : State :=
  match code with
  | 0x2 => timReset s
  | 0x3 => netRestart s
  | 0x4 =>
    let s1 := balBreak (pqCloseAll s)
    let s2 := (s1.hwb Reg.safState 5 true).setV .fastDownAt 0 s1.counter
    eachBelow 256 (fun i t => t.setV .inFrom i 0) s2
  | 0x5 => pqCloseAll s
  | 0x6 => eachBelow 32 (fun t u => u.setV .pilotAt t u.counter) s
  | 0xA => mlkRestart s
  | 0xB => eachBelow 64 (fun q t => if t.queEn q then queFlush q false t else t) s
  | 0xE => keyRestart s
  | 0xF => ctlRestart s
  | _ => s

/-- A block restarts (R31, R528, R536): its record first, then OWNER_FAULT on its pages. `cause` 1 its own fault handling, 2
BLOCK_RESTART. -/
def blockRestart (code cause : Nat) (s : State) : State :=
  let s1 := (submit (stateRec 1 3 code 0 1 cause) s).evt 0x100 20
  ownerLost code (restartActs code s1)

/-- Blocks that restart: not SYS, PWR and SAF (R286, R536). -/
def restartable (code : Nat) : Bool := decide (code ≤ 0x11) && decide (code ∉ [0x0, 0x1, 0x9])

/-- BLOCK_SELF_RESTART (R528). -/
def selfRestart (code : Nat) (s : State) : State :=
  if restartable code && decide (s.v .ownerFault code = 0) && !s.resetting && decide (s.v .gleaning = 0 ∧ s.v .powerOff = 0) then
    blockRestart code 1 s
  else s

/-- GRANARY_MISMATCH (R362): protective action, then the restart of JNL. -/
def granaryMismatchActs (s : State) : State := selfRestart 0xC (granaryMismatch s)

/-- RESTART_COMPLETE (R31): the block is back; its pages publish at the next boundary. -/
def restartComplete (code : Nat) (s : State) : State :=
  if s.v .ownerFault code ≠ 1 ∨ (s.resetting ∧ code ∈ heldBlocks) then s
  else
    let s1 := s.setV .ownerFault code 2
    match code with
    | 0x4 => winRestart (((balBreak s1).hwb Reg.safState 5 false).setV .fastFrom 0 s1.counter)
    | 0xC => jnlBack s1
    | _ => s1

/-- Step 4 of R529: the held blocks restart; the channels' agreement counts from here (R313), and a lost channel that passes its
self-test is back (R285). A block restart in progress ends with it (R531). -/
def resetRelease (s : State) : State :=
  let s1 := ((s.setV .devReset 0 0).setV .agreeFrom 0 s.counter).setV .startAt 0 s.counter
  let s2 := eachBelow 18 restartComplete (mlkRestart s1)
  let s3 := ((s2.hwf Reg.safState 1 2 3).hwf Reg.safChStat 0 3 7).hwf Reg.safChStat 8 3 7
  fault 0x0903 1 2 0 false (fault 0x0903 0 2 0 false s3)

/-- The release of a DEVICE_RESET once its 10 µs have run. -/
def resetDue (s : State) : State := if s.v .devReset = 2 ∧ s.v .devAt ≤ s.counter then resetRelease s else s

/-- RESET_N_RELEASE (R529). -/
def resetNRelease (s : State) : State :=
  let s1 := s.setV .resetNLow 0 0
  if s.v .gleaning = 1 ∨ s.v .powerOff = 1 then s1
  else
    let s2 := s1.hwb Reg.pwrStat 5 false
    if s2.v .devReset = 1 then resetRelease s2 else s2

/-- The answer to a command of PWR (R531, R536). -/
def pwrAnswer (code arg : Nat) (m : Master) (s : State) : Nat :=
  let b := field arg 0 8
  if code ≠ 1 then 0x16
  else if s.role m ≠ 3 then 0x12
  else if s.resetting then 0x14
  else if 0x11 < b then 0x16
  else if !restartable b ∨ s.v .ownerFault b = 1 then 0x15
  else if b = 4 ∧ (List.range 32).any (fun t => decide (s.stallMp t < 64) && !decide (s.mode t = 0 ∨ s.mode t = 1 ∨ s.mode t = 9)) then
    0x15
  else 0x01

/-- The answer to a command of SYS (R62, R512, R531). -/
def sysAnswer (code arg : Nat) (s : State) : Nat :=
  if code ≠ 1 ∧ code ≠ 2 then 0x16
  else if s.resetting then 0x14
  else if code = 1 then 0x01
  else if s.partResetRefused (field arg 0 1) ∨ s.updState 1 = 4 then 0x15
  else 0x01

/-- The effect of a command of SYS: a device reset waits for the end of its boundary. -/
def sysEffect (code arg : Nat) (s : State) : State :=
  if code = 1 then s.setV .resetWant 0 1 else partFail (field arg 0 1) 3 s

/-! Power-on (R526, R527, R530). -/

/-- What is left of the state when every supply has been away: what MRAM, the VBAT domain and the tag hold. -/
def powerLoss (s : State) : State :=
  { State.reset with
    pending := s.pending
    slots := s.slots.filter fun (e : Nat × Word) => keptSlot e.1
    vars := s.vars.filter fun (e : (Var × Nat) × Int) => keptVar e.1.1
    records := s.records
    waiting := s.waiting
    tokH := s.tokH
    tokM := s.tokM
    safeSet := s.safeSet
    roCfg := s.roCfg
    active := s.active.filter fun (f : ActiveFault) => keptFault f.code
    log := s.log
    sessions := s.sessions
    mps := s.mps
    copies := s.copies
    calAct := s.calAct
    calPend := s.calPend
    dems := s.dems
    demEnds := s.demEnds
    rdgs := s.rdgs
    bilWait := s.bilWait
    bilStore := s.bilStore
    fmem := s.fmem
    bales := s.bales
    cfgOld := s.cfgOld
    cfgDefer := s.cfgDefer }

/-- The accumulators and counters that stand on the pages at once (R147, R154, R193). -/
def accShow (s : State) : State :=
  let s1 := match s.newestCopy with
    | some c => pqRestore c s
    | none => s
  each s.mps (fun x t => pubAcc x.1 x.2 t) s1

/-- PWR page 0 at a power-on: `kind` of R535, `dorm` the dormancy. -/
def pwrStart (kind dorm : Nat) (rtc : Bool) (s : State) : State :=
  let r := Reg.pwrReset
  let s1 := ((s.hwf r 0 4 kind).hwf r 16 16 0).inc r 32 16 (if kind = 1 then 1 else 0)
  let ref := decide (s.v .refclkLost = 0)
  let s2 := s1.hw Reg.pwrStat (8 * ref.toNat + 16 * (!ref).toNat + 32 * s.n .resetNLow + 64 * (!rtc).toNat)
  let s3 := s2.hw Reg.pwrClk (3 * ref.toNat + 12 + 16 * rtc.toNat)
  let s4 := ((s3.hw Reg.pwrStart0 (s3.draw 24 % 251 + (Config.free (s3.n .free + 1) % 5001) * 2 ^ 24)).drawn 2)
  let s5 := (s4.hw Reg.pwrStart1 (s4.draw 24 % 20001 + 0xFFFFFF * 2 ^ 24)).drawn
  let low := s5.bit Reg.keyState 3
  let s6 := ((s5.hw Reg.pwrStart2 (2 ^ 48 - 1)).hw Reg.pwrDormant dorm).hwb Reg.pwrVbat 16 low
  if low then s6.evt 0x100 19 else s6

/-- Records staged before the outage come first, but for a short hold-up; those of the recovery carry the new counter and time (R363). -/
def restaged (short : Bool) (old : List Waiting) (s : State) : State :=
  { s with waiting := (if short then [] else old) ++ s.waiting.map fun (w : Waiting) => ⟨w.sub, s.stampOf s.counter w.sub⟩ }

/-- The power-on sequence (R312, R526, R527, R530), `rtc` the real-time clock; `kind` as PWR_RESET names it. -/
def powerUp (kind : Nat) (rtc0 : Option Nat) (lost : List Nat) (s : State) : State :=
  let rtc := if s.v .rtcDead = 1 then none else rtc0
  let short := decide (s.v .glnEnd = 2)
  let had := s.newestCopy.isSome
  let was := s.counter
  let w : State := { s with waiting := [] }
  let g := sealClose 2 (bilRecover (gleanRecover rtc (w.hwb Reg.jnlStat 5 true)))
  let dorm := match rtc with
    | none => 2 ^ 48 - 1
    | some t => if had then g.rd Reg.glnOutage else ((t - s.n .rtcNs) / 10 ^ 9) % 2 ^ 48
  let p0 := powerLoss g
  let p1 := eachBelow 32 (fun t u => u.setV .proofBase t (u.v .proofBase t - was)) (p0.setV .rtcDead 0 0)
  let p2 := restaged short s.waiting (timPowerOn rtc (p1.hw Reg.sysIdRestarts (p1.rd Reg.sysIdRestarts + 1)))
  let p3 := drvPowerOn (safPowerOn (pwrStart kind dorm rtc.isSome (p2.setV .logFloor 0 (p2.rd Reg.fltLogHead))))
  let p4 := bilPowerOn had (accShow (pubStart (winRestart p3)))
  let p5 := keyPowerOn lost (jnlRecover short (if short then 0 else s.waiting.length) p4)
  let p6 := ctlPowerOn (mlkPowerOn (netPowerOn (quePowerOn (alcReset (stlPowerOn (p5.hw Reg.alcLimit (p5.cfgValue Reg.alcLimit)))))))
  let p7 := updPowerOn was (decide (kind = 2)) (partsRestart p6)
  let p8 := if p7.v .refclkLost = 1 then fault 0x0101 0xFFFF 2 0 true (commonOnce 0xA 0 p7) else p7
  let p9 := fltShow p8
  let p10 := if p9.v .resetNLow = 1 then each heldBlocks ownerLost (p9.setV .devReset 0 1) else p9
  { p10 with dirty := [], pub := p10.slots }

/-- POWER_ON (R526): the module starts from an outage, or for the first time. -/
def powerOn (rtc : Option Nat) (lost : List Nat) (s : State) : State :=
  if s.v .powerOff = 1 then powerUp (if s.v .offCause = 2 then 1 else 0) rtc lost s
  else if s.bit Reg.jnlStat 5 then powerUp 0 rtc lost s
  else s

/-! Measured values (R535). -/

/-- The values PWR measures and no event brings are free within what the flags say (log entry 6), at each publication. -/
def pwrMeasure (s : State) : State :=
  let f (k : Nat) := Config.free (s.n .free + k)
  let vin := if s.bit Reg.pwrStat 0 then 11000 + f 0 % 400 else if s.bit Reg.pwrStat 1 then 13201 + f 0 % 52335 else 11400 + f 0 % 1801
  let bat := if s.bit Reg.pwrVbat 17 then f 1 % 1800 else if s.bit Reg.pwrVbat 16 then 1800 + f 1 % 400 else 2200 + f 1 % 63336
  let a := Reg.pwrVin
  let lo := s.fd a 32 16
  let s1 := s.wr a (vin % 65536 + max (s.fd a 16 16) vin % 65536 * 2 ^ 16 + (if lo = 0 then vin else min lo vin) % 65536 * 2 ^ 32)
  let s2 := s1.wrf Reg.pwrVbat 0 16 bat
  let t := signed 8 (f 2)
  let top := signed 8 (s.fd Reg.pwrTemp 8 8)
  let s3 := s2.wr Reg.pwrTemp (unsigned 8 t + unsigned 8 (if s.rd Reg.pwrTemp = 0 then t else max top t) * 256)
  let w := f 3 % 65536
  (s3.wr Reg.pwrPower (w + max (s.fd Reg.pwrPower 16 16) w * 65536)).drawn 4

end State
end Sys2Proof.Machine
end

