-- ==== Sys2Proof/Machine/View.lean ====
section
/-! DEFINITION. What a master reads (02_register_pages.md R24 to R36, R48 to R51, R63): the published set, the slots formed at the
read, the frozen copies, the journal window, and how a read request is answered. -/
namespace Sys2Proof.Machine

/-- What a read returns where no value is returned (R24). -/
def noValue : Nat := 0xFFFF000000000000

/-- Offsets of the slots of a kind of page, the header first. -/
def slotOffsets (c : PageClass) : List Nat :=
  (List.range 8).map (8 * ·) ++ (rowsOf c).flatMap fun r => (List.range r.count).map fun k => r.off + r.stride * k

/-- The journal read window (R352). -/
def inWindow (a : Nat) : Bool := decide (0x3000000 ≤ a ∧ a < 0x4000000)

/-- The queue data ports (R22). -/
def inPorts (a : Nat) : Bool := decide (0x2000000 ≤ a ∧ a < 0x3000000)

namespace State

/-- A published value. -/
def pubRd (s : State) (a : Nat) : Nat := (Tab.get resetVal s.pub a).toNat

/-- The read right of a master on a page (R29). -/
def mayRead (s : State) (m : Master) (page : Nat) : Bool := decide (1 ≤ rightOf page (s.role m))

/-- PAGE_STAT for a master (R30). -/
def pageStat (s : State) (m : Master) (page : Nat) : Nat :=
  let f := s.ownerFault page
  let z := (s.snap m).any fun x => decide (page ∈ x.pages)
  (!f).toNat + 2 * z.toNat + 4 * f.toNat + 256 * s.role m

/-- SYS_MST_EVT_SUM (R63): blocks with an event pending and enabled for the master. -/
def evtSum (s : State) (m : Master) : Nat :=
  ((List.range 18).map fun b =>
    if (blockPages b).any fun p => decide (Nat.land (s.pubRd (evtAddr p)) (s.pubRd (bankKey m (evtEnAddr p))) ≠ 0) then 2 ^ b else 0).sum

/-- Slot `i` of a byte string shown six bytes a slot. -/
def sixBytes (l : List Byte) (i : Nat) : Nat := leAt l (6 * i) 6

/-- Slots that are formed at the read beside the header: the masters' page, time and billing captures (R61, R63, R70, R71, R403),
the record and log windows (R404, R520), RETRY_MAX on outputs of USE 1 and 2 (R270). -/
def formed (s : State) (m : Master) (a : Nat) : Option Nat :=
  if a = Reg.sysMstEvtSum then some (s.evtSum m)
  else if a = Reg.sysAuthChalHi then some (s.challenge m / 2 ^ 48)
  else if a = Reg.sysAuthChalLo then some (s.challenge m % 2 ^ 48)
  else if a = Reg.sysAuthStat then some (s.role m + s.fdB m a 8 3 * 256 + s.secondsLeft m * 65536)
  else if a = Reg.timState then some (setField (s.pubRd a) 16 32 s.validLeft)
  else if a = Reg.bilBtSec ∨ a = Reg.bilBtNs ∨ a = Reg.bilHoldLeft then some (s.rdB m a)
  else match pageEntry (a / 0x1000) with
    | some (.bil2, _) =>
      let r := (s.bilStore.find? fun x => decide (x.1 = s.rdB m Reg.bilRecSel)).map (·.2)
      if a = Reg.bilRecStat then some r.isSome.toNat
      else if 0x100 ≤ a % 0x1000 then some (field (r.getD 0) (48 * ((a % 0x1000 - 0x100) / 8)) 48)
      else none
    | some (.flt2, _) =>
      if a = Reg.fltLogStat then some (s.logShown m).isSome.toNat
      else if 0x100 ≤ a % 0x1000 then some (sixBytes (((s.logShown m).map (·.bytes)).getD []) ((a % 0x1000 - 0x100) / 8))
      else none
    | some (.drv, b) =>
      let o := 8 * b + (a % 0x1000 - 0x100) / 0x40
      if 0x100 ≤ a % 0x1000 ∧ a % 0x40 = 0 ∧ s.useOf o ≠ 0 then some (setField (s.pubRd a) 9 3 0) else none
    | _ => none

/-- Banked slots formed at the read, beside those `formed` names: the time and billing captures (R70, R403). -/
def atRead (a : Nat) : Bool := decide (0x200040 ≤ a ∧ a ≤ 0x200058)

/-- The value of a mapped slot as a master reads it live: of the published set (R33, R35), but for PAGE_STAT, PAGE_SNAP (R30, R51) and
what is formed at the read. -/
def liveSlot (s : State) (m : Master) (a : Nat) : Nat :=
  let page := a / 0x1000
  let o := a % 0x1000
  if o = 0x00 then pageIdVal page
  else if o = 0x08 then pageCapVal page
  else if o = 0x10 then s.pageStat m page
  else if o = 0x38 then s.rdB m a
  else if o = 0x20 then s.pubRd (bankKey m a)
  else if o = 0x28 then 0
  else if o = 0x30 then s.pubRd a
  else match s.formed m a with
    | some v => v
    | none => match accessOf a with
      | some (.banked _) => if 0x3200 ≤ a ∧ a < 0x3400 then 0 else s.pubRd (bankKey m a)
      | some .bro | some (.param _) | some .view | some .token | some .cstat | some .cseq =>
        if atRead a then s.rdB m a else s.pubRd (bankKey m a)
      | _ => s.pubRd a

/-- The value of a slot for a master, frozen where its snapshot holds the page (R48): all but PAGE_SNAP and PAGE_STAT. -/
def slotFor (s : State) (m : Master) (a : Nat) : Nat :=
  match s.snap m with
  | some x =>
    if a / 0x1000 ∈ x.pages ∧ a % 0x1000 ≠ 0x10 ∧ a % 0x1000 ≠ 0x38 then (Tab.get resetVal x.copy a).toNat else s.liveSlot m a
  | none => s.liveSlot m a

/-- One slot as it is returned: the tag is the low 16 bits of the set's epoch (R26, R48), of the epoch at the capture for the time
capture (R70). -/
def readSlot (s : State) (m : Master) (a : Nat) : Nat :=
  let page := a / 0x1000
  if mapped a = false ∨ (s.mayRead m page = false ∧ openHeader (a % 0x1000) = false) then noValue
  else
    let frozen := (s.snap m).any fun x => decide (page ∈ x.pages)
    let tag := if 0x200040 ≤ a ∧ a ≤ 0x200058 ∧ frozen = false then s.n .capTag m.ix else s.slotFor m (epochAddr page)
    s.slotFor m a + tag % 2 ^ 16 * 2 ^ 48

/-- A doubleword of the MSI-X structures (R24, R53). -/
def msixWord (s : State) (a : Nat) : Nat := if isMsixTable a || isMsixPba a then s.rd a % 2 ^ 32 else 0

/-- 64-bit units a master reads from an address (R24, R25, R352). -/
def readUnits (s : State) (m : Master) (a count : Nat) : List Nat :=
  if inWindow a then
    if s.mayRead m 0xC00 then
      let bs := s.journalBytes m (a - 0x3000000) (8 * count)
      (List.range count).map fun k => leAt bs (8 * k) 8
    else List.replicate count noValue
  else if m = .host ∧ (isMsixTable a ∨ isMsixPba a) then
    (List.range count).map fun k => s.msixWord (a + 8 * k) + s.msixWord (a + 8 * k + 4) * 2 ^ 32
  else (List.range count).map fun k => s.readSlot m (a + 8 * k)

/-- A request of `len` bytes at `a` has the form R25, R55 and R352 allow: at most 64 bytes (256 from the host's window), within one
page; whole slots on the management port. -/
def readForm (m : Master) (a len : Nat) : Bool :=
  decide (1 ≤ len) && decide (a + len ≤ 2 ^ 26) && (decide (m = .host) || (decide (a % 8 = 0) && decide (len % 8 = 0))) &&
    (if inWindow a ∧ m = .host then decide (a % 8 = 0) && decide (8 ≤ len) && decide (len ≤ 256)
     else decide (len ≤ 64) && decide (a / 0x1000 = (a + len - 1) / 0x1000))

/-- The bytes of a request from the 64-bit units that cover it, in 64-bit units again: of an aligned request the units, of a narrower
one the addressed bytes of an atomic 8-byte read (R25; log entry 49 for other unaligned ones). -/
def readBytes (s : State) (m : Master) (a len : Nat) : List Nat :=
  let us := s.readUnits m (a / 8 * 8) ((a % 8 + len + 7) / 8)
  if a % 8 = 0 ∧ len % 8 = 0 then us
  else
    let bs := slice (us.flatMap fun u => toLE 8 u) (a % 8) len
    (List.range ((len + 7) / 8)).map fun k => leAt bs (8 * k) 8

/-- A request covers an address. -/
def covers (a len x : Nat) : Bool := decide (a ≤ x + 7 ∧ x < a + len)

/-- A read at counter + dt: a request that covers TIM_NOW_SEC or BIL_BT_SEC takes its capture (R70, R403). -/
def readCaptured (m : Master) (a len dt : Nat) (s : State) : State :=
  let s1 := if covers a len Reg.timNowSec then nowCapture m dt s else s
  if covers a len Reg.bilBtSec then btCapture m dt s1 else s1

/-- The answer of a read: 64-bit units to the host, behind `before`, a checked frame to the management port with bit 63 first (R26,
R55). -/
def reply (m : Master) (before us : List Nat) (s : State) : State :=
  match m with
  | .host => { s with hostReply := before ++ us }
  | .mgmt =>
    let b := toLE 1 0 ++ us.flatMap fun u => toBE 8 u
    { s with mgmtReply := b ++ toBE 2 (crc16 b) }

/-- A request of another form: an Unsupported Request on the host link, LINK_FORMAT on the management port (R25). -/
def badForm (m : Master) (s : State) : State :=
  match m with
  | .host => { s with hostReply := [] }
  | .mgmt => mgmtStatus 0x1B (countOnly .mgmt 0x1B s)

/-- The master has a write under way to this page in the cycle (R36). -/
def wrote (s : State) (m : Master) (page : Nat) : Bool := s.cycle.any fun w => decide (w.m = m ∧ w.addr / 0x1000 = page)

/-- Window of a data port: 0 PUSH, 1 PUSH_END, 2 POP, 3 reserved (R323). -/
def portWindow (a : Nat) : Nat := a / 0x10000 % 4

/-- Queue of a data port (R323). -/
def portQueue (a : Nat) : Nat := (a - 0x2000000) / 0x40000

/-- A host read of a data port (R323, R328): POP takes words, 16-byte aligned and 16 to 256 bytes; the other windows read 0. -/
def portRead (a len : Nat) (s : State) : State :=
  if portWindow a ≠ 2 then { s with hostReply := List.replicate ((len + 7) / 8) 0 }
  else if a % 16 = 0 ∧ len % 16 = 0 ∧ 16 ≤ len ∧ len ≤ 256 then quePop (portQueue a) (len / 16) s
  else badForm .host s

/-- A read request of `len` bytes at counter + dt: at once, or once the cycle's boundary has committed (R35, R36). The queue ports are
unmapped for the management port (R320). -/
def readRequest (m : Master) (a len dt : Nat) (s : State) : State :=
  if m = .host ∧ inPorts a then portRead a len s
  else if readForm m a len = false then badForm m s
  else if m = .mgmt ∧ inPorts a then mgmtStatus 0x18 (countOnly .mgmt 0x18 s)
  else if s.wrote m (a / 0x1000) ∧ inWindow a = false then { s with reads := s.reads ++ [⟨m, a, len⟩] }
  else
    let t := readCaptured m a len dt s
    reply m [] (t.readBytes m a len) t

/-- The frozen copy of a page for a master (R48). -/
def freezePage (m : Master) (page : Nat) (copy : List (Nat × Word)) (s : State) : List (Nat × Word) :=
  match pageEntry page with
  | none => copy
  | some (c, _) => (slotOffsets c).foldl (fun t o =>
      let a := page * 0x1000 + o
      Tab.put natLt resetVal t a (BitVec.ofNat 48 (s.liveSlot m a))) copy

/-- Pages a master has marked (R51). -/
def marked (s : State) (m : Master) : List Nat := allPages.filter fun p => maskBit (s.rdB m (snapAddr p)) 0

/-- A TAKE is refused (R50). -/
def takeRefused (s : State) (m : Master) : Bool :=
  decide (256 < (s.marked m).length) || (s.marked m).any fun p => match pageEntry p with
    | some (c, _) => !snappable c
    | none => true

/-- An accepted TAKE at its boundary, after the boundary's commits and publications (R48, R52). The capture slots of time and billing
time freeze with a capture of that boundary (R70, R403). -/
def snapTake (m : Master) (s : State) : State :=
  let s0 := snapRelease m false s
  let ps := s0.marked m
  let n := s0.n .snapNum + 1
  let t := s0.now
  let s1 := (s0.setV .snapNum 0 n).setV .snapAt m.ix s0.counter
  let s2 := each ps (fun p u => u.wrB m (snapAddr p) (3 + n % 2 ^ 32 * 65536)) s1
  let s3 := (s2.wrB m Reg.sysSnapStat (1 + ps.length * 65536)).wrB m Reg.sysSnapNum n
  let s4 := (s3.wrB m Reg.sysSnapTSec (secsOf t)).wrB m Reg.sysSnapTNs (nsOf t * 2 ^ 16 + fracOf t)
  let s5 := btCapture m 0 (nowCapture m 0 s4)
  s4.setSnap m (some ⟨ps, ps.foldl (fun c p => freezePage m p c s5) []⟩)

end State
end Sys2Proof.Machine
end

