-- ==== Sys2Proof/Machine/Settle.lean ====
section
/-! DEFINITION. The command cycle (02_register_pages.md R33, R34, R38 to R47; 13_granary_journal.md R343, R348, R356): the checks of every
write, arbitration, the owners' answers and effects in the order of R201, the records, the outcomes and the publication. -/
namespace Sys2Proof.Machine

/-- A write that has passed its checks. -/
structure Cand where
  /-- masters that gave it, each with the token consumed and its place in the cycle; two for a merged command (R46) -/
  ms : List (Master × Nat × Nat)
  addr : Nat
  value : Nat
  guard : Nat
  verdict : Bool
  /-- a command of a command group -/
  cmd : Bool
deriving DecidableEq, Repr

/-- The outcome of one write of the cycle. -/
structure Res where
  i : Nat
  m : Master
  addr : Nat
  status : Nat
  seq : Nat
  tok : Nat
  cmd : Bool
  frame : Bool
  /-- as in Write -/
  low : Nat
deriving DecidableEq, Repr

/-- What the checks of a cycle have gathered. -/
structure Acc where
  s : State
  cands : List Cand
  res : List Res
  /-- parameter writes that came after a command of their group, and so belong to the next one (R41) -/
  late : List (Master × Nat × Nat)
  /-- commands seen: master and address -/
  seen : List (Master × Nat)

/-- The energy order of a command (R45 and each chapter's codes). -/
def energyOrder (a code : Nat) : Nat :=
  match pageEntry (a / 0x1000) with
  | some (.sys0, _) => if code = 1 then 4 else 0
  | some (.met0, _) => if code = 2 then 4 else 0
  | some (.alc, _) => if code = 1 then 2 else if code = 2 then 1 else 0
  | some (.stl, _) => if code = 1 then 1 else if code = 2 then 2 else if code = 3 then 3 else if code = 4 ∨ code = 5 then 4 else 0
  | some (.drv, _) => if code = 1 ∨ code = 3 then 1 else if code = 2 then 4 else 0
  | some (.saf0, _) => if code = 3 ∨ code = 5 then 1 else 0
  | _ => 0

/-- CODE and ARGUMENT of a command value (R40). -/
def codeOf (v : Nat) : Nat := field v 40 8

/-- ARGUMENT of a command value. -/
def argOf (v : Nat) : Nat := field v 0 40

/-- What kind of slot a write meets. -/
inductive Target where
  | none
  | readOnly
  | evt
  | evtEn
  | force
  | snapMark
  | at (acc : Access)
deriving DecidableEq, Repr

/-- The slot a write meets (R23, R27). -/
def targetOf (a : Nat) : Target :=
  if mapped a = false then .none
  else match a % 0x1000 with
    | 0x18 => .evt
    | 0x20 => .evtEn
    | 0x28 => .force
    | 0x38 => .snapMark
    | o => if o < 0x40 then .readOnly
      else match accessOf a with
        | some (.rw f) => .at (.rw f)
        | some (.banked f) => .at (.banked f)
        | some (.param f) => .at (.param f)
        | some .view => .at .view
        | some .token => .at .token
        | some .cmd => .at .cmd
        | _ => .readOnly

/-- The right a write needs (R29, R64). -/
def rightNeeded : Target → Nat
  | .evt | .force => 2
  | .evtEn | .snapMark | .at .view => 1
  | .at .token | .at .cmd | .at (.param _) => 2
  | _ => 3

/-- SYS pages 2 and 3 (R64). -/
def isSysBank (a : Nat) : Bool := decide (a / 0x1000 = 2 ∨ a / 0x1000 = 3)

/-- A write whose acceptance the granary journals (R343). -/
def journalled (a : Nat) : Bool :=
  match targetOf a with
  | .force => !isSysBank a
  | .at (.rw _) => decide (a ≠ Reg.jnlAck)
  | .at (.banked _) => !isSysBank a
  | .at .cmd => true
  | _ => false

/-- An accepted write here moves the page's epoch (R34). -/
def movesEpoch (a : Nat) : Bool :=
  match targetOf a with
  | .at (.rw _) | .at .cmd => true
  | _ => false

namespace State

/-! Owners. -/

/-- The owner's answer to a command. -/
def cmdAnswer (a v : Nat) (m : Master) (ok : Bool) (s : State) : Nat :=
  let code := codeOf v
  let arg := argOf v
  match pageEntry (a / 0x1000) with
  | some (.sys0, _) => sysAnswer code arg s
  | some (.pwr0, _) => pwrAnswer code arg m s
  | some (.tim0, _) => timAnswer m code arg s
  | some (.net0, _) => netAnswer code arg m s
  | some (.met0, _) => winAnswer code
  | some (.met11, _) => metCtlAnswer code m s
  | some (.alc, _) => alcAnswer code
  | some (.stl, n) => stlAnswer n code m s
  | some (.drv, b) => drvAnswer b code arg m s
  | some (.saf0, _) => safAnswer code arg m s
  | some (.mlk0, _) => mlkAnswer code
  | some (.que, _) => if code = 1 ∨ code = 2 then 0x01 else 0x16
  | some (.bil0, _) => bilAnswer code m s
  | some (.key0, _) => keyAnswer code arg m ok s
  | some (.ctl0, _) => ctlAnswer code arg m s
  | some (.upd0, _) => updAnswer code arg m s
  | some (.flt0, _) => fltAnswer code m s
  | _ => 0x16

/-- The owner's answer to a write outside a command group. -/
def slotAnswer (a v : Nat) (m : Master) (s : State) : Nat :=
  match targetOf a with
  | .at (.rw f) =>
    match storeFields f (s.rd a) v with
    | none => 0x16
    | some x => cfgAnswer m a x s
  | .at (.banked f) =>
    if a = Reg.sysSnapCtl then (if maskBit v 0 && s.takeRefused m then 0x15 else 0x01)
    else if (storeFields f (s.rdB m a) v).isSome then 0x01 else 0x16
  | _ => 0x01

/-! The checks of R44. -/

/-- A code or a field that the owner takes from other roles only (R44: the role lacks the right). -/
def roleDenied (w : Write) (s : State) : Bool :=
  match targetOf w.addr with
  | .at .cmd => decide (cmdAnswer w.addr w.value w.m w.verdict s = 0x12)
  | .at (.rw f) => decide (cfgAnswer w.m w.addr ((storeFields f (s.rd w.addr) w.value).getD w.value) s = 0x12)
  | _ => false

/-- Status of the checks of R44 that come before the owner; 0 when the write survives them. -/
def checkStatus (w : Write) (acc : Acc) : Nat :=
  let s := acc.s
  let page := w.addr / 0x1000
  let t := targetOf w.addr
  let tokAddr := w.addr - 8
  let tok := s.rdB w.m tokAddr
  if t = .none then 0x18
  else if w.width < 8 then 0x19
  else if t = .readOnly then 0x1C
  else if rightOf page (s.role w.m) < rightNeeded t ∨ roleDenied w s then 0x12
  else if s.ownerFault page then 0x14
  else
    let c := if t ≠ .at .cmd then 0
      else if s.v .tokenFresh (bankKey w.m tokAddr) = 0 ∨ tok = 0 then 0x13
      else if (s.tokenSeq w.m tok).isSome then 0x02
      else if (w.m, w.addr) ∈ acc.seen then 0x14
      else 0
    if c ≠ 0 then c
    else if w.guard ≠ 0xFFFF ∧ w.guard ≠ s.rd (epochAddr page) % 2 ^ 16 then 0x10
    else 0

/-- A banked write that takes effect at once: a token, an enable, a mark or a viewing slot; none for the others. -/
def bankedTakes (w : Write) (t : Target) (s : State) : Option State :=
  match t with
  | .evtEn => some (s.wrB w.m w.addr (Nat.land w.value (evtMask (w.addr / 0x1000))))
  | .snapMark => some (s.wrfB w.m w.addr 0 1 w.value)
  | .at .view => some (s.wrB w.m w.addr w.value)
  | .at .token => some ((s.wrB w.m w.addr w.value).setV .tokenFresh (bankKey w.m w.addr) 1)
  | _ => none

/-- One write of the cycle is checked (R44). A command consumes its token whatever its outcome (R41). -/
def checkWrite (i : Nat) (w : Write) (acc : Acc) : Acc :=
  let t := targetOf w.addr
  let isCmd := decide (t = .at .cmd)
  let st := checkStatus w acc
  let tok := acc.s.rdB w.m (w.addr - 8)
  let seq := if st = 0x02 then (acc.s.tokenSeq w.m tok).getD 0 else 0
  let s1 := if isCmd && decide (8 ≤ w.width) then acc.s.setV .tokenFresh (bankKey w.m (w.addr - 8)) 0 else acc.s
  let a1 : Acc := { acc with s := s1, seen := if isCmd then acc.seen ++ [(w.m, w.addr)] else acc.seen }
  let out (st : Nat) (a : Acc) : Acc :=
    { a with res := a.res ++ [⟨i, w.m, w.addr, st, seq, tok, isCmd && decide (8 ≤ w.width), w.frame, w.low⟩] }
  if st ≠ 0 then out st a1
  else match bankedTakes w t s1 with
    | some s2 => out 0x01 { a1 with s := s2 }
    | none =>
      match t with
      | .at (.param f) =>
        match storeFields f (s1.rdB w.m w.addr) w.value with
        | none => out 0x16 a1
        | some v =>
          if a1.seen.any fun x => decide (x.1 = w.m ∧ x.2 / 0x1000 = w.addr / 0x1000) then
            out 0x01 { a1 with late := a1.late ++ [(w.m, w.addr, v)] }
          else out 0x01 { a1 with s := s1.wrB w.m w.addr v }
      | _ => { a1 with cands := a1.cands ++ [⟨[(w.m, tok, i)], w.addr, w.value, w.guard, w.verdict, isCmd⟩] }

/-- Every write of the cycle, the host's first (R44). -/
def checkAll (s : State) : Acc :=
  let ws := s.cycle.filter (fun w => decide (w.m = .host)) ++ s.cycle.filter fun w => decide (w.m = .mgmt)
  (ws.zip (List.range ws.length)).foldl (fun a x => checkWrite x.2 x.1 a) ⟨{ s with cycle := [] }, [], [], [], []⟩

/-! Arbitration (R45 to R47). -/

/-- A candidate's master. -/
def byHost (c : Cand) : Bool := c.ms.any fun x => decide (x.1 = .host)

/-- Outcomes of a candidate with one status and number. -/
def outcomes (c : Cand) (st seq : Nat) (fr : List Nat) : List Res :=
  c.ms.map fun x => ⟨x.2.2, x.1, c.addr, st, seq, x.2.1, c.cmd, decide (x.2.2 ∈ fr), 0⟩

/-- Within one master a later write to a slot replaces the earlier one (R47). -/
def replaced (c : Cand) (l : List Cand) : Bool :=
  !c.cmd && l.any fun d => decide (d.addr = c.addr ∧ byHost d = byHost c) && (d.ms.map (·.2.2)).any fun j => (c.ms.map (·.2.2)).all fun k => decide (k < j)

/-- A slot both masters share: a command group, a shared slot or PAGE_EVT. -/
def isShared (a : Nat) : Bool :=
  match targetOf a with
  | .at (.banked _) => false
  | _ => true

/-- How the host's candidate fares against the management port's on its slot: 0 alone, 1 it wins, 2 it loses, 3 both run once
(merged), 4 both stand. -/
def contest (h : Cand) (l : List Cand) : Nat :=
  match l.find? fun d => !byHost d && decide (d.addr = h.addr) && isShared h.addr with
  | none => 0
  | some d =>
    if h.cmd then
      if d.value = h.value then 3
      else if energyOrder h.addr (codeOf d.value) < energyOrder h.addr (codeOf h.value) then 1 else 2
    else if d.value = h.value then 4 else 2

/-- The winners, and the candidates that lose. -/
def arbitrate (l : List Cand) : List Cand × List Cand :=
  let l1 := l.filter fun c => !replaced c l
  let host (c : Cand) : Nat := if byHost c then contest c l1 else 0
  let lost (c : Cand) : Bool := if byHost c then decide (host c = 2)
    else l1.any fun h => byHost h && decide (h.addr = c.addr) && isShared c.addr && decide (contest h l1 = 1)
  let merged (c : Cand) : Option Cand := l1.find? fun h => byHost h && decide (h.addr = c.addr) && decide (contest h l1 = 3)
  let win := (l1.filter fun c => !lost c && !(byHost c && decide (host c = 3))).map fun c =>
    if byHost c || !isShared c.addr then c
    else match merged c with
      | some h => { c with ms := h.ms ++ c.ms }
      | none => c
  (win, l1.filter lost)

/-- Put a candidate behind those of no higher address. -/
def candInsert (x : Cand) : List Cand → List Cand
  | [] => [x]
  | y :: t => if y.addr ≤ x.addr then y :: candInsert x t else x :: y :: t

/-- Ascending BAR0 address (R348). -/
def candSort (l : List Cand) : List Cand := l.foldl (fun a x => candInsert x a) []

/-! Effects. -/

/-- The effect of an accepted command; `both` when it was merged, `seq` its record. -/
def cmdEffect (a v : Nat) (m : Master) (both ok : Bool) (seq : Nat) (s : State) : State :=
  let code := codeOf v
  let arg := argOf v
  match pageEntry (a / 0x1000) with
  | some (.sys0, _) => sysEffect code arg s
  | some (.pwr0, _) => blockRestart (field arg 0 8) 2 s
  | some (.tim0, _) => timEffect m code arg s
  | some (.net0, _) => netEffect code arg s
  | some (.met0, _) => winEffect code arg s
  | some (.met11, _) => metCtlEffect code m s
  | some (.alc, _) => alcEffect code arg s
  | some (.stl, n) => stlEffect n code arg s
  | some (.drv, b) => drvEffect b code arg s
  | some (.saf0, _) => safEffect code arg s
  | some (.mlk0, _) => mlkEffect code arg s
  | some (.que, q) => if code = 1 then queFlush q false s else queMaxReset q s
  | some (.bil0, _) => bilEffect code arg s
  | some (.key0, _) =>
    let s1 := keyEffect code arg m s
    if both then each (slotOffsets .key2) (fun o t =>
      if 0x40 ≤ o then t.wrB .host (0xE02000 + o) (t.rdB .mgmt (0xE02000 + o)) else t) s1 else s1
  | some (.ctl0, _) => ctlEffect code arg m both seq s
  | some (.upd0, _) => updEffect code arg m ok s
  | some (.flt0, _) => fltEffect arg s
  | _ => s

/-- The effect of an accepted write outside a command group. A TAKE is done at the end of its boundary (R48). -/
def slotEffect (a v : Nat) (m : Master) (ok : Bool) (s : State) : State :=
  match targetOf a with
  | .evt => queEvtSum (a / 0x1000) (s.wr a (s.rd a - Nat.land (s.rd a) v))
  | .force => each ((List.range 48).filter fun b => maskBit v b && maskBit (evtMask (a / 0x1000)) b) (fun b t => t.evt (a / 0x1000) b) s
  | .at (.rw f) =>
    match storeFields f (s.rd a) v with
    | none => s
    | some x => cfgSet a (s.rd a) (s.wr a x)
  | .at (.banked f) =>
    if a = Reg.sysSnapCtl then
      let s1 := if maskBit v 1 then snapRelease m false s else s
      let s2 := if maskBit v 2 then each allPages (fun p t => t.wrfB m (snapAddr p) 0 1 0) s1 else s1
      if maskBit v 0 then s2.setV .takeWant m.ix 1 else s2
    else if a = Reg.sysAuthReq then
      let s1 := s.wrB m a (field v 0 3)
      let s2 := if maskBit v 8 then login m (field v 0 3) ok s1 else s1
      if maskBit v 9 then logout m 1 s2 else s2
    else match storeFields f (s.rdB m a) v with
      | none => s
      | some x => s.wrB m a x
  | _ => s

/-- The master that a candidate counts as: the management port of a merged command. -/
def candMaster (c : Cand) : Master := ((c.ms.getLast?).map (·.1)).getD .host

/-- The granary's part of the answer (R344, R356, R364): `k` records of this boundary are before it. -/
def granaryAnswer (c : Cand) (k : Nat) (s : State) : Nat :=
  let off := c.cmd && decide (3 ≤ energyOrder c.addr (codeOf c.value))
  if isSysBank c.addr then
    if c.addr = Reg.sysAuthReq ∧ maskBit c.value 8 ∧ s.space 3 ∧ reserveRecords ≤ s.n .resUsed then 0x17 else 0x01
  else if c.addr = Reg.jnlAck ∨ targetOf c.addr = .evt then 0x01
  else if s.space 3 ∨ (s.space 1 ∧ off = false) ∨ (journalled c.addr ∧ s.free < k + 1) then 0x17
  else 0x01

/-- The answer to a candidate (R44): BUSY while the granary numbers nothing (R364), the owner's answer, the granary's. -/
def answer (c : Cand) (k : Nat) (s : State) : Nat :=
  if journalled c.addr ∧ s.jnlHalted then 0x14
  else
    let m := candMaster c
    let o := if c.cmd then cmdAnswer c.addr c.value m c.verdict s else slotAnswer c.addr c.value m s
    if o = 0x01 then granaryAnswer c k s else o

/-- What an accepted candidate does. -/
def takeEffect (c : Cand) (seq : Nat) (s : State) : State :=
  let m := candMaster c
  if c.cmd then cmdEffect c.addr c.value m (decide (2 ≤ c.ms.length)) c.verdict seq ((s.wr c.addr c.value).touch (c.addr / 0x1000))
  else slotEffect c.addr c.value m c.verdict s

/-- What a refused one leaves: the reason of an update command (R464), TOO_MANY of a TAKE (R50). -/
def refuseEffect (c : Cand) (st : Nat) (s : State) : State :=
  let m := candMaster c
  if st ≠ 0x15 then s
  else if c.cmd ∧ c.addr = Reg.updCmd then
    let r := updReason (codeOf c.value) (argOf c.value) m s
    if r = 0 then s else updRefuse (field (argOf c.value) 0 3) r s
  else if c.addr = Reg.sysSnapCtl then (s.wrfB m Reg.sysSnapStat 1 1 0).wrfB m Reg.sysSnapStat 2 1 1
  else s

/-- A command of a stall. -/
def isStallCmd (c : Cand) : Bool := c.cmd && decide (0x600000 ≤ c.addr ∧ c.addr < 0x620000)

/-- The winners in the order their owners take them: up to the stalls' and the allocator's pages by address, then the seven steps of
R201 with the stall commands at theirs, then the rest. -/
def sweep {α : Type} (f : Cand → α → α) (stl : Nat → α → α) (l : List Cand) (x : α) : α :=
  let first := l.filter fun c => !isStallCmd c && decide (c.addr < 0x700000)
  let stalls := l.filter isStallCmd
  let rest := l.filter fun c => decide (0x700000 ≤ c.addr)
  let x1 := first.foldl (fun y c => f c y) x
  let x2 := (List.range 7).foldl (fun y r =>
    (stalls.filter fun c => decide (stlCmdRank (codeOf c.value) = r + 1)).foldl (fun z c => f c z) (stl (r + 1) y)) x1
  rest.foldl (fun y c => f c y) x2

/-- A step of R201, unless STL is in restart (R220). -/
def stlRun (r : Nat) (s : State) : State := if s.v .ownerFault 6 = 1 then s else stlStep r s

/-- The statuses of the winners: what their owners answer as each takes effect in its turn, found on a copy of the state. -/
def statuses (l : List Cand) (s : State) : List (Cand × Nat) :=
  (sweep (fun c (x : State × List (Cand × Nat)) =>
      let k := (x.2.filter fun y => decide (y.2 = 0x01) && journalled y.1.addr).length
      let st := answer c k x.1
      (if st = 0x01 then takeEffect c 0 x.1 else refuseEffect c st x.1, x.2 ++ [(c, st)]))
    (fun r x => (stlRun r x.1, x.2)) l (s, [])).2

/-- The status of a candidate in the list. -/
def statusOf (l : List (Cand × Nat)) (c : Cand) : Nat := ((l.find? fun x => decide (x.1 = c)).map (·.2)).getD 0x14

/-- The record of an accepted candidate (R343, R347). -/
def candRec (c : Cand) (s : State) : Submission :=
  let page := c.addr / 0x1000
  let inst := ((pageEntry page).map (·.2)).getD 0xFFFF
  match c.ms with
  | x :: y :: _ =>
    commandRec (page / 256) inst (actorMaster s x.1) x.2.1 (codeOf c.value) (argOf c.value) c.addr y.2.1 (actorMaster s y.1)
  | [x] =>
    if c.cmd then commandRec (page / 256) inst (actorMaster s x.1) x.2.1 (codeOf c.value) (argOf c.value) c.addr 0 0
    else
      let old := match targetOf c.addr with
        | .at (.banked _) => s.rdB x.1 c.addr
        | .force => 0
        | _ => s.rd c.addr
      let new := match targetOf c.addr with
        | .at (.rw f) | .at (.banked f) => (storeFields f old c.value).getD c.value
        | _ => c.value
      rec1 (page / 256) 2 0 inst (actorMaster s x.1) [(4, c.addr), (6, old), (6, new), (2, c.guard)]
  | [] => commandRec (page / 256) inst 0 0 (codeOf c.value) (argOf c.value) c.addr 0 0

/-- Number the records of the accepted work by ascending address (R348), with the tokens it consumes (R349). -/
def numberAll (l : List (Cand × Nat)) (cs : List Cand) (s : State) : State × List (Cand × Nat) :=
  cs.foldl (fun (x : State × List (Cand × Nat)) c =>
    if statusOf l c = 0x01 ∧ journalled c.addr then
      let q := x.1.rd Reg.jnlHead
      let s1 := submit (candRec c x.1) x.1
      let s2 := if c.cmd then each c.ms (fun y t => remember y.1 y.2.1 q t) s1 else s1
      (s2, x.2 ++ [(c, q)])
    else (x.1, x.2)) (s, [])

/-! Outcomes. -/

/-- The status of one write is entered: xxx_STAT and xxx_SEQ of a command (R40), the event bits (R32), the counts (R63), the time of
the last accepted write (R60), the answer to a frame (R55). -/
def enterRes (r : Res) (s : State) : State :=
  let page := r.addr / 0x1000
  let s1 := if r.cmd then (s.wrB r.m (r.addr + 8) (r.status * 2 ^ 40 + r.tok % 2 ^ 32)).wrB r.m (r.addr + 16) r.seq else s
  let known := (pageEntry page).isSome
  let s2 := if !known then s1 else match r.status with
    | 0x10 => s1.evt page (0 + r.m.ix)
    | 0x11 => s1.evt page (2 + r.m.ix)
    | 0x12 => s1.evt page (4 + r.m.ix)
    | _ => s1
  let s3 := if r.status = 0x01 then s2.setV .lastAccepted r.m.ix s2.counter
    else if r.status = 0x02 then s2 else countStatus r.m r.status (r.addr + r.low) s2
  if r.frame then mgmtStatus r.status s3 else s3

/-- Outcomes in the order of arrival. -/
def resInsert (x : Res) : List Res → List Res
  | [] => [x]
  | y :: t => if y.i ≤ x.i then y :: resInsert x t else x :: y :: t

/-- An accepted write to a shared slot or a command group is a commit of its page (R34). -/
def committed (a : Nat) (s : State) : State := if movesEpoch a then { s with commits := s.commits ++ [a] } else s

/-- Every write of the cycle is settled (R44). -/
def settle (s : State) : State :=
  let fr := ((s.cycle.filter (fun w => decide (w.m = .host)) ++ s.cycle.filter fun w => decide (w.m = .mgmt)).zip
    (List.range s.cycle.length)).filterMap fun x => if x.1.frame then some x.2 else none
  let acc := checkAll s
  let a := arbitrate acc.cands
  let ws := candSort a.1
  let sts := statuses ws acc.s
  let n := numberAll sts ws acc.s
  let seqOf (c : Cand) : Nat := ((n.2.find? fun x => decide (x.1 = c)).map (·.2)).getD 0
  let s1 := sweep (fun c t => if statusOf sts c = 0x01 then
      committed c.addr (takeEffect c (seqOf c) t)
    else refuseEffect c (statusOf sts c) t) stlRun ws n.1
  let s2 := each acc.late (fun x t => t.wrB x.1 x.2.1 x.2.2) s1
  let gone := acc.cands.filter fun c => replaced c acc.cands
  let rs := acc.res ++ gone.flatMap (fun c => outcomes c 0x01 0 fr) ++ a.2.flatMap (fun c => outcomes c 0x11 0 fr)
    ++ ws.flatMap fun c => outcomes c (statusOf sts c) (if c.cmd then seqOf c else 0) fr
  each (rs.foldl (fun l x => resInsert x l) []) enterRes s2

/-! Publication (R33 to R37). -/

/-- A page epoch moved on by `k`: low 16 bits of 0xFFFF are passed over (R34). -/
def epochPlus (e k : Nat) : Nat :=
  let i := e / 65536 * 65535 + min (e % 65536) 65534 + k
  (i / 65535 * 65536 + i % 65535) % 2 ^ 48

/-- Publication period of a page of PUB_SRC 1, ns (R277, R484, R534). -/
def pubPeriod : PageClass → Nat
  | .drv | .drv8 => 1000000
  | _ => 10000000

/-- How far a page's epoch moves at a boundary that ends a span from `c0`: its publications and its commits (R33, R34). `forced` is
the first publication after a restart (R31). -/
def epochSteps (s : State) (c0 : Nat) (forced : Bool) (page : Nat) : Nat :=
  let commit := decide (page ∈ s.commits.map (· / 0x1000))
  match pageEntry page with
  | none => 0
  | some (c, _) =>
    if forced then 1
    else if s.ownerFault page then 0
    else match pubSrc c with
      | 0 => commit.toNat
      | 1 =>
        let p := pubPeriod c
        let k := s.counter / p - c0 / p
        if (commit || decide (page ∈ s.dirty)) && decide (s.counter % p ≠ 0) then k + 1 else k
      | 3 => (commit || decide (s.v .metPub = 1)).toNat
      | _ => (commit || decide (page ∈ s.dirty)).toNat

/-- The page shows its live values after this boundary. -/
def shows (s : State) (c0 : Nat) (forced : List Nat) (page : Nat) : Bool :=
  match pageEntry page with
  | none => false
  | some (c, _) =>
    if page ∈ forced then true
    else if s.ownerFault page then false
    else match pubSrc c with
      | 1 => let p := pubPeriod c
             decide (page ∈ s.dirty) || decide (c0 / p < s.counter / p)
      | 3 => decide (s.v .metPub = 1)
      | _ => true

/-- Blocks whose restart is over and whose first publication is due. -/
def returning (s : State) : List Nat := (List.range 18).filter fun b => decide (s.v .ownerFault b = 2)

/-- The pages whose epoch can move at a boundary: those with a commit or a changed value, those of a block that returns, those that a
clock publishes (PUB_SRC 1, on DRV, NET and PWR) and those that metering publishes (PUB_SRC 3). -/
def duePages (s : State) (c0 : Nat) (forced : List Nat) : List Nat :=
  let own := s.commits.map (· / 0x1000) ++ s.dirty ++ forced
  let clock := decide (c0 / 1000000 < s.counter / 1000000)
  let met := decide (s.v .metPub = 1)
  allPages.filter fun p => decide (p ∈ own) || (clock && decide (p / 256 ∈ [1, 3, 8])) || (met && decide (p / 256 = 4))

/-- The publication at a boundary: epochs, the published set, the return of blocks from restart (R31, R33, R34). -/
def publish (c0 : Nat) (s : State) : State :=
  let forced := s.returning.flatMap blockPages
  let s1 := if c0 / 10000000 < s.counter / 10000000 then pwrMeasure s else s
  let k (p : Nat) : Nat := s1.epochSteps c0 (decide (p ∈ forced)) p
  let s2 := each ((s1.duePages c0 forced).filter fun p => decide (k p ≠ 0)) (fun p t => t.wr (epochAddr p) (epochPlus (t.rd (epochAddr p)) (k p))) s1
  let live := s2.slots.filter fun (e : Nat × Word) => decide (e.1 < bankSpan) && s1.shows c0 forced (e.1 / 0x1000)
  let held := s2.pub.filter fun (e : Nat × Word) => decide (e.1 < bankSpan) && !s1.shows c0 forced (e.1 / 0x1000)
  let p1 := held.foldl (fun t e => Tab.put natLt resetVal t e.1 e.2) live
  let p2 := s2.commits.foldl (fun t a =>
    let u := Tab.put natLt resetVal t a (Tab.get resetVal s2.slots a)
    Tab.put natLt resetVal u (epochAddr (a / 0x1000)) (Tab.get resetVal s2.slots (epochAddr (a / 0x1000)))) p1
  each s.returning (fun b t => t.setV .ownerFault b 0) ({ s2 with pub := p2, dirty := [], commits := [] }.setV .metPub 0 0)

/-! The boundary. -/

/-- Seconds left to the default answer of a decision (R244). -/
def decisionLeft (s : State) : State :=
  eachBelow 32 (fun n t => let e := t.v .decEnd n
    if e = 0 then t else t.hwf (Reg.vhsSess n) 32 16 (saturate 16 ((e - 1 - t.counter + 999999999).toNat / 1000000000))) s

/-- The management link bit, the modulator grid, and what stands once a second (R63, R93, R244, R366, R475, R505). -/
def secondly (c0 : Nat) (s : State) : State :=
  let s1 := gridShow (s.hwb Reg.sysMstLink 8 (decide (s.v .mgmtFrameAt ≠ 0 ∧ s.counter < s.n .mgmtFrameAt + 10 ^ 9)))
  if c0 / 10 ^ 9 < s.counter / 10 ^ 9 then decisionLeft (rateRefresh (mlkRefresh (updRefresh s1))) else s1

/-- Restarts that an update leaves for the end of the boundary (R465). -/
def updActs (s : State) : State :=
  let x := s.n .updAfter
  let s0 := s.setV .updAfter 0 0
  let s1 := if maskBit x 3 then selfRestart 4 s0 else s0
  let s2 := if maskBit x 4 then selfRestart 0xE (selfRestart 0xF (selfRestart 0xA s1)) else s1
  if maskBit x 2 then
    let s3 := captureNow (drainAll s2)
    powerUp 2 (if s3.timeValid then some (nanosOf s3.now) else none) [] (s3.setV .glnEnd 0 1)
  else s2

/-- Reads that waited for the boundary are answered, the host's one behind the other (R36). -/
def readsDue (s : State) : State :=
  if s.reads = [] then s
  else each s.reads (fun r t =>
    let u := readCaptured r.m r.addr r.len 0 t
    reply r.m u.hostReply (u.readBytes r.m r.addr r.len) u) { s with reads := [], hostReply := [] }

/-- PAGE_EVT and the banked slots as the boundary leaves them (R33): they move no epoch and stand beside every set (log entry 50). -/
def publishBanks (s : State) : State :=
  let own (e : Nat × Word) : Bool := decide (e.1 < bankSpan) && decide (e.1 % 0x1000 ≠ 0x18)
  let evts := s.slots.filter fun (e : Nat × Word) => decide (e.1 < bankSpan) && decide (e.1 % 0x1000 = 0x18)
  { s with pub := evts.foldl (fun t e => Tab.put natLt resetVal t e.1 e.2) (s.pub.filter own)
      ++ s.slots.filter fun (e : Nat × Word) => decide (bankSpan ≤ e.1) }

/-- TAKEs accepted at this boundary (R48). -/
def takesDue (s : State) : State :=
  each [Master.host, Master.mgmt] (fun m t => if t.v .takeWant m.ix = 1 then snapTake m (t.setV .takeWant m.ix 0) else t) s

/-- The clock moves to the next boundary, where its changes are made (R68, R76), and `idle` cycles beyond; billing time follows (R384). -/
def tick (idle : Nat) (s : State) : State :=
  let c := (s.counter / 1000 + 1) * 1000
  let s1 := btUpdate (clockDue { btUpdate s with counter := c })
  if idle = 0 then s1
  else
    let s2 := btUpdate (clockDue { s1 with counter := c + 1000 })
    { s2 with counter := c + idle * 1000 }

/-- The boundary's instant, `idle` cycles later than the next one, and what the clocks bring before the writes: corrected and billing
time, the end of a device reset, the sources both safety channels see, RATE at a whole second, harmonics pages, over-current decisions and windows due,
and what the balance and the allocator use of this instant. -/
def opening (idle : Nat) (s : State) : State := excessWindows (overcurrentDue (harmShow (alcLatch true (balLatch (rateLatch (sourcesSeen (rewrapDue (resetDue (tick idle s)))))))))

/-- What follows the writes at a boundary that ends a span from `c0`: the ports, updates, billing, what stands once a second, resets, a
pre-capture that is due, faults, the publication, the TAKEs and the reads that waited. -/
def closing (c0 : Nat) (s : State) : State :=
  let s3 := ephRefresh (alcLatch false (pqFlush (bilBoundary (deferDue (updEngines (ethSend (netStep (btUpdate (leapDue s)))))))))
  let s4 := milestones (secondly c0 s3)
  let s5 := if s4.v .resetWant = 1 then resetCommand (s4.setV .resetWant 0 0) else s4
  readsDue (publishBanks (takesDue (publishBanks (publish c0 (fltBoundary (updActs (captureDue s5)))))))

/-- A command-cycle boundary after `idle` further cycles without one (R33, R44, R201, R508). Without power nothing happens; during
gleaning nothing is accepted (R370). -/
def boundary (idle : Nat) (s : State) : State :=
  if s.v .powerOff = 1 then s
  else if s.v .gleaning = 1 then publishBanks (publish s.counter (pqFlush (tick idle s)))
  else closing s.counter (settle (opening idle s))

/-- A write of a master enters the cycle; without power or during gleaning none does (R370). -/
def post (w : Write) (s : State) : State :=
  if s.v .gleaning = 1 ∨ s.v .powerOff = 1 then s else { s with cycle := s.cycle ++ [w] }

/-- A whole-slot write of a master. -/
def slotWrite (m : Master) (a guard value : Nat) (ok : Bool) : Write := ⟨m, a, 8, guard, value, ok, false, 0⟩

/-- A command that has a row of its own: its write, and the boundary that settles its cycle. -/
def command (m : Master) (a guard code arg : Nat) (ok : Bool) (s : State) : State :=
  boundary 0 (post (slotWrite m a guard (code * 2 ^ 40 + arg % 2 ^ 40) ok) s)

/-- A write that has a row of its own, and the boundary that settles its cycle. -/
def writeNow (m : Master) (a guard value : Nat) (ok : Bool) (s : State) : State :=
  boundary 0 (post (slotWrite m a guard value ok) s)

end State
end Sys2Proof.Machine
end

