-- ==== Sys2Proof/Machine/Events.lean ====
section
/-! DEFINITION. How the rows of the table meet the block: which of its parts must be powered and running for an event to act
(R31, R245, R276, R370, R529), the accesses of the two masters (R24, R25, R53, R55 to R57, R352), and the numbers of named operands. -/
namespace Sys2Proof.Machine

/-- PAGE_EVT_FORCE of a page (R27). -/
def forceAddr (page : Nat) : Nat := page * 0x1000 + 0x28

/-- Number of an origin of logins: host, management port, field. -/
def originIx : Origin → Nat
  | .host => 0
  | .mgmt => 1
  | .field => 2

/-- Number of a safety channel: 0 X, 1 Y. -/
def channelIx : Channel → Nat
  | .x => 0
  | .y => 1

/-- Image kinds are numbered from 1 (R456). -/
def kindOf (k : Fin 6) : Nat := k.val + 1

namespace State

/-! Which events act. -/

/-- An event of a part that is supplied until the end of gleaning (R375). -/
def powered (f : State → State) (s : State) : State := if s.v .powerOff = 1 then s else f s

/-- An event of a part that stops at the commit of a supply loss (R370). -/
def awake (f : State → State) (s : State) : State := if s.v .powerOff = 1 ∨ s.v .gleaning = 1 then s else f s

/-- An event that a block detects: none while it restarts (R121, R220, R276, R428, R528). -/
def blockRuns (code : Nat) (f : State → State) (s : State) : State :=
  if s.v .powerOff = 1 ∨ s.v .ownerFault code = 1 then s else f s

/-- An event of the vehicle sessions: none while VHS restarts (R248) or once the modems have stopped (R370). -/
def engine (f : State → State) (s : State) : State :=
  if s.v .powerOff = 1 ∨ s.v .gleaning = 1 ∨ s.v .ownerFault 7 = 1 then s else f s

/-- An event of a part that a device reset holds: the partitions, the contactless readers (R529). -/
def inService (f : State → State) (s : State) : State :=
  if s.v .powerOff = 1 ∨ s.v .gleaning = 1 ∨ s.resetting then s else f s

/-- An event of the time block: billing time follows it at once (R384, R401). -/
def clockEvent (f : State → State) (s : State) : State := if s.v .powerOff = 1 then s else btUpdate (f s)

/-- An event of the mains link, which stops at the commit and in a restart (R370, R502). -/
def linkEvent (f : State → State) (s : State) : State := if s.linkIdle then s else f s

/-- POWER_DELIVERY_STARTED (R201 step 7): the leading partition reports it. -/
def powerDelivery (p : Partition) (stall : Nat) (s : State) : State :=
  if s.leads p stall then s.trigger stall .delivery else s

/-- A frame from the mains link, with the relay message it may carry (R471, R491). -/
def linkIn (port : Nat) (b : List Byte) (dt attenDb : Nat) (s : State) : State :=
  let r := linkFrame port b dt attenDb s
  match r.2 with
  | none => r.1
  | some x => relayMessage port x r.1

/-! The MSI-X structures (R24, R53). -/

/-- A vector that is unmasked with its pending bit set is sent. -/
def msixUnmask (k : Nat) (s : State) : State :=
  let pba := 0x9000 + 4 * (k / 32)
  if s.rd (0x8000 + 16 * k + 12) % 2 = 0 ∧ s.bit pba (k % 32) ∧ s.bit Reg.sysMstLink 0 then sendMsi k (s.wrf pba (k % 32) 1 0)
  else s

/-- A doubleword of the host to the table; the pending bits cannot be written. -/
def msixWrite (a v : Nat) (s : State) : State :=
  if isMsixTable a = false then s
  else
    let x := v % 2 ^ 32
    match a % 16 with
    | 0 => s.wr a (x / 4 * 4)
    | 12 => msixUnmask ((a - 0x8000) / 16) (s.wr a (x % 2))
    | _ => s.wr a x

/-! Accesses of the masters. -/

/-- A host write to a data port: PUSH and PUSH_END append its bytes, the other windows discard them (R323, R324). -/
def portWrite (addr width guard value : Nat) (s : State) : State :=
  let bytes := (toLE 8 (value + guard * 2 ^ 48)).take width
  match portWindow addr with
  | 0 => awake (quePush (portQueue addr) bytes false) s
  | 1 => awake (quePush (portQueue addr) bytes true) s
  | _ => s

/-- A write that no row names: its value is one slot (48 bits and the guard) or, to the MSI-X table, one or two doublewords. Narrower
and unaligned writes are BAD_WIDTH; an access over 64 bytes, over a page boundary or beyond BAR0 has no effect on the host link
and is LINK_FORMAT on the management port (R25). The queue ports take a host's bytes (R324); the journal window
takes no writes (R352). The
verdict on key material that such a write may start is free. -/
def busWrite (m : Master) (addr width guard value : Nat) (s : State) : State :=
  if s.v .gleaning = 1 ∨ s.v .powerOff = 1 then s
  else if m = .host ∧ (isMsixTable addr ∨ isMsixPba addr) then
    (if width = 4 ∧ addr % 4 = 0 then msixWrite addr value s
     else if width = 8 ∧ addr % 8 = 0 then
       msixWrite (addr + 4) (value / 2 ^ 32 + guard * 2 ^ 16) (msixWrite addr value s)
     else s)
  else if m = .host ∧ inPorts addr ∧ width ≤ 8 then portWrite addr width guard value s
  else if 2 ^ 26 < addr + width ∨ 64 < width ∨ width = 0 ∨ addr / 0x1000 ≠ (addr + width - 1) / 0x1000 then
    (match m with
     | .host => s
     | .mgmt => mgmtStatus 0x1B (countStatus .mgmt 0x1B addr s))
  else if inWindow addr ∨ inPorts addr then
    (match m with
     | .host => s
     | .mgmt => countStatus .mgmt (if inWindow addr then 0x1C else 0x18) addr s)
  else
    let narrow := decide (width < 8) || decide (addr % 8 ≠ 0)
    post ⟨m, addr / 8 * 8, if narrow then 4 else 8, guard, value, decide (s.draw 1 = 1), false, addr % 8⟩ s.drawn

/-- The management port refuses a read frame: it is counted (R63). -/
def frameRefuse (st : Nat) (s : State) : State := mgmtStatus st (countOnly .mgmt st s)

/-- The management port refuses a write frame: it is counted, and shown with its address (R63). -/
def writeRefuse (st addr : Nat) (s : State) : State := mgmtStatus st (countStatus .mgmt st addr s)

/-- The check of a frame fails (R57). -/
def frameCrcBad (f : List Byte) : Bool :=
  decide (f.length < 3) || decide (beAt f (f.length - 2) 2 ≠ crc16 (f.take (f.length - 2)))

/-- The address of a frame has the form of R55. -/
def frameAddrOk (f : List Byte) : Bool := decide (beAt f 1 4 < 2 ^ 26) && decide (beAt f 1 4 % 8 = 0)

/-- MGMT_READ_FRAME at counter + dt (R55 to R57); BUSY during gleaning (R370). `clocked`: an MG_SCK edge during the wait ends the frame
with LINK_FORMAT (R558). -/
def frameRead (f : List Byte) (dt : Nat) (clocked : Bool) (s : State) : State :=
  if s.v .powerOff = 1 then s
  else
    let t := mgmtSeen s
    let a := beAt f 1 4
    let n := beAt f 5 1
    if frameCrcBad f then frameRefuse 0x1A t
    else if clocked ∨ f.length ≠ 8 ∨ beAt f 0 1 ≠ 0x0B ∨ frameAddrOk f = false ∨ n = 0 ∨ 8 < n then frameRefuse 0x1B t
    else if s.v .gleaning = 1 then frameRefuse 0x14 t
    else readRequest .mgmt a (8 * n) dt t

/-- MGMT_WRITE_FRAME (R55 to R57): one slot goes to the boundary, whose status is the frame's. A frame that an MG_SCK edge ends during the
wait is not executed (R558; log entry 51). -/
def frameWrite (f : List Byte) (clocked : Bool) (s : State) : State :=
  if s.v .powerOff = 1 then s
  else
    let t := mgmtSeen s
    let a := beAt f 1 4
    if frameCrcBad f then writeRefuse 0x1A a t
    else if clocked ∨ f.length ≠ 16 ∨ beAt f 0 1 ≠ 0x02 ∨ frameAddrOk f = false ∨ beAt f 5 1 ≠ 1 then writeRefuse 0x1B a t
    else if s.v .gleaning = 1 then writeRefuse 0x14 a t
    else if inWindow a then writeRefuse 0x1C a t
    else if inPorts a then writeRefuse 0x18 a t
    else post ⟨.mgmt, a, 8, beAt f 6 2, beAt f 8 6, decide (t.draw 1 = 1), true, 0⟩ t.drawn

/-- JOURNAL_WINDOW_READ (R352): `len` bytes at offset `off` of the window. -/
def windowRead (m : Master) (off len : Nat) (s : State) : State :=
  awake (readRequest m (0x3000000 + off) len 0) s

end State
end Sys2Proof.Machine
end

