-- ==== Sys2Proof/Machine/BillingRows.lean ====
section
/-! DEFINITION. The meanings of the rows of billing (15_billing.md). -/
namespace Sys2Proof.Machine
open State

/-- TARIFF_SWITCH (R389). -/
def execTariffSwitch (s : State) : Host.Outcome State Fault Refusal := .next (State.tariffSwitch s)

/-- DEMAND_INTERVAL_END (R393). -/
def execDemandIntervalEnd (mp : Fin 64) (s : State) : Host.Outcome State Fault Refusal := .next (powered (demandEnd mp.val) s)

/-- CALENDAR_ACTIVATION (R391). -/
def execCalendarActivation (s : State) : Host.Outcome State Fault Refusal := .next (powered State.calendarActivation s)

/-- BT_HOLD_END (R384). -/
def execBtHoldEnd (s : State) : Host.Outcome State Fault Refusal := .next (powered State.btHoldEnd s)

/-- BIL_BT_CAPTURE (R403). -/
def execBilBtCapture (m : Master) (dt : Nat) (s : State) : Host.Outcome State Fault Refusal := .next (btCapture m dt s)

/-- SESSION_CLOSE (R395). -/
def execSessionClose (stall : Fin 32) (s : State) : Host.Outcome State Fault Refusal := .next (powered (State.sessionClose stall.val) s)

/-- RECORD_RELEASE (R399). -/
def execRecordRelease (recNum : Nat) (signed_ : Bool) (s : State) : Host.Outcome State Fault Refusal :=
  .next (powered (State.recordRelease recNum signed_) s)

/-- SIGN_READING (R396). -/
def execSignReading (m : Master) (guard : BitVec 16) (arg : BitVec 40) (s : State) : Host.Outcome State Fault Refusal :=
  .next (command m Reg.bilCmd guard.toNat 2 arg.toNat false s)

/-- DROP_PENDING (R391). -/
def execDropPending (m : Master) (guard : BitVec 16) (arg : BitVec 40) (s : State) : Host.Outcome State Fault Refusal :=
  .next (command m Reg.bilCmd guard.toNat 1 arg.toNat false s)

/-- DEMAND_RESET (R393). -/
def execDemandReset (m : Master) (guard : BitVec 16) (arg : BitVec 40) (s : State) : Host.Outcome State Fault Refusal :=
  .next (command m Reg.bilCmd guard.toNat 3 arg.toNat false s)

end Sys2Proof.Machine
end

