-- ==== Sys2Proof/Machine/DriveRows.lean ====
section
/-! DEFINITION. The meanings of the rows of the drive outputs (10_drive_outputs.md). -/
namespace Sys2Proof.Machine
open State

/-- DRV_ON (R255). -/
def execDrvOn (m : Master) (bank : Fin 8) (guard : BitVec 16) (arg : BitVec 40) (s : State) : Host.Outcome State Fault Refusal :=
  .next (command m (Reg.drvCmd bank.val) guard.toNat 1 arg.toNat false s)

/-- DRV_OFF (R255). -/
def execDrvOff (m : Master) (bank : Fin 8) (guard : BitVec 16) (arg : BitVec 40) (s : State) : Host.Outcome State Fault Refusal :=
  .next (command m (Reg.drvCmd bank.val) guard.toNat 2 arg.toNat false s)

/-- REENABLE (R272). -/
def execReenable (m : Master) (bank : Fin 8) (guard : BitVec 16) (arg : BitVec 40) (s : State) : Host.Outcome State Fault Refusal :=
  .next (command m (Reg.drvCmd bank.val) guard.toNat 3 arg.toNat false s)

/-- CURRENT_MEASUREMENT (R260). -/
def execCurrentMeasurement (out : Fin 64) (ma : Int) (mv10 : Int) (tj : Int) (s : State) : Host.Outcome State Fault Refusal :=
  .next (blockRuns 8 (State.currentMeasurement out.val ma mv10 tj) s)

/-- SHORT (R261). -/
def execShortCircuit (out : Fin 64) (us : Nat) (s : State) : Host.Outcome State Fault Refusal :=
  .next (powered (State.shortCircuit out.val us) s)

/-- OPEN_LOAD (R261). -/
def execOpenLoad (out : Fin 64) (s : State) : Host.Outcome State Fault Refusal := .next (blockRuns 8 (State.openLoad out.val) s)

/-- FUSE_MODEL_UPDATE (R262). -/
def execFuseModelUpdate (out : Fin 64) (s : State) : Host.Outcome State Fault Refusal :=
  .next (blockRuns 8 (fuseUpdate out.val) s)

/-- THERMAL_SHUTDOWN (R271). -/
def execThermalShutdown (out : Fin 64) (s : State) : Host.Outcome State Fault Refusal := .next (powered (State.thermalShutdown out.val) s)

/-- RETRY (R270). -/
def execRetry (out : Fin 64) (s : State) : Host.Outcome State Fault Refusal := .next (blockRuns 8 (State.retry out.val) s)

/-- RETRIES_RESTORE (R270). -/
def execRetriesRestore (out : Fin 64) (s : State) : Host.Outcome State Fault Refusal :=
  .next (blockRuns 8 (State.retriesRestore out.val) s)

/-- CLAMP_EVENT (R266). -/
def execClampEvent (out : Fin 64) (uj : Nat) (inPwmOff : Bool) (s : State) : Host.Outcome State Fault Refusal :=
  .next (powered (State.clampEvent out.val uj inPwmOff) s)

/-- CLAMP_HOT_END (R266). -/
def execClampHotEnd (out : Fin 64) (s : State) : Host.Outcome State Fault Refusal := .next (blockRuns 8 (State.clampHotEnd out.val) s)

/-- PULL_IN_END (R267). -/
def execPullInEnd (out : Fin 64) (s : State) : Host.Outcome State Fault Refusal := .next (blockRuns 8 (State.pullInEnd out.val) s)

/-- VAUX_CONDITION (R256). -/
def execVauxCondition (bank : Fin 8) (mv : Int) (s : State) : Host.Outcome State Fault Refusal :=
  .next (powered (State.vauxCondition bank.val mv) s)

/-- VAUX_CONDITION_RELEASE (R256). -/
def execVauxConditionRelease (bank : Fin 8) (mv : Int) (s : State) : Host.Outcome State Fault Refusal :=
  .next (powered (vauxRelease bank.val mv) s)

/-- BANK_SHED (R257). -/
def execBankShed (bank : Fin 8) (s : State) : Host.Outcome State Fault Refusal :=
  .next (blockRuns 8 (State.bankShed bank.val) s)

/-- GND_LOSS (R274). -/
def execGndLoss (bank : Fin 8) (s : State) : Host.Outcome State Fault Refusal := .next (powered (State.gndLoss bank.val) s)

/-- GND_RESTORED (R274). -/
def execGndRestored (bank : Fin 8) (s : State) : Host.Outcome State Fault Refusal := .next (powered (State.gndRestored bank.val) s)

end Sys2Proof.Machine
end

