-- ==== Sys2Proof/Machine/FieldRows.lean ====
section
/-! DEFINITION. The meanings of the rows of the contactless interface (17_contactless.md). -/
namespace Sys2Proof.Machine
open State

/-- FIELD_ENTRY (R435). -/
def execFieldEntry (strength : Nat) (s : State) : Host.Outcome State Fault Refusal := .next (State.fieldEntry strength s)

/-- FIELD_LOSS (R442). -/
def execFieldLoss (s : State) : Host.Outcome State Fault Refusal := .next (State.fieldLoss s)

/-- HARVEST_SWITCH (R436). -/
def execHarvestSwitch (strength : Nat) (s : State) : Host.Outcome State Fault Refusal := .next (harvest strength s)

/-- SELECT (R439). -/
def execSelect (cla : Nat) (ins : Nat) (p1 : Nat) (p2 : Nat) (aid : List Byte) (s : State) : Host.Outcome State Fault Refusal :=
  .next (fieldSelect cla ins p1 p2 aid s)

/-- FIELD_READ (R439). -/
def execFieldRead (off : Nat) (le : Nat) (s : State) : Host.Outcome State Fault Refusal := .next (State.fieldRead off le s)

/-- FIELD_WRITE (R439). -/
def execFieldWrite (off : Nat) (bytes : List Byte) (s : State) : Host.Outcome State Fault Refusal := .next (State.fieldWrite off bytes s)

/-- GET_CHALLENGE (R439). -/
def execGetChallenge (p1 : Nat) (p2 : Nat) (le : Nat) (s : State) : Host.Outcome State Fault Refusal :=
  .next (fieldChallenge p1 p2 le s)

/-- AUTHENTICATE (R441). -/
def execAuthenticate (p1 : Nat) (p2 : Nat) (len : Nat) (sigValid : Bool) (s : State) : Host.Outcome State Fault Refusal :=
  .next (fieldAuth p1 p2 len sigValid s)

/-- FIELD_LOGOUT (R442). -/
def execFieldLogout (p1 : Nat) (p2 : Nat) (len : Nat) (s : State) : Host.Outcome State Fault Refusal := .next (fieldOut p1 p2 len s)

/-- S_DESELECT (R442). -/
def execSDeselect (s : State) : Host.Outcome State Fault Refusal := .next (fieldDeselect s)

/-- FIELD_SESSION_TIMEOUT (R442). -/
def execFieldSessionTimeout (s : State) : Host.Outcome State Fault Refusal := .next (fieldTimeout s)

/-- S_WTX (R440). -/
def execSWtx (waitUs : Nat) (s : State) : Host.Outcome State Fault Refusal := .next (fieldWtx waitUs s)

/-- STATUS_REFRESH (R438). -/
def execStatusRefresh (s : State) : Host.Outcome State Fault Refusal := .next (State.statusRefresh s)

/-- READ_PAGE (R443). -/
def execReadPage (m : Master) (guard : BitVec 16) (arg : BitVec 40) (s : State) : Host.Outcome State Fault Refusal :=
  .next (command m Reg.ctlCmd guard.toNat 1 arg.toNat false s)

/-- WRITE_PAGE (R443). -/
def execWritePage (m : Master) (guard : BitVec 16) (arg : BitVec 40) (s : State) : Host.Outcome State Fault Refusal :=
  .next (command m Reg.ctlCmd guard.toNat 2 arg.toNat false s)

/-- PAGE_OPERATION_BEGIN (R444). -/
def execPageOperationBegin (dt : Nat) (reach : Bool) (s : State) : Host.Outcome State Fault Refusal :=
  .next (blockRuns 15 (memBegin dt reach) s)

/-- PAGE_OPERATION_TIMEOUT (R444). -/
def execPageOperationTimeout (m : Master) (s : State) : Host.Outcome State Fault Refusal := .next (memTimeout m s)

/-- READER_POLL (R446). -/
def execReaderPoll (c : Fin 2) (cards : List Card) (collisions : Nat) (antFault : Bool) (s : State) : Host.Outcome State Fault Refusal :=
  .next (inService (State.readerPoll c.val cards collisions antFault) s)

/-- CARD_AUTH (R448). -/
def execCardAuth (c : Fin 2) (result : CardVerdict) (s : State) : Host.Outcome State Fault Refusal :=
  .next (inService (State.cardAuth c.val result) s)

/-- ANTENNA_RETRY (R450). -/
def execAntennaRetry (c : Fin 2) (ok : Bool) (s : State) : Host.Outcome State Fault Refusal :=
  .next (inService (State.antennaRetry c.val ok) s)

end Sys2Proof.Machine
end

