-- ==== Sys2Proof/Machine/GranaryRows.lean ====
section
/-! DEFINITION. The meanings of the rows of the granary journal and of supply loss (13_granary_journal.md, 14_supply_loss_gleaning.md). -/
namespace Sys2Proof.Machine
open State

/-- RECORD_SUBMIT (R342). -/
def execRecordSubmit (rec : Submission) (s : State) : Host.Outcome State Fault Refusal := .next (powered (submit rec) s)

/-- STAGING_DRAIN (R342). -/
def execStagingDrain (s : State) : Host.Outcome State Fault Refusal := .next (powered State.stagingDrain s)

/-- JNL_ACK_WRITE (R355). -/
def execJnlAckWrite (m : Master) (guard : BitVec 16) (value : BitVec 48) (s : State) : Host.Outcome State Fault Refusal :=
  .next (writeNow m Reg.jnlAck guard.toNat value.toNat false s)

/-- JOURNAL_WINDOW_READ (R352). -/
def execJournalWindowRead (m : Master) (off : Nat) (len : Nat) (s : State) : Host.Outcome State Fault Refusal :=
  .next (windowRead m off len s)

/-- RECORDS_PENDING (R354). -/
def execRecordsPending (s : State) : Host.Outcome State Fault Refusal := .next (awake State.recordsPending s)

/-- SCRUB_PASS (R361). -/
def execScrubPass (corrected : Nat) (s : State) : Host.Outcome State Fault Refusal := .next (awake (State.scrubPass corrected) s)

/-- GRANARY_UNCORRECTABLE (R361). -/
def execGranaryUncorrectable (s : State) : Host.Outcome State Fault Refusal := .next (awake State.granaryUncorrectable s)

/-- GRANARY_MISMATCH (R362). -/
def execGranaryMismatch (s : State) : Host.Outcome State Fault Refusal := .next (awake granaryMismatchActs s)

/-- RING_REBUILT (R358). -/
def execRingRebuilt (p : Partition) (s : State) : Host.Outcome State Fault Refusal :=
  .next (inService (fun t => updNext (State.ringRebuilt (partIx p) t)) s)

/-- PFW_ASSERTED (R369). -/
def execPfwAsserted (us : Nat) (s : State) : Host.Outcome State Fault Refusal := .next (awake (State.pfwAsserted us) s)

/-- PRE_CAPTURE_CANCELLED (R369). -/
def execPreCaptureCancelled (s : State) : Host.Outcome State Fault Refusal := .next (awake State.preCaptureCancelled s)

/-- SUPPLY_LOSS_COMMIT (R370). -/
def execSupplyLossCommit (mv : Nat) (s : State) : Host.Outcome State Fault Refusal := .next (State.supplyLossCommit mv s)

/-- CAPTURE (R374). -/
def execCapture (s : State) : Host.Outcome State Fault Refusal := .next (rollingCapture s)

/-- GLEANING_END (R375). -/
def execGleaningEnd (complete : Bool) (meanMw : BitVec 16) (s : State) : Host.Outcome State Fault Refusal :=
  .next (State.gleaningEnd complete meanMw.toNat s)

end Sys2Proof.Machine
end

