-- ==== Sys2Proof/Machine/KeysRows.lean ====
section
/-! DEFINITION. The meanings of the rows of the key store (16_key_store.md). -/
namespace Sys2Proof.Machine
open State

/-- KEY_OPERATION (R419). -/
def execKeyOperation (req : KeyReq) (s : State) : Host.Outcome State Fault Refusal := .next (blockRuns 14 (State.keyOperation req) s)

/-- KEY_OPERATION_COMPLETE (R420). -/
def execKeyOperationComplete (id : Nat) (s : State) : Host.Outcome State Fault Refusal := .next (blockRuns 14 (keyComplete id) s)

/-- IMPORT (R416). -/
def execImport (m : Master) (guard : BitVec 16) (arg : BitVec 40) (ok : Bool) (s : State) : Host.Outcome State Fault Refusal :=
  .next (command m Reg.keyCmd guard.toNat 1 arg.toNat ok s)

/-- GENERATE (R431). -/
def execGenerate (m : Master) (guard : BitVec 16) (arg : BitVec 40) (s : State) : Host.Outcome State Fault Refusal :=
  .next (command m Reg.keyCmd guard.toNat 2 arg.toNat false s)

/-- INVALIDATE (R417). -/
def execInvalidate (m : Master) (guard : BitVec 16) (arg : BitVec 40) (s : State) : Host.Outcome State Fault Refusal :=
  .next (command m Reg.keyCmd guard.toNat 3 arg.toNat false s)

/-- ERASE (R417). -/
def execErase (m : Master) (guard : BitVec 16) (arg : BitVec 40) (s : State) : Host.Outcome State Fault Refusal :=
  .next (command m Reg.keyCmd guard.toNat 4 arg.toNat false s)

/-- EXPORT_PUBLIC (R431). -/
def execExportPublic (m : Master) (guard : BitVec 16) (arg : BitVec 40) (s : State) : Host.Outcome State Fault Refusal :=
  .next (command m Reg.keyCmd guard.toNat 5 arg.toNat false s)

/-- EXPORT_CSR (R431). -/
def execExportCsr (m : Master) (guard : BitVec 16) (arg : BitVec 40) (s : State) : Host.Outcome State Fault Refusal :=
  .next (command m Reg.keyCmd guard.toNat 6 arg.toNat false s)

/-- ZEROISE (R427). -/
def execZeroise (m : Master) (guard : BitVec 16) (arg : BitVec 40) (s : State) : Host.Outcome State Fault Refusal :=
  .next (command m Reg.keyCmd guard.toNat 7 arg.toNat false s)

/-- RECOMMISSION (R427). -/
def execRecommission (m : Master) (guard : BitVec 16) (arg : BitVec 40) (s : State) : Host.Outcome State Fault Refusal :=
  .next (command m Reg.keyCmd guard.toNat 8 arg.toNat false s)

/-- TAMPER_EVENT (R423). -/
def execTamperEvent (src : Nat) (s : State) : Host.Outcome State Fault Refusal := .next (State.tamperEvent src s)

/-- VBAT_LOW (R422). -/
def execVbatLow (mv : Nat) (s : State) : Host.Outcome State Fault Refusal := .next (vbatMeasured mv s)

end Sys2Proof.Machine
end

