-- ==== Sys2Proof/Machine/MainsRows.lean ====
section
/-! DEFINITION. The meanings of the rows of the mains link (20_mains_link.md). -/
namespace Sys2Proof.Machine
open State

/-- ZERO_CROSSING (R489). -/
def execZeroCrossing (z : Fin 3) (dt : Nat) (s : State) : Host.Outcome State Fault Refusal := .next (State.zeroCrossing z.val dt s)

/-- ZX_LOST (R489). -/
def execZxLost (z : Fin 3) (s : State) : Host.Outcome State Fault Refusal := .next (linkEvent (zxLoss z.val) s)

/-- BEACON_DUE (R497). -/
def execBeaconDue (port : Fin 2) (s : State) : Host.Outcome State Fault Refusal := .next (linkEvent (State.beaconDue port.val) s)

/-- BEACON_ABANDONED (R497). -/
def execBeaconAbandoned (port : Fin 2) (s : State) : Host.Outcome State Fault Refusal :=
  .next (linkEvent (State.beaconAbandoned port.val) s)

/-- LINK_FRAME_RECEIVED (R491). -/
def execLinkFrameReceived (port : Fin 2) (frame : List Byte) (dt : Nat) (attenDb : Nat) (s : State) : Host.Outcome State Fault Refusal :=
  .next (linkEvent (linkIn port.val frame dt attenDb) s)

/-- LINK_ACK (R492). -/
def execLinkAck (port : Fin 2) (lseq : Nat) (allOk : Bool) (s : State) : Host.Outcome State Fault Refusal :=
  .next (linkEvent (State.linkAck port.val lseq allOk) s)

/-- BACKOFF_END (R494). -/
def execBackoffEnd (port : Fin 2) (s : State) : Host.Outcome State Fault Refusal := .next (linkEvent (State.backoffEnd port.val) s)

/-- NOISE_TIMEOUT (R495). -/
def execNoiseTimeout (port : Fin 2) (s : State) : Host.Outcome State Fault Refusal := .next (linkEvent (State.noiseTimeout port.val) s)

/-- DRIVER_OFF (R490). -/
def execDriverOff (port : Fin 2) (s : State) : Host.Outcome State Fault Refusal := .next (linkEvent (State.driverOff port.val) s)

/-- DRIVER_RETRY (R490). -/
def execDriverRetry (port : Fin 2) (s : State) : Host.Outcome State Fault Refusal := .next (linkEvent (State.driverRetry port.val) s)

/-- NEIGHBOUR_AGE_OUT (R500). -/
def execNeighbourAgeOut (port : Fin 2) (e : Fin 16) (s : State) : Host.Outcome State Fault Refusal :=
  .next (linkEvent (nbAge port.val e.val) s)

/-- PORT_RESTART (R504). -/
def execPortRestart (m : Master) (guard : BitVec 16) (arg : BitVec 40) (s : State) : Host.Outcome State Fault Refusal :=
  .next (command m Reg.mlkCmd guard.toNat 1 arg.toNat false s)

/-- CLEAR_TABLE (R504). -/
def execClearTable (m : Master) (guard : BitVec 16) (arg : BitVec 40) (s : State) : Host.Outcome State Fault Refusal :=
  .next (command m Reg.mlkCmd guard.toNat 2 arg.toNat false s)

end Sys2Proof.Machine
end

