-- ==== Sys2Proof/Machine/MeterRows.lean ====
section
/-! DEFINITION. The meanings of the rows of the sensor inputs, the energy registers, the hub balance and the site limit (04 to 06). -/
namespace Sys2Proof.Machine
open State

/-- MAIN_SAMPLE (R101). -/
def execMainSample (freq : Fin 5) (n : Nat) (dt : Nat) (samples : List InSample) (s : State) : Host.Outcome State Fault Refusal :=
  .next (powered (mainSamples freq.val n dt samples) s)

/-- FAST_SAMPLE (R103). -/
def execFastSample (input : Fin 256) (m : Nat) (dt : Nat) (line : Nat) (s : State) : Host.Outcome State Fault Refusal :=
  .next (powered (State.fastSample input.val m dt line) s)

/-- PEAK_CLOSE (R189). -/
def execPeakClose (input : Fin 256) (s : State) : Host.Outcome State Fault Refusal := .next (blockRuns 5 (State.peakClose input.val) s)

/-- OVERCURRENT_DECISION (R292). -/
def execOvercurrentDecision (input : Fin 256) (s : State) : Host.Outcome State Fault Refusal :=
  .next (blockRuns 4 (State.overcurrentDecision input.val) s)

/-- INPUT_STUCK (R114). -/
def execInputStuck (input : Fin 256) (run : Nat) (s : State) : Host.Outcome State Fault Refusal := .next (blockRuns 4 (State.inputStuck input.val run) s)

/-- STUCK_CLEARED (R114). -/
def execStuckCleared (input : Fin 256) (s : State) : Host.Outcome State Fault Refusal :=
  .next (blockRuns 4 (State.stuckCleared input.val) s)

/-- MANCHESTER_LOCK (R100). -/
def execManchesterLock (input : Fin 256) (dly : Nat) (s : State) : Host.Outcome State Fault Refusal :=
  .next (blockRuns 4 (State.manchesterLock input.val dly) s)

/-- LOCK_LOST (R115). -/
def execLockLost (input : Fin 256) (s : State) : Host.Outcome State Fault Refusal := .next (blockRuns 4 (State.lockLost input.val) s)

/-- MCLK_FAULT (R116). -/
def execMclkFault (k : Fin 16) (s : State) : Host.Outcome State Fault Refusal := .next (blockRuns 4 (State.mclkFault k.val) s)

/-- MCLK_FAULT_CLEAR (R116). -/
def execMclkFaultClear (k : Fin 16) (s : State) : Host.Outcome State Fault Refusal := .next (blockRuns 4 (mclkClear k.val) s)

/-- QUALIFICATION_COMPLETE (R117). -/
def execQualificationComplete (input : Fin 256) (s : State) : Host.Outcome State Fault Refusal :=
  .next (blockRuns 4 (State.qualificationComplete input.val) s)

/-- INPUT_READMIT (R118). -/
def execInputReadmit (m : Master) (guard : BitVec 16) (arg : BitVec 40) (s : State) : Host.Outcome State Fault Refusal :=
  .next (command m Reg.metWinCmd guard.toNat 1 arg.toNat false s)

/-- INPUT_TAKE_OUT (R118). -/
def execInputTakeOut (m : Master) (guard : BitVec 16) (arg : BitVec 40) (s : State) : Host.Outcome State Fault Refusal :=
  .next (command m Reg.metWinCmd guard.toNat 2 arg.toNat false s)

/-- SEALED_WRITE (R110). -/
def execSealedWrite (m : Master) (addr : Nat) (guard : BitVec 16) (value : BitVec 48) (s : State) : Host.Outcome State Fault Refusal :=
  .next (writeNow m addr guard.toNat value.toNat false s)

/-- SETTLEMENT_END (R137). -/
def execSettlementEnd (mp : Fin 64) (s : State) : Host.Outcome State Fault Refusal := .next (powered (State.settlementEnd mp.val) s)

/-- ANALYSIS_WINDOW_END (R140). -/
def execAnalysisWindowEnd (mp : Fin 64) (s : State) : Host.Outcome State Fault Refusal :=
  .next (powered (fun t => excessWindow mp.val (analysisEnd mp.val t)) s)

/-- MET_PUBLICATION (R145). -/
def execMetPublication (s : State) : Host.Outcome State Fault Refusal := .next (powered (fun t => State.metPublication (readingsDue t)) s)

/-- PERIODIC_SAVE (R146). -/
def execPeriodicSave (s : State) : Host.Outcome State Fault Refusal := .next (powered State.periodicSave s)

/-- SAVE_COMPLETE (R146). -/
def execSaveComplete (ok : Bool) (s : State) : Host.Outcome State Fault Refusal := .next (powered (State.saveComplete ok) s)

/-- SAVE_NOW (R153). -/
def execSaveNow (m : Master) (guard : BitVec 16) (arg : BitVec 40) (s : State) : Host.Outcome State Fault Refusal :=
  .next (command m Reg.metCtlCmd guard.toNat 3 arg.toNat false s)

/-- SEAL_OPEN (R149). -/
def execSealOpen (m : Master) (guard : BitVec 16) (arg : BitVec 40) (s : State) : Host.Outcome State Fault Refusal :=
  .next (command m Reg.metCtlCmd guard.toNat 1 arg.toNat false s)

/-- SEAL_CLOSE (R151). -/
def execSealClose (m : Master) (guard : BitVec 16) (arg : BitVec 40) (s : State) : Host.Outcome State Fault Refusal :=
  .next (command m Reg.metCtlCmd guard.toNat 2 arg.toNat false s)

/-- MET_CORE_LOCKSTEP (R147). -/
def execMetCoreLockstep (s : State) : Host.Outcome State Fault Refusal := .next (awake coreTrial s)

/-- CORE_RESTORED (R147). -/
def execCoreRestored (s : State) : Host.Outcome State Fault Refusal := .next (powered State.coreRestored s)

/-- BALANCE_TICK (R159). -/
def execBalanceTick (s : State) : Host.Outcome State Fault Refusal := .next (blockRuns 4 (fun t => balSentOut t (State.balanceTick t)) s)

/-- BALANCE_FRAME_RECEIVED (R165). -/
def execBalanceFrameReceived (frame : List Byte) (s : State) : Host.Outcome State Fault Refusal :=
  .next (blockRuns 4 (balanceFrame frame) s)

/-- BALANCE_PERIOD_END (R161). -/
def execBalancePeriodEnd (g : Fin 8) (s : State) : Host.Outcome State Fault Refusal := .next (blockRuns 4 (State.balancePeriodEnd g.val) s)

/-- ALLOCATION_INSTANT (R167). -/
def execAllocationInstant (s : State) : Host.Outcome State Fault Refusal := .next (powered State.allocationInstant s)

/-- GRANT_COMMIT (R169). -/
def execGrantCommit (s : State) : Host.Outcome State Fault Refusal := .next (powered State.grantCommit s)

/-- HARD_PAUSE_RESUME (R172). -/
def execHardPauseResume (s : State) : Host.Outcome State Fault Refusal := .next (powered State.hardPauseResume s)

/-- SET_LIMIT (R173). -/
def execSetLimit (m : Master) (guard : BitVec 16) (arg : BitVec 40) (s : State) : Host.Outcome State Fault Refusal :=
  .next (command m Reg.alcCmd guard.toNat 1 arg.toNat false s)

/-- RELEASE_PAUSE (R172). -/
def execReleasePause (m : Master) (guard : BitVec 16) (arg : BitVec 40) (s : State) : Host.Outcome State Fault Refusal :=
  .next (command m Reg.alcCmd guard.toNat 2 arg.toNat false s)

/-- HALF_CYCLE_END (R183). -/
def execHalfCycleEnd (mp : Fin 64) (s : State) : Host.Outcome State Fault Refusal :=
  .next (blockRuns 5 (State.halfCycleEnd mp.val) s)

/-- PQ_INVALID_TIMEOUT (R188). -/
def execPqInvalidTimeout (mp : Fin 64) (s : State) : Host.Outcome State Fault Refusal :=
  .next (blockRuns 5 (State.pqInvalidTimeout mp.val) s)

/-- FAST_PATH_DOWN_TIMEOUT (R291). -/
def execFastPathDownTimeout (s : State) : Host.Outcome State Fault Refusal := .next (powered fastPathTimeout s)

end Sys2Proof.Machine
end

