-- ==== Sys2Proof/Machine/NetworkRows.lean ====
section
/-! DEFINITION. The meanings of the rows of the Ethernet ports (19_ethernet_ports.md). -/
namespace Sys2Proof.Machine
open State

/-- FRAME_RECEIVED (R477). -/
def execFrameReceived (port : Fin 4) (f : EthFrame) (s : State) : Host.Outcome State Fault Refusal :=
  .next (State.frameReceived port.val f s)

/-- PORT_LINK_UP (R480). -/
def execPortLinkUp (port : Fin 4) (speed : Fin 3) (full : Bool) (s : State) : Host.Outcome State Fault Refusal :=
  .next (awake (State.portLinkUp port.val speed.val full) s)

/-- PORT_LINK_DOWN (R481). -/
def execPortLinkDown (port : Fin 4) (s : State) : Host.Outcome State Fault Refusal := .next (State.portLinkDown port.val s)

/-- PORT_QUALIFIED (R480). -/
def execPortQualified (port : Fin 4) (s : State) : Host.Outcome State Fault Refusal := .next (State.portQualified port.val s)

/-- PORT_ENABLE (R480). -/
def execPortEnable (m : Master) (port : Fin 4) (guard : BitVec 16) (value : BitVec 48) (s : State) : Host.Outcome State Fault Refusal :=
  .next (writeNow m (Reg.netPCfg port.val) guard.toNat value.toNat false s)

/-- ADDRESS_AGE_OUT (R477). -/
def execAddressAgeOut (mac : Nat) (s : State) : Host.Outcome State Fault Refusal := .next (awake (macAge mac) s)

/-- PORT_READMIT (R480). -/
def execPortReadmit (m : Master) (guard : BitVec 16) (arg : BitVec 40) (s : State) : Host.Outcome State Fault Refusal :=
  .next (command m Reg.netCmd guard.toNat 1 arg.toNat false s)

/-- PORT_TAKE_OUT (R480). -/
def execPortTakeOut (m : Master) (guard : BitVec 16) (arg : BitVec 40) (s : State) : Host.Outcome State Fault Refusal :=
  .next (command m Reg.netCmd guard.toNat 2 arg.toNat false s)

/-- FLUSH_TABLE (R485). -/
def execFlushTable (m : Master) (guard : BitVec 16) (arg : BitVec 40) (s : State) : Host.Outcome State Fault Refusal :=
  .next (command m Reg.netCmd guard.toNat 3 arg.toNat false s)

end Sys2Proof.Machine
end

