-- ==== Sys2Proof/Machine/PageRows.lean ====
section
/-! DEFINITION. The meanings of the masters' rows of the register interface (02_register_pages.md), and the commands SYS_CMD takes. -/
namespace Sys2Proof.Machine
open State

/-- COMMAND_CYCLE_BOUNDARY (R44). -/
def execCommandCycleBoundary (idle : Nat) (s : State) : Host.Outcome State Fault Refusal := .next (boundary idle s)

/-- REGISTER_WRITE (R47). -/
def execRegisterWrite (m : Master) (addr : Nat) (width : Nat) (guard : BitVec 16) (value : BitVec 48) (s : State) : Host.Outcome State Fault Refusal :=
  .next (busWrite m addr width guard.toNat value.toNat s)

/-- TOKEN_WRITE (R41). -/
def execTokenWrite (m : Master) (addr : Nat) (guard : BitVec 16) (token : BitVec 48) (s : State) : Host.Outcome State Fault Refusal :=
  .next (post (slotWrite m addr guard.toNat token.toNat false) s)

/-- PAGE_EVT_FORCE (R27). -/
def execPageEvtForce (m : Master) (page : Nat) (guard : BitVec 16) (value : BitVec 48) (s : State) : Host.Outcome State Fault Refusal :=
  .next (post (slotWrite m (forceAddr page) guard.toNat value.toNat false) s)

/-- PAGE_READ_STALL (R36). -/
def execPageReadStall (m : Master) (addr : Nat) (len : Nat) (dt : Nat) (s : State) : Host.Outcome State Fault Refusal :=
  .next (awake (readRequest m addr len dt) s)

/-- TAKE (R48). -/
def execTake (m : Master) (guard : BitVec 16) (s : State) : Host.Outcome State Fault Refusal :=
  .next (writeNow m Reg.sysSnapCtl guard.toNat 1 false s)

/-- RELEASE (R50). -/
def execRelease (m : Master) (guard : BitVec 16) (s : State) : Host.Outcome State Fault Refusal :=
  .next (writeNow m Reg.sysSnapCtl guard.toNat 2 false s)

/-- CLEAR_SET (R52). -/
def execClearSet (m : Master) (guard : BitVec 16) (s : State) : Host.Outcome State Fault Refusal :=
  .next (writeNow m Reg.sysSnapCtl guard.toNat 4 false s)

/-- SNAPSHOT_EXPIRED (R50). -/
def execSnapshotExpired (m : Master) (s : State) : Host.Outcome State Fault Refusal := .next (snapExpired m s)

/-- LOGIN (R61). -/
def execLogin (m : Master) (guard : BitVec 16) (role : Fin 8) (sigValid : Bool) (s : State) : Host.Outcome State Fault Refusal :=
  .next (writeNow m Reg.sysAuthReq guard.toNat (role.val + 2 ^ 8) sigValid s)

/-- LOGOUT (R61). -/
def execLogout (m : Master) (guard : BitVec 16) (s : State) : Host.Outcome State Fault Refusal :=
  .next (writeNow m Reg.sysAuthReq guard.toNat (2 ^ 9) false s)

/-- ROLE_SESSION_EXPIRY (R60). -/
def execRoleSessionExpiry (m : Master) (s : State) : Host.Outcome State Fault Refusal := .next (roleExpiry m s)

/-- LOGIN_BLOCK_END (R60). -/
def execLoginBlockEnd (o : Origin) (s : State) : Host.Outcome State Fault Refusal := .next (loginBlockEnd (originIx o) s)

/-- DEVICE_RESET (R529). -/
def execDeviceReset (m : Master) (guard : BitVec 16) (arg : BitVec 40) (s : State) : Host.Outcome State Fault Refusal :=
  .next (command m Reg.sysCmd guard.toNat 1 arg.toNat false s)

/-- PARTITION_RESET (R512). -/
def execPartitionReset (m : Master) (guard : BitVec 16) (arg : BitVec 40) (s : State) : Host.Outcome State Fault Refusal :=
  .next (command m Reg.sysCmd guard.toNat 2 arg.toNat false s)

/-- HOST_LINK_DOWN (R54). -/
def execHostLinkDown (s : State) : Host.Outcome State Fault Refusal := .next (powered (linkLoss 3) s)

/-- MGMT_READ_FRAME (R55). -/
def execMgmtReadFrame (frame : List Byte) (dt : Nat) (clocked : Bool) (s : State) : Host.Outcome State Fault Refusal := .next (frameRead frame dt clocked s)

/-- MGMT_WRITE_FRAME (R55). -/
def execMgmtWriteFrame (frame : List Byte) (clocked : Bool) (s : State) : Host.Outcome State Fault Refusal := .next (frameWrite frame clocked s)

end Sys2Proof.Machine
end

