-- ==== Sys2Proof/Machine/QueueRows.lean ====
section
/-! DEFINITION. The meanings of the rows of the queues (12_queues.md). -/
namespace Sys2Proof.Machine
open State

/-- PUSH (R324). -/
def execPush (q : Fin 64) (bytes : List Byte) (s : State) : Host.Outcome State Fault Refusal := .next (awake (quePush q.val bytes false) s)

/-- PUSH_END (R324). -/
def execPushEnd (q : Fin 64) (bytes : List Byte) (s : State) : Host.Outcome State Fault Refusal :=
  .next (awake (quePush q.val bytes true) s)

/-- POP (R328). -/
def execPop (q : Fin 64) (units : Nat) (s : State) : Host.Outcome State Fault Refusal := .next (awake (quePop q.val units) s)

/-- POP_STALL_END (R329). -/
def execPopStallEnd (q : Fin 64) (s : State) : Host.Outcome State Fault Refusal := .next (awake (State.popStallEnd q.val) s)

/-- FLUSH (R332). -/
def execFlush (m : Master) (q : Fin 64) (guard : BitVec 16) (arg : BitVec 40) (s : State) : Host.Outcome State Fault Refusal :=
  .next (command m (Reg.queCmd q.val) guard.toNat 1 arg.toNat false s)

/-- MAX_RESET (R337). -/
def execMaxReset (m : Master) (q : Fin 64) (guard : BitVec 16) (arg : BitVec 40) (s : State) : Host.Outcome State Fault Refusal :=
  .next (command m (Reg.queCmd q.val) guard.toNat 2 arg.toNat false s)

/-- QUEUE_ENABLE (R321). -/
def execQueueEnable (m : Master) (q : Fin 64) (guard : BitVec 16) (value : BitVec 48) (s : State) : Host.Outcome State Fault Refusal :=
  .next (writeNow m (Reg.queCfg q.val) guard.toNat value.toNat false s)

/-- IRQ_AGE_EXPIRY (R334). -/
def execIrqAgeExpiry (q : Fin 64) (s : State) : Host.Outcome State Fault Refusal := .next (awake (irqAge q.val) s)

end Sys2Proof.Machine
end

