-- ==== Sys2Proof/Machine/SafetyRows.lean ====
section
/-! DEFINITION. The meanings of the rows of the safety functions (11_safety_functions.md). -/
namespace Sys2Proof.Machine
open State

/-- TRIP_IN_CHANGE (R288). -/
def execTripInChange (k : Fin 16) (high : Bool) (s : State) : Host.Outcome State Fault Refusal :=
  .next (powered (State.tripInChange k.val high) s)

/-- TRIP_FILTER_EXPIRY (R288). -/
def execTripFilterExpiry (k : Fin 16) (s : State) : Host.Outcome State Fault Refusal := .next (powered (tripFilter k.val) s)

/-- CHATTER (R289). -/
def execChatter (k : Fin 16) (s : State) : Host.Outcome State Fault Refusal := .next (powered (State.chatter k.val) s)

/-- CHATTER_END (R289). -/
def execChatterEnd (k : Fin 16) (s : State) : Host.Outcome State Fault Refusal := .next (powered (State.chatterEnd k.val) s)

/-- TRIP_OUT_HOLD_END (R290). -/
def execTripOutHoldEnd (j : Fin 8) (s : State) : Host.Outcome State Fault Refusal := .next (powered (State.tripOutHoldEnd j.val) s)

/-- CHANNEL_EXCHANGE (R285). -/
def execChannelExchange (verdictsDiffer : Bool) (s : State) : Host.Outcome State Fault Refusal :=
  .next (powered (State.channelExchange verdictsDiffer) s)

/-- DISAGREE (R285). -/
def execDisagree (s : State) : Host.Outcome State Fault Refusal := .next (powered (chanTrial State.disagree) s)

/-- CHANNEL_LOSS (R285). -/
def execChannelLoss (c : Channel) (osc : Bool) (s : State) : Host.Outcome State Fault Refusal :=
  .next (powered (chanTrial (State.channelLoss (channelIx c) osc)) s)

/-- SAFETY_FEED_RECORD (R291). -/
def execSafetyFeedRecord (seq : Nat) (s : State) : Host.Outcome State Fault Refusal := .next (powered (State.feedRecord seq) s)

/-- FEED_LOST (R291). -/
def execFeedLost (s : State) : Host.Outcome State Fault Refusal := .next (powered State.feedLost s)

/-- RESIDUAL_CURRENT_TRIP (R294). -/
def execResidualCurrentTrip (stall : Fin 32) (dc : Bool) (s : State) : Host.Outcome State Fault Refusal :=
  .next (powered (residualTrip stall.val dc) s)

/-- CLOSE_REQUEST (R295). -/
def execCloseRequest (p : Partition) (stall : Fin 32) (causeSeq : Nat) (s : State) : Host.Outcome State Fault Refusal :=
  .next (powered (State.closeRequest p stall.val causeSeq) s)

/-- OPEN_REQUEST (R297). -/
def execOpenRequest (p : Partition) (stall : Fin 32) (kind : OpenKind) (causeSeq : Nat) (s : State) : Host.Outcome State Fault Refusal :=
  .next (powered (State.openRequest p stall.val kind causeSeq) s)

/-- FB_CHANGE (R296). -/
def execFbChange (fb : Fin 64) (open_ : Bool) (s : State) : Host.Outcome State Fault Refusal :=
  .next (powered (State.fbChange fb.val open_) s)

/-- FB_CLOSE_TIMEOUT (R296). -/
def execFbCloseTimeout (stall : Fin 32) (s : State) : Host.Outcome State Fault Refusal :=
  .next (powered (State.fbCloseTimeout stall.val) s)

/-- FB_OPEN_TIMEOUT (R296). -/
def execFbOpenTimeout (stall : Fin 32) (s : State) : Host.Outcome State Fault Refusal := .next (powered (State.fbOpenTimeout stall.val) s)

/-- DRIVE_FAULT (R296). -/
def execDriveFault (out : Fin 64) (s : State) : Host.Outcome State Fault Refusal := .next (powered (State.driveFault out.val) s)

/-- DARK_PULSE_DUE (R298). -/
def execDarkPulseDue (out : Fin 64) (s : State) : Host.Outcome State Fault Refusal := .next (powered (pulseDue out.val) s)

/-- DARK_PULSE_RETRY (R299). -/
def execDarkPulseRetry (out : Fin 64) (s : State) : Host.Outcome State Fault Refusal := .next (powered (pulseRetry out.val) s)

/-- DARK_PULSE_END (R300). -/
def execDarkPulseEnd (out : Fin 64) (passed : Bool) (s : State) : Host.Outcome State Fault Refusal :=
  .next (powered (pulseEnd out.val passed) s)

/-- PROOF_TEST (R301). -/
def execProofTest (stall : Fin 32) (s : State) : Host.Outcome State Fault Refusal := .next (powered (State.proofTest stall.val) s)

/-- PROOF_OVERDUE (R302). -/
def execProofOverdue (stall : Fin 32) (s : State) : Host.Outcome State Fault Refusal := .next (powered (State.proofOverdue stall.val) s)

/-- SAFETY_RELEASE (R305). -/
def execSafetyRelease (target : Option Nat) (s : State) : Host.Outcome State Fault Refusal :=
  .next (powered (State.safetyRelease target) s)

/-- SAFETY_SET_ACTIVATE (R311). -/
def execSafetySetActivate (m : Master) (guard : BitVec 16) (arg : BitVec 40) (s : State) : Host.Outcome State Fault Refusal :=
  .next (command m Reg.safCmd guard.toNat 1 arg.toNat false s)

/-- DISCARD (R311). -/
def execDiscard (m : Master) (guard : BitVec 16) (arg : BitVec 40) (s : State) : Host.Outcome State Fault Refusal :=
  .next (command m Reg.safCmd guard.toNat 2 arg.toNat false s)

/-- ACK_TRIP (R288). -/
def execAckTrip (m : Master) (guard : BitVec 16) (arg : BitVec 40) (s : State) : Host.Outcome State Fault Refusal :=
  .next (command m Reg.safCmd guard.toNat 3 arg.toNat false s)

/-- PROOF_NOW (R301). -/
def execProofNow (m : Master) (guard : BitVec 16) (arg : BitVec 40) (s : State) : Host.Outcome State Fault Refusal :=
  .next (command m Reg.safCmd guard.toNat 4 arg.toNat false s)

/-- RELEASE_OUT (R300). -/
def execReleaseOut (m : Master) (guard : BitVec 16) (arg : BitVec 40) (s : State) : Host.Outcome State Fault Refusal :=
  .next (command m Reg.safCmd guard.toNat 5 arg.toNat false s)

/-- SAFETY_LINK_TRANSMIT (R307). -/
def execSafetyLinkTransmit (same : Bool) (s : State) : Host.Outcome State Fault Refusal :=
  .next (powered (fun t => slSentOut t (slTransmit same t)) s)

/-- SAFETY_LINK_COPY (R308). -/
def execSafetyLinkCopy (port : Fin 4) (frame : List Byte) (s : State) : Host.Outcome State Fault Refusal :=
  .next (powered (fun t => if t.portUp port.val then slCopy port.val frame t else t) s)

/-- PAIR_TIMEOUT (R308). -/
def execPairTimeout (peer : Fin 4) (s : State) : Host.Outcome State Fault Refusal := .next (powered (slPairTimeout peer.val) s)

/-- SAFETY_LINK_WATCHDOG (R310). -/
def execSafetyLinkWatchdog (peer : Fin 4) (path : Option Nat) (s : State) : Host.Outcome State Fault Refusal :=
  .next (powered (slWatchdog peer.val path) s)

end Sys2Proof.Machine
end

