-- ==== Sys2Proof/Machine/ServiceRows.lean ====
section
/-! DEFINITION. The meanings of the rows of faults and service, and of supplies, clocks and reset (21 and 22). -/
namespace Sys2Proof.Machine
open State

/-- PARTITION_RESTART_STAGE (R511). -/
def execPartitionRestartStage (p : Partition) (s : State) : Host.Outcome State Fault Refusal :=
  .next (inService (fun t => updNext (partStage (partIx p) t)) s)

/-- READMIT_PARTITION (R511). -/
def execReadmitPartition (m : Master) (guard : BitVec 16) (arg : BitVec 40) (s : State) : Host.Outcome State Fault Refusal :=
  .next (command m Reg.fltCmd guard.toNat 1 arg.toNat false s)

/-- PARTITIONS_UNAVAILABLE (R513). -/
def execPartitionsUnavailable (s : State) : Host.Outcome State Fault Refusal := .next (awake State.partitionsUnavailable s)

/-- POWER_ON (R526). -/
def execPowerOn (rtc : Option Nat) (lost : List Nat) (s : State) : Host.Outcome State Fault Refusal := .next (State.powerOn rtc lost s)

/-- RAIL_OUT (R523). -/
def execRailOut (rail : Fin 16) (s : State) : Host.Outcome State Fault Refusal := .next (State.railOut rail.val s)

/-- BROWN_OUT (R523). -/
def execBrownOut (rail : Fin 16) (s : State) : Host.Outcome State Fault Refusal := .next (State.brownOut rail.val s)

/-- REFCLK_LOST (R525). -/
def execRefclkLost (s : State) : Host.Outcome State Fault Refusal := .next (refclkLoss s)

/-- REFCLK_RETURN (R525). -/
def execRefclkReturn (s : State) : Host.Outcome State Fault Refusal := .next (State.refclkReturn s)

/-- RESET_N_ASSERT (R529). -/
def execResetNAssert (s : State) : Host.Outcome State Fault Refusal := .next (State.resetNAssert s)

/-- RESET_N_RELEASE (R529). -/
def execResetNRelease (s : State) : Host.Outcome State Fault Refusal := .next (State.resetNRelease s)

/-- BLOCK_RESTART (R536). -/
def execBlockRestart (m : Master) (guard : BitVec 16) (arg : BitVec 40) (s : State) : Host.Outcome State Fault Refusal :=
  .next (command m Reg.pwrCmd guard.toNat 1 arg.toNat false s)

/-- BLOCK_SELF_RESTART (R528). -/
def execBlockSelfRestart (code : Nat) (s : State) : Host.Outcome State Fault Refusal := .next (selfRestart code s)

/-- HOST_LINK_UP (R527). -/
def execHostLinkUp (gen : Nat) (lanes : Nat) (s : State) : Host.Outcome State Fault Refusal := .next (linkUp gen lanes s)

/-- RAIL_RECOVERED (R523). -/
def execRailRecovered (rail : Fin 16) (s : State) : Host.Outcome State Fault Refusal := .next (powered (State.railRecovered rail.val) s)

/-- VIN_LOW (R521). -/
def execVinLow (mv : Nat) (s : State) : Host.Outcome State Fault Refusal := .next (vinMeasured mv s)

/-- VIN_HIGH (R521). -/
def execVinHigh (mv : Nat) (s : State) : Host.Outcome State Fault Refusal := .next (vinMeasured mv s)

/-- RTC_LOST (R533). -/
def execRtcLost (s : State) : Host.Outcome State Fault Refusal := .next (State.rtcLost s)

/-- RESTART_COMPLETE (R31). -/
def execRestartComplete (code : Nat) (s : State) : Host.Outcome State Fault Refusal := .next (powered (State.restartComplete code) s)

end Sys2Proof.Machine
end

