-- ==== Sys2Proof/Machine/StallRows.lean ====
section
/-! DEFINITION. The meanings of the rows of the stalls and the pilot (08_stalls_and_pilot.md). -/
namespace Sys2Proof.Machine
open State

/-- PILOT_CLASS_ACCEPTED (R209). -/
def execPilotClassAccepted (stall : Fin 32) (hi : Int) (lo : Int) (s : State) : Host.Outcome State Fault Refusal :=
  .next (blockRuns 6 (pilotAccepted stall.val hi lo) s)

/-- PILOT_INVALID_TIMEOUT (R209). -/
def execPilotInvalidTimeout (stall : Fin 32) (s : State) : Host.Outcome State Fault Refusal :=
  .next (blockRuns 6 (pilotInvalid stall.val) s)

/-- DIODE_FAULT (R210). -/
def execDiodeFault (stall : Fin 32) (lo : Int) (s : State) : Host.Outcome State Fault Refusal :=
  .next (blockRuns 6 (State.diodeFault stall.val lo) s)

/-- PP_CODE_ACCEPTED (R213). -/
def execPpCodeAccepted (stall : Fin 32) (ohms : Nat) (s : State) : Host.Outcome State Fault Refusal :=
  .next (blockRuns 6 (ppAccepted stall.val ohms) s)

/-- PP_TIMEOUT (R212). -/
def execPpTimeout (stall : Fin 32) (s : State) : Host.Outcome State Fault Refusal := .next (blockRuns 6 (State.ppTimeout stall.val) s)

/-- OVERDRAW (R211). -/
def execOverdraw (stall : Fin 32) (s : State) : Host.Outcome State Fault Refusal := .next (blockRuns 6 (State.overdraw stall.val) s)

/-- PILOT_B_WITHDRAW (R209). -/
def execPilotBWithdraw (stall : Fin 32) (s : State) : Host.Outcome State Fault Refusal :=
  .next (blockRuns 6 (State.pilotBWithdraw stall.val) s)

/-- PILOT_DUTY_APPLY (R205). -/
def execPilotDutyApply (stall : Fin 32) (s : State) : Host.Outcome State Fault Refusal :=
  .next (blockRuns 6 (State.pilotDutyApply stall.val) s)

/-- STALL_ENABLE (R200). -/
def execStallEnable (m : Master) (stall : Fin 32) (guard : BitVec 16) (value : BitVec 48) (s : State) : Host.Outcome State Fault Refusal :=
  .next (writeNow m (Reg.stlCfg stall.val) guard.toNat value.toNat false s)

/-- STALL_ON (R216). -/
def execStallOn (m : Master) (stall : Fin 32) (guard : BitVec 16) (arg : BitVec 40) (s : State) : Host.Outcome State Fault Refusal :=
  .next (command m (Reg.stlCmd stall.val) guard.toNat 1 arg.toNat false s)

/-- STALL_LIMIT (R216). -/
def execStallLimit (m : Master) (stall : Fin 32) (guard : BitVec 16) (arg : BitVec 40) (s : State) : Host.Outcome State Fault Refusal :=
  .next (command m (Reg.stlCmd stall.val) guard.toNat 2 arg.toNat false s)

/-- STALL_PAUSE (R216). -/
def execStallPause (m : Master) (stall : Fin 32) (guard : BitVec 16) (arg : BitVec 40) (s : State) : Host.Outcome State Fault Refusal :=
  .next (command m (Reg.stlCmd stall.val) guard.toNat 3 arg.toNat false s)

/-- STALL_OFF (R216). -/
def execStallOff (m : Master) (stall : Fin 32) (guard : BitVec 16) (arg : BitVec 40) (s : State) : Host.Outcome State Fault Refusal :=
  .next (command m (Reg.stlCmd stall.val) guard.toNat 4 arg.toNat false s)

/-- STALL_TAKE_OUT (R216). -/
def execStallTakeOut (m : Master) (stall : Fin 32) (guard : BitVec 16) (arg : BitVec 40) (s : State) : Host.Outcome State Fault Refusal :=
  .next (command m (Reg.stlCmd stall.val) guard.toNat 5 arg.toNat false s)

/-- STALL_RETURN (R216). -/
def execStallReturn (m : Master) (stall : Fin 32) (guard : BitVec 16) (arg : BitVec 40) (s : State) : Host.Outcome State Fault Refusal :=
  .next (command m (Reg.stlCmd stall.val) guard.toNat 6 arg.toNat false s)

/-- IDLE_PROOF (R199). -/
def execIdleProof (stall : Fin 32) (held : Bool) (s : State) : Host.Outcome State Fault Refusal :=
  .next (blockRuns 6 (fun t => State.idleProof stall.val held (gleanProof stall.val held t)) s)

/-- SAFE_CAUSE_CLEARED (R202). -/
def execSafeCauseCleared (stall : Fin 32) (s : State) : Host.Outcome State Fault Refusal :=
  .next (blockRuns 6 (State.safeCauseCleared stall.val) s)

/-- INS_SW_TOGGLE (R214). -/
def execInsSwToggle (stall : Fin 32) (s : State) : Host.Outcome State Fault Refusal := .next (blockRuns 6 (insToggle stall.val) s)

/-- CABLE_CHECK_STARTED (R214). -/
def execCableCheckStarted (p : Partition) (stall : Fin 32) (s : State) : Host.Outcome State Fault Refusal :=
  .next (blockRuns 6 (cableCheckStart p stall.val) s)

/-- CABLE_CHECK_ENDED (R214). -/
def execCableCheckEnded (p : Partition) (stall : Fin 32) (s : State) : Host.Outcome State Fault Refusal :=
  .next (blockRuns 6 (cableCheckEnd p stall.val) s)

/-- POWER_DELIVERY_STARTED (R240). -/
def execPowerDeliveryStarted (p : Partition) (stall : Fin 32) (s : State) : Host.Outcome State Fault Refusal :=
  .next (blockRuns 6 (powerDelivery p stall.val) s)

end Sys2Proof.Machine
end

