-- ==== Sys2Proof/Machine/TimeRows.lean ====
section
/-! DEFINITION. The meanings of the rows of the time base (03_time_base.md); billing time follows corrected time (R401). -/
namespace Sys2Proof.Machine
open State

/-- TIM_NOW_CAPTURE (R70). -/
def execTimNowCapture (m : Master) (dt : Nat) (s : State) : Host.Outcome State Fault Refusal := .next (nowCapture m dt s)

/-- STEP_TO (R73). -/
def execStepTo (m : Master) (guard : BitVec 16) (arg : BitVec 40) (s : State) : Host.Outcome State Fault Refusal :=
  .next (command m Reg.timCmd guard.toNat 1 arg.toNat false s)

/-- STEP_BY (R73). -/
def execStepBy (m : Master) (guard : BitVec 16) (arg : BitVec 40) (s : State) : Host.Outcome State Fault Refusal :=
  .next (command m Reg.timCmd guard.toNat 2 arg.toNat false s)

/-- SLEW_BY (R73). -/
def execSlewBy (m : Master) (guard : BitVec 16) (arg : BitVec 40) (s : State) : Host.Outcome State Fault Refusal :=
  .next (command m Reg.timCmd guard.toNat 3 arg.toNat false s)

/-- SLEW_END (R73). -/
def execSlewEnd (s : State) : Host.Outcome State Fault Refusal := .next (clockEvent slewEnd s)

/-- SET_RATE (R73). -/
def execSetRate (m : Master) (guard : BitVec 16) (arg : BitVec 40) (s : State) : Host.Outcome State Fault Refusal :=
  .next (command m Reg.timCmd guard.toNat 4 arg.toNat false s)

/-- SET_UTC (R73). -/
def execSetUtc (m : Master) (guard : BitVec 16) (arg : BitVec 40) (s : State) : Host.Outcome State Fault Refusal :=
  .next (command m Reg.timCmd guard.toNat 5 arg.toNat false s)

/-- TIM_MODE_WRITE (R79). -/
def execTimModeWrite (m : Master) (guard : BitVec 16) (value : BitVec 48) (s : State) : Host.Outcome State Fault Refusal :=
  .next (writeNow m Reg.timMode guard.toNat value.toNat false s)

/-- SERVO_UPDATE (R80). -/
def execServoUpdate (s : State) : Host.Outcome State Fault Refusal := .next (clockEvent (State.servoUpdate) s)

/-- LEAP_SECOND (R77). -/
def execLeapSecond (s : State) : Host.Outcome State Fault Refusal := .next (clockEvent leapSecond s)

/-- VALID_LEFT_EXPIRY (R81). -/
def execValidLeftExpiry (s : State) : Host.Outcome State Fault Refusal := .next (clockEvent validExpiry s)

/-- ANNOUNCE_TIMEOUT (R79). -/
def execAnnounceTimeout (s : State) : Host.Outcome State Fault Refusal :=
  .next (clockEvent State.announceTimeout s)

/-- PPS_IN_MISSING (R79). -/
def execPpsInMissing (s : State) : Host.Outcome State Fault Refusal := .next (clockEvent ppsMissing s)

/-- PTP_MESSAGE_RECEIVED (R85). -/
def execPtpMessageReceived (port : Fin 4) (msg : PtpMsg) (s : State) : Host.Outcome State Fault Refusal :=
  .next (clockEvent (fun t => if t.portUp port.val then ptpSent (ptpMessage port.val msg { t with ptpOut := [] }) else t) s)

/-- SYNC_TRANSMIT (R85). -/
def execSyncTransmit (port : Fin 4) (s : State) : Host.Outcome State Fault Refusal :=
  .next (powered (fun t => ptpSent (State.syncTransmit port.val { t with ptpOut := [] })) s)

/-- ANNOUNCE_EVALUATION (R88). -/
def execAnnounceEvaluation (s : State) : Host.Outcome State Fault Refusal :=
  .next (clockEvent (fun t => ptpSent (State.announceEvaluation { t with ptpOut := [] })) s)

/-- TRANSPARENT_CLOCK_FORWARD (R86). -/
def execTransparentClockForward (ingress : Nat) (egress : Nat) (msg : PtpMsg) (residence : Nat) (s : State) : Host.Outcome State Fault Refusal :=
  .next (awake (fun t => if (ingress = 4 ∨ t.portUp ingress) ∧ (egress = 4 ∨ t.portUp egress) then tcForward ingress egress msg residence t else t) s)

/-- PPS_IN_EDGE (R89). -/
def execPpsInEdge (dt : Nat) (falling : Bool) (s : State) : Host.Outcome State Fault Refusal := .next (clockEvent (ppsIn dt falling) s)

/-- PPS_OUT_PULSE (R90). -/
def execPpsOutPulse (dt : Nat) (high : Bool) (s : State) : Host.Outcome State Fault Refusal := .next (powered (ppsPulse dt high) s)

/-- RATE_SAVE (R94). -/
def execRateSave (s : State) : Host.Outcome State Fault Refusal := .next (powered State.rateSave s)

/-- RTC_WRITE (R94). -/
def execRtcWrite (s : State) : Host.Outcome State Fault Refusal := .next (powered State.rtcWrite s)

/-- ANNOUNCE_TRANSMIT (R85). -/
def execAnnounceTransmit (port : Fin 4) (s : State) : Host.Outcome State Fault Refusal :=
  .next (powered (fun t => ptpSent (State.announceTransmit port.val { t with ptpOut := [] })) s)

end Sys2Proof.Machine
end

