-- ==== Sys2Proof/Machine/UpdateRows.lean ====
section
/-! DEFINITION. The meanings of the rows of firmware update (18_firmware_update.md). -/
namespace Sys2Proof.Machine
open State

/-- OFFER (R461). -/
def execOffer (m : Master) (guard : BitVec 16) (arg : BitVec 40) (s : State) : Host.Outcome State Fault Refusal :=
  .next (command m Reg.updCmd guard.toNat 1 arg.toNat false s)

/-- FETCH (R459). -/
def execFetch (m : Master) (guard : BitVec 16) (arg : BitVec 40) (s : State) : Host.Outcome State Fault Refusal :=
  .next (command m Reg.updCmd guard.toNat 2 arg.toNat false s)

/-- FETCH_COMPLETE (R459). -/
def execFetchComplete (kind : Fin 6) (fetched : Nat) (ok : Bool) (bale : Bale) (s : State) : Host.Outcome State Fault Refusal :=
  .next (awake (State.fetchComplete (kindOf kind) fetched ok bale) s)

/-- PIECE_FRAME (R460). -/
def execPieceFrame (frame : List Byte) (s : State) : Host.Outcome State Fault Refusal := .next (powered (State.pieceFrame frame) s)

/-- BALE_STORED (R458). -/
def execBaleStored (kind : Fin 6) (bale : Bale) (s : State) : Host.Outcome State Fault Refusal :=
  .next (awake (baleArrives (kindOf kind) bale) s)

/-- WITHDRAW (R462). -/
def execWithdraw (m : Master) (guard : BitVec 16) (arg : BitVec 40) (s : State) : Host.Outcome State Fault Refusal :=
  .next (command m Reg.updCmd guard.toNat 3 arg.toNat false s)

/-- VERIFY_COMPLETE (R463). -/
def execVerifyComplete (kind : Fin 6) (ok : Bool) (s : State) : Host.Outcome State Fault Refusal :=
  .next (blockRuns 16 (State.verifyComplete (kindOf kind) ok) s)

/-- UPD_ACTIVATE (R465). -/
def execUpdActivate (m : Master) (guard : BitVec 16) (arg : BitVec 40) (ok : Bool) (s : State) : Host.Outcome State Fault Refusal :=
  .next (command m Reg.updCmd guard.toNat 4 arg.toNat ok s)

/-- ACTIVATION_COMPLETE (R465). -/
def execActivationComplete (kind : Fin 6) (res : LoadResult) (s : State) : Host.Outcome State Fault Refusal :=
  .next (blockRuns 16 (State.activationComplete (kindOf kind) res) s)

/-- DEFERRED_CONFIG_APPLY (R467). -/
def execDeferredConfigApply (stall : Fin 32) (s : State) : Host.Outcome State Fault Refusal :=
  .next (blockRuns 16 (deferredApply stall.val) s)

/-- CONFIRM (R462). -/
def execConfirm (m : Master) (guard : BitVec 16) (arg : BitVec 40) (s : State) : Host.Outcome State Fault Refusal :=
  .next (command m Reg.updCmd guard.toNat 5 arg.toNat false s)

/-- TRIAL_EXPIRY (R462). -/
def execTrialExpiry (kind : Fin 6) (s : State) : Host.Outcome State Fault Refusal :=
  .next (blockRuns 16 (State.trialExpiry (kindOf kind)) s)

/-- REVERT (R469). -/
def execRevert (m : Master) (guard : BitVec 16) (arg : BitVec 40) (s : State) : Host.Outcome State Fault Refusal :=
  .next (command m Reg.updCmd guard.toNat 6 arg.toNat false s)

/-- TRIAL_FAILURE (R469). -/
def execTrialFailure (kind : Fin 6) (s : State) : Host.Outcome State Fault Refusal :=
  .next (blockRuns 16 (State.trialFailure (kindOf kind)) s)

/-- MIRRORING_COMPLETE (R462). -/
def execMirroringComplete (kind : Fin 6) (s : State) : Host.Outcome State Fault Refusal :=
  .next (blockRuns 16 (State.mirroringComplete (kindOf kind)) s)

/-- OFFER_EXPIRY (R462). -/
def execOfferExpiry (kind : Fin 6) (s : State) : Host.Outcome State Fault Refusal :=
  .next (blockRuns 16 (State.offerExpiry (kindOf kind)) s)

/-- NOR_FAULT (R470). -/
def execNorFault (chip : Fin 2) (s : State) : Host.Outcome State Fault Refusal := .next (awake (State.norFault chip.val) s)

/-- RELAY_MESSAGE (R471). -/
def execRelayMessage (port : Fin 2) (msg : List Byte) (s : State) : Host.Outcome State Fault Refusal :=
  .next (blockRuns 16 (State.relayMessage port.val msg) s)

/-- RELAY_OFFER_REPEAT (R471). -/
def execRelayOfferRepeat (kind : Fin 6) (down : Fin 4) (s : State) : Host.Outcome State Fault Refusal :=
  .next (blockRuns 16 (relayRepeat (kindOf kind) down.val) s)

end Sys2Proof.Machine
end

