-- ==== Sys2Proof/Machine/VehicleRows.lean ====
section
/-! DEFINITION. The meanings of the rows of the vehicle sessions and the partitions that lead them (09_vehicle_sessions.md). -/
namespace Sys2Proof.Machine
open State

/-- CM_SLAC_PARAM_REQ (R228). -/
def execCmSlacParamReq (stall : Fin 32) (runId : Nat) (atten : Nat) (s : State) : Host.Outcome State Fault Refusal :=
  .next (engine (slacParam stall.val runId atten) s)

/-- CM_SLAC_MATCH_REQ (R229). -/
def execCmSlacMatchReq (stall : Fin 32) (runId : Nat) (evccid : Nat) (s : State) : Host.Outcome State Fault Refusal :=
  .next (engine (slacMatch stall.val runId evccid) s)

/-- SLAC_TIMEOUT (R228). -/
def execSlacTimeout (stall : Fin 32) (s : State) : Host.Outcome State Fault Refusal := .next (engine (State.slacTimeout stall.val) s)

/-- SDP_REQUEST (R230). -/
def execSdpRequest (stall : Fin 32) (tls : Bool) (s : State) : Host.Outcome State Fault Refusal :=
  .next (engine (State.sdpRequest stall.val tls) s)

/-- SDP_TIMEOUT (R232). -/
def execSdpTimeout (stall : Fin 32) (s : State) : Host.Outcome State Fault Refusal := .next (engine (State.sdpTimeout stall.val) s)

/-- SUPPORTED_APP_PROTOCOL_REQ (R230). -/
def execSupportedAppProtocolReq (stall : Fin 32) (offers : List (Nat × Nat)) (s : State) : Host.Outcome State Fault Refusal :=
  .next (engine (appProtocol stall.val offers) s)

/-- TLS_RECORD_RECEIVED (R234). -/
def execTlsRecordReceived (stall : Fin 32) (r : TlsRec) (s : State) : Host.Outcome State Fault Refusal :=
  .next (engine (tlsRecord stall.val r) s)

/-- V2G_REQUEST (R233). -/
def execV2gRequest (stall : Fin 32) (req : V2gReq) (s : State) : Host.Outcome State Fault Refusal :=
  .next (engine (State.v2gRequest stall.val req) s)

/-- PARTITION_RESPONSE (R233). -/
def execPartitionResponse (p : Partition) (stall : Fin 32) (r : PartRes) (s : State) : Host.Outcome State Fault Refusal :=
  .next (engine (State.partitionResponse p stall.val r) s)

/-- CERT_VERIFY_COMPLETE (R242). -/
def execCertVerifyComplete (stall : Fin 32) (chain : CertChain) (s : State) : Host.Outcome State Fault Refusal :=
  .next (engine (certVerified stall.val chain) s)

/-- AUTH_DEADLINE (R244). -/
def execAuthDeadline (stall : Fin 32) (s : State) : Host.Outcome State Fault Refusal := .next (engine (State.authDeadline stall.val) s)

/-- STOP_GRACE_EXPIRY (R241). -/
def execStopGraceExpiry (stall : Fin 32) (s : State) : Host.Outcome State Fault Refusal := .next (engine (stopGrace stall.val) s)

/-- TCP_TIMEOUT (R247). -/
def execTcpTimeout (stall : Fin 32) (retx : Nat) (s : State) : Host.Outcome State Fault Refusal :=
  .next (engine (State.tcpTimeout stall.val retx) s)

/-- SEQUENCE_TIMEOUT (R247). -/
def execSequenceTimeout (stall : Fin 32) (s : State) : Host.Outcome State Fault Refusal := .next (engine (seqTimeout stall.val) s)

/-- MODEM_FRONT_END_FAULT (R247). -/
def execModemFrontEndFault (stall : Fin 32) (s : State) : Host.Outcome State Fault Refusal := .next (awake (modemFault stall.val) s)

/-- ENGINE_RELOAD (R248). -/
def execEngineReload (stall : Fin 32) (ok : Bool) (s : State) : Host.Outcome State Fault Refusal :=
  .next (awake (State.engineReload stall.val ok) s)

/-- SUPERVISION_SIGNAL (R245). -/
def execSupervisionSignal (p : Partition) (s : State) : Host.Outcome State Fault Refusal := .next (awake (supervision (partIx p)) s)

/-- PARTITION_FAILURE (R245). -/
def execPartitionFailure (p : Partition) (cause : Nat) (s : State) : Host.Outcome State Fault Refusal :=
  .next (awake (partTrial (partIx p) cause) s)

/-- TAKEOVER (R245). -/
def execTakeover (stall : Fin 32) (s : State) : Host.Outcome State Fault Refusal :=
  .next (awake (fun t => updNext (takeOver stall.val t)) s)

/-- PILOT_FRONT_END_FAULT (R507). -/
def execPilotFrontEndFault (stall : Fin 32) (pp : Bool) (s : State) : Host.Outcome State Fault Refusal :=
  .next (awake (pilotFault stall.val pp) s)

/-- FRONT_END_HEALTHY (R202). -/
def execFrontEndHealthy (stall : Fin 32) (s : State) : Host.Outcome State Fault Refusal := .next (awake (frontEndsHealthy stall.val) s)

end Sys2Proof.Machine
end

