-- ==== Sys2Proof/Machine/Dispatch.lean ====
section
/-! DEFINITION. The dispatcher: one arm per row of spec/opcode_table.json, each one call of the row's meaning. -/
namespace Sys2Proof.Machine

/-- The effect of a command on everything but the queue. -/
def exec (i : Instr) (s : State) : Host.Outcome State Fault Refusal :=
  match i with
  | .commandCycleBoundary idle => Sys2Proof.Machine.execCommandCycleBoundary idle s
  | .registerWrite m addr width guard value => Sys2Proof.Machine.execRegisterWrite m addr width guard value s
  | .tokenWrite m addr guard token => Sys2Proof.Machine.execTokenWrite m addr guard token s
  | .pageEvtForce m page guard value => Sys2Proof.Machine.execPageEvtForce m page guard value s
  | .pageReadStall m addr len dt => Sys2Proof.Machine.execPageReadStall m addr len dt s
  | .take m guard => Sys2Proof.Machine.execTake m guard s
  | .release_ m guard => Sys2Proof.Machine.execRelease m guard s
  | .clearSet m guard => Sys2Proof.Machine.execClearSet m guard s
  | .snapshotExpired m => Sys2Proof.Machine.execSnapshotExpired m s
  | .login m guard role sigValid => Sys2Proof.Machine.execLogin m guard role sigValid s
  | .logout m guard => Sys2Proof.Machine.execLogout m guard s
  | .roleSessionExpiry m => Sys2Proof.Machine.execRoleSessionExpiry m s
  | .loginBlockEnd o => Sys2Proof.Machine.execLoginBlockEnd o s
  | .deviceReset m guard arg => Sys2Proof.Machine.execDeviceReset m guard arg s
  | .partitionReset m guard arg => Sys2Proof.Machine.execPartitionReset m guard arg s
  | .mgmtReadFrame frame dt clocked => Sys2Proof.Machine.execMgmtReadFrame frame dt clocked s
  | .mgmtWriteFrame frame clocked => Sys2Proof.Machine.execMgmtWriteFrame frame clocked s
  | .timNowCapture m dt => Sys2Proof.Machine.execTimNowCapture m dt s
  | .stepTo m guard arg => Sys2Proof.Machine.execStepTo m guard arg s
  | .stepBy m guard arg => Sys2Proof.Machine.execStepBy m guard arg s
  | .slewBy m guard arg => Sys2Proof.Machine.execSlewBy m guard arg s
  | .setRate m guard arg => Sys2Proof.Machine.execSetRate m guard arg s
  | .setUtc m guard arg => Sys2Proof.Machine.execSetUtc m guard arg s
  | .timModeWrite m guard value => Sys2Proof.Machine.execTimModeWrite m guard value s
  | .servoUpdate => Sys2Proof.Machine.execServoUpdate s
  | .announceTimeout => Sys2Proof.Machine.execAnnounceTimeout s
  | .ptpMessageReceived port msg => Sys2Proof.Machine.execPtpMessageReceived port msg s
  | .announceEvaluation => Sys2Proof.Machine.execAnnounceEvaluation s
  | .transparentClockForward ingress egress msg residence => Sys2Proof.Machine.execTransparentClockForward ingress egress msg residence s
  | .ppsInEdge dt falling => Sys2Proof.Machine.execPpsInEdge dt falling s
  | .ppsOutPulse dt high => Sys2Proof.Machine.execPpsOutPulse dt high s
  | .mainSample freq n dt samples => Sys2Proof.Machine.execMainSample freq n dt samples s
  | .fastSample input m dt line => Sys2Proof.Machine.execFastSample input m dt line s
  | .peakClose input => Sys2Proof.Machine.execPeakClose input s
  | .overcurrentDecision input => Sys2Proof.Machine.execOvercurrentDecision input s
  | .inputStuck input run => Sys2Proof.Machine.execInputStuck input run s
  | .stuckCleared input => Sys2Proof.Machine.execStuckCleared input s
  | .manchesterLock input dly => Sys2Proof.Machine.execManchesterLock input dly s
  | .lockLost input => Sys2Proof.Machine.execLockLost input s
  | .mclkFault k => Sys2Proof.Machine.execMclkFault k s
  | .mclkFaultClear k => Sys2Proof.Machine.execMclkFaultClear k s
  | .qualificationComplete input => Sys2Proof.Machine.execQualificationComplete input s
  | .inputReadmit m guard arg => Sys2Proof.Machine.execInputReadmit m guard arg s
  | .inputTakeOut m guard arg => Sys2Proof.Machine.execInputTakeOut m guard arg s
  | .sealedWrite m addr guard value => Sys2Proof.Machine.execSealedWrite m addr guard value s
  | .settlementEnd mp => Sys2Proof.Machine.execSettlementEnd mp s
  | .analysisWindowEnd mp => Sys2Proof.Machine.execAnalysisWindowEnd mp s
  | .saveComplete ok => Sys2Proof.Machine.execSaveComplete ok s
  | .saveNow m guard arg => Sys2Proof.Machine.execSaveNow m guard arg s
  | .sealOpen m guard arg => Sys2Proof.Machine.execSealOpen m guard arg s
  | .sealClose m guard arg => Sys2Proof.Machine.execSealClose m guard arg s
  | .balanceFrameReceived frame => Sys2Proof.Machine.execBalanceFrameReceived frame s
  | .balancePeriodEnd g => Sys2Proof.Machine.execBalancePeriodEnd g s
  | .setLimit m guard arg => Sys2Proof.Machine.execSetLimit m guard arg s
  | .releasePause m guard arg => Sys2Proof.Machine.execReleasePause m guard arg s
  | .halfCycleEnd mp => Sys2Proof.Machine.execHalfCycleEnd mp s
  | .pqInvalidTimeout mp => Sys2Proof.Machine.execPqInvalidTimeout mp s
  | .pilotClassAccepted stall hi lo => Sys2Proof.Machine.execPilotClassAccepted stall hi lo s
  | .pilotInvalidTimeout stall => Sys2Proof.Machine.execPilotInvalidTimeout stall s
  | .diodeFault stall lo => Sys2Proof.Machine.execDiodeFault stall lo s
  | .ppCodeAccepted stall ohms => Sys2Proof.Machine.execPpCodeAccepted stall ohms s
  | .ppTimeout stall => Sys2Proof.Machine.execPpTimeout stall s
  | .overdraw stall => Sys2Proof.Machine.execOverdraw stall s
  | .pilotBWithdraw stall => Sys2Proof.Machine.execPilotBWithdraw stall s
  | .pilotDutyApply stall => Sys2Proof.Machine.execPilotDutyApply stall s
  | .stallEnable m stall guard value => Sys2Proof.Machine.execStallEnable m stall guard value s
  | .stallOn m stall guard arg => Sys2Proof.Machine.execStallOn m stall guard arg s
  | .stallLimit m stall guard arg => Sys2Proof.Machine.execStallLimit m stall guard arg s
  | .stallPause m stall guard arg => Sys2Proof.Machine.execStallPause m stall guard arg s
  | .stallOff m stall guard arg => Sys2Proof.Machine.execStallOff m stall guard arg s
  | .stallTakeOut m stall guard arg => Sys2Proof.Machine.execStallTakeOut m stall guard arg s
  | .stallReturn m stall guard arg => Sys2Proof.Machine.execStallReturn m stall guard arg s
  | .idleProof stall held => Sys2Proof.Machine.execIdleProof stall held s
  | .safeCauseCleared stall => Sys2Proof.Machine.execSafeCauseCleared stall s
  | .insSwToggle stall => Sys2Proof.Machine.execInsSwToggle stall s
  | .cableCheckStarted p stall => Sys2Proof.Machine.execCableCheckStarted p stall s
  | .cableCheckEnded p stall => Sys2Proof.Machine.execCableCheckEnded p stall s
  | .powerDeliveryStarted p stall => Sys2Proof.Machine.execPowerDeliveryStarted p stall s
  | .cmSlacParamReq stall runId atten => Sys2Proof.Machine.execCmSlacParamReq stall runId atten s
  | .cmSlacMatchReq stall runId evccid => Sys2Proof.Machine.execCmSlacMatchReq stall runId evccid s
  | .slacTimeout stall => Sys2Proof.Machine.execSlacTimeout stall s
  | .sdpRequest stall tls => Sys2Proof.Machine.execSdpRequest stall tls s
  | .sdpTimeout stall => Sys2Proof.Machine.execSdpTimeout stall s
  | .supportedAppProtocolReq stall offers => Sys2Proof.Machine.execSupportedAppProtocolReq stall offers s
  | .tlsRecordReceived stall r => Sys2Proof.Machine.execTlsRecordReceived stall r s
  | .v2gRequest stall req => Sys2Proof.Machine.execV2gRequest stall req s
  | .partitionResponse p stall r => Sys2Proof.Machine.execPartitionResponse p stall r s
  | .certVerifyComplete stall chain => Sys2Proof.Machine.execCertVerifyComplete stall chain s
  | .authDeadline stall => Sys2Proof.Machine.execAuthDeadline stall s
  | .stopGraceExpiry stall => Sys2Proof.Machine.execStopGraceExpiry stall s
  | .tcpTimeout stall retx => Sys2Proof.Machine.execTcpTimeout stall retx s
  | .sequenceTimeout stall => Sys2Proof.Machine.execSequenceTimeout stall s
  | .modemFrontEndFault stall => Sys2Proof.Machine.execModemFrontEndFault stall s
  | .engineReload stall ok => Sys2Proof.Machine.execEngineReload stall ok s
  | .supervisionSignal p => Sys2Proof.Machine.execSupervisionSignal p s
  | .partitionFailure p cause => Sys2Proof.Machine.execPartitionFailure p cause s
  | .takeover stall => Sys2Proof.Machine.execTakeover stall s
  | .drvOn m bank guard arg => Sys2Proof.Machine.execDrvOn m bank guard arg s
  | .drvOff m bank guard arg => Sys2Proof.Machine.execDrvOff m bank guard arg s
  | .reenable m bank guard arg => Sys2Proof.Machine.execReenable m bank guard arg s
  | .currentMeasurement out ma mv10 tj => Sys2Proof.Machine.execCurrentMeasurement out ma mv10 tj s
  | .shortCircuit out us => Sys2Proof.Machine.execShortCircuit out us s
  | .openLoad out => Sys2Proof.Machine.execOpenLoad out s
  | .fuseModelUpdate out => Sys2Proof.Machine.execFuseModelUpdate out s
  | .thermalShutdown out => Sys2Proof.Machine.execThermalShutdown out s
  | .retry out => Sys2Proof.Machine.execRetry out s
  | .retriesRestore out => Sys2Proof.Machine.execRetriesRestore out s
  | .clampEvent out uj inPwmOff => Sys2Proof.Machine.execClampEvent out uj inPwmOff s
  | .clampHotEnd out => Sys2Proof.Machine.execClampHotEnd out s
  | .pullInEnd out => Sys2Proof.Machine.execPullInEnd out s
  | .vauxCondition bank mv => Sys2Proof.Machine.execVauxCondition bank mv s
  | .vauxConditionRelease bank mv => Sys2Proof.Machine.execVauxConditionRelease bank mv s
  | .bankShed bank => Sys2Proof.Machine.execBankShed bank s
  | .gndLoss bank => Sys2Proof.Machine.execGndLoss bank s
  | .gndRestored bank => Sys2Proof.Machine.execGndRestored bank s
  | .tripInChange k high => Sys2Proof.Machine.execTripInChange k high s
  | .tripFilterExpiry k => Sys2Proof.Machine.execTripFilterExpiry k s
  | .chatter k => Sys2Proof.Machine.execChatter k s
  | .chatterEnd k => Sys2Proof.Machine.execChatterEnd k s
  | .tripOutHoldEnd j => Sys2Proof.Machine.execTripOutHoldEnd j s
  | .channelExchange verdictsDiffer => Sys2Proof.Machine.execChannelExchange verdictsDiffer s
  | .channelLoss c osc => Sys2Proof.Machine.execChannelLoss c osc s
  | .safetyFeedRecord seq => Sys2Proof.Machine.execSafetyFeedRecord seq s
  | .residualCurrentTrip stall dc => Sys2Proof.Machine.execResidualCurrentTrip stall dc s
  | .closeRequest p stall causeSeq => Sys2Proof.Machine.execCloseRequest p stall causeSeq s
  | .openRequest p stall kind causeSeq => Sys2Proof.Machine.execOpenRequest p stall kind causeSeq s
  | .fbChange fb open_ => Sys2Proof.Machine.execFbChange fb open_ s
  | .fbCloseTimeout stall => Sys2Proof.Machine.execFbCloseTimeout stall s
  | .fbOpenTimeout stall => Sys2Proof.Machine.execFbOpenTimeout stall s
  | .driveFault out => Sys2Proof.Machine.execDriveFault out s
  | .darkPulseDue out => Sys2Proof.Machine.execDarkPulseDue out s
  | .darkPulseRetry out => Sys2Proof.Machine.execDarkPulseRetry out s
  | .darkPulseEnd out passed => Sys2Proof.Machine.execDarkPulseEnd out passed s
  | .proofTest stall => Sys2Proof.Machine.execProofTest stall s
  | .proofOverdue stall => Sys2Proof.Machine.execProofOverdue stall s
  | .safetyRelease target => Sys2Proof.Machine.execSafetyRelease target s
  | .safetySetActivate m guard arg => Sys2Proof.Machine.execSafetySetActivate m guard arg s
  | .discard m guard arg => Sys2Proof.Machine.execDiscard m guard arg s
  | .ackTrip m guard arg => Sys2Proof.Machine.execAckTrip m guard arg s
  | .proofNow m guard arg => Sys2Proof.Machine.execProofNow m guard arg s
  | .releaseOut m guard arg => Sys2Proof.Machine.execReleaseOut m guard arg s
  | .safetyLinkTransmit same => Sys2Proof.Machine.execSafetyLinkTransmit same s
  | .safetyLinkCopy port frame => Sys2Proof.Machine.execSafetyLinkCopy port frame s
  | .pairTimeout peer => Sys2Proof.Machine.execPairTimeout peer s
  | .safetyLinkWatchdog peer path => Sys2Proof.Machine.execSafetyLinkWatchdog peer path s
  | .push q bytes => Sys2Proof.Machine.execPush q bytes s
  | .pushEnd q bytes => Sys2Proof.Machine.execPushEnd q bytes s
  | .pop q units => Sys2Proof.Machine.execPop q units s
  | .popStallEnd q => Sys2Proof.Machine.execPopStallEnd q s
  | .flush m q guard arg => Sys2Proof.Machine.execFlush m q guard arg s
  | .maxReset m q guard arg => Sys2Proof.Machine.execMaxReset m q guard arg s
  | .queueEnable m q guard value => Sys2Proof.Machine.execQueueEnable m q guard value s
  | .irqAgeExpiry q => Sys2Proof.Machine.execIrqAgeExpiry q s
  | .recordSubmit rec => Sys2Proof.Machine.execRecordSubmit rec s
  | .jnlAckWrite m guard value => Sys2Proof.Machine.execJnlAckWrite m guard value s
  | .journalWindowRead m off len => Sys2Proof.Machine.execJournalWindowRead m off len s
  | .scrubPass corrected => Sys2Proof.Machine.execScrubPass corrected s
  | .ringRebuilt p => Sys2Proof.Machine.execRingRebuilt p s
  | .supplyLossCommit mv => Sys2Proof.Machine.execSupplyLossCommit mv s
  | .gleaningEnd complete meanMw => Sys2Proof.Machine.execGleaningEnd complete meanMw s
  | .vinLow mv => Sys2Proof.Machine.execVinLow mv s
  | .demandIntervalEnd mp => Sys2Proof.Machine.execDemandIntervalEnd mp s
  | .bilBtCapture m dt => Sys2Proof.Machine.execBilBtCapture m dt s
  | .sessionClose stall => Sys2Proof.Machine.execSessionClose stall s
  | .recordRelease recNum signed_ => Sys2Proof.Machine.execRecordRelease recNum signed_ s
  | .signReading m guard arg => Sys2Proof.Machine.execSignReading m guard arg s
  | .dropPending m guard arg => Sys2Proof.Machine.execDropPending m guard arg s
  | .demandReset m guard arg => Sys2Proof.Machine.execDemandReset m guard arg s
  | .keyOperation req => Sys2Proof.Machine.execKeyOperation req s
  | .keyOperationComplete id => Sys2Proof.Machine.execKeyOperationComplete id s
  | .import_ m guard arg ok => Sys2Proof.Machine.execImport m guard arg ok s
  | .generate m guard arg => Sys2Proof.Machine.execGenerate m guard arg s
  | .invalidate m guard arg => Sys2Proof.Machine.execInvalidate m guard arg s
  | .erase m guard arg => Sys2Proof.Machine.execErase m guard arg s
  | .exportPublic m guard arg => Sys2Proof.Machine.execExportPublic m guard arg s
  | .exportCsr m guard arg => Sys2Proof.Machine.execExportCsr m guard arg s
  | .zeroise m guard arg => Sys2Proof.Machine.execZeroise m guard arg s
  | .recommission m guard arg => Sys2Proof.Machine.execRecommission m guard arg s
  | .tamperEvent src => Sys2Proof.Machine.execTamperEvent src s
  | .vbatLow mv => Sys2Proof.Machine.execVbatLow mv s
  | .fieldEntry strength => Sys2Proof.Machine.execFieldEntry strength s
  | .harvestSwitch strength => Sys2Proof.Machine.execHarvestSwitch strength s
  | .select cla ins p1 p2 aid => Sys2Proof.Machine.execSelect cla ins p1 p2 aid s
  | .fieldRead off le => Sys2Proof.Machine.execFieldRead off le s
  | .fieldWrite off bytes => Sys2Proof.Machine.execFieldWrite off bytes s
  | .authenticate p1 p2 len sigValid => Sys2Proof.Machine.execAuthenticate p1 p2 len sigValid s
  | .sWtx waitUs => Sys2Proof.Machine.execSWtx waitUs s
  | .readPage m guard arg => Sys2Proof.Machine.execReadPage m guard arg s
  | .writePage m guard arg => Sys2Proof.Machine.execWritePage m guard arg s
  | .pageOperationBegin dt reach => Sys2Proof.Machine.execPageOperationBegin dt reach s
  | .pageOperationTimeout m => Sys2Proof.Machine.execPageOperationTimeout m s
  | .readerPoll c cards collisions antFault => Sys2Proof.Machine.execReaderPoll c cards collisions antFault s
  | .cardAuth c result => Sys2Proof.Machine.execCardAuth c result s
  | .offer m guard arg => Sys2Proof.Machine.execOffer m guard arg s
  | .fetch m guard arg => Sys2Proof.Machine.execFetch m guard arg s
  | .fetchComplete kind fetched ok bale => Sys2Proof.Machine.execFetchComplete kind fetched ok bale s
  | .pieceFrame frame => Sys2Proof.Machine.execPieceFrame frame s
  | .baleStored kind bale => Sys2Proof.Machine.execBaleStored kind bale s
  | .withdraw m guard arg => Sys2Proof.Machine.execWithdraw m guard arg s
  | .verifyComplete kind ok => Sys2Proof.Machine.execVerifyComplete kind ok s
  | .updActivate m guard arg ok => Sys2Proof.Machine.execUpdActivate m guard arg ok s
  | .activationComplete kind res => Sys2Proof.Machine.execActivationComplete kind res s
  | .deferredConfigApply stall => Sys2Proof.Machine.execDeferredConfigApply stall s
  | .confirm m guard arg => Sys2Proof.Machine.execConfirm m guard arg s
  | .trialExpiry kind => Sys2Proof.Machine.execTrialExpiry kind s
  | .revert m guard arg => Sys2Proof.Machine.execRevert m guard arg s
  | .trialFailure kind => Sys2Proof.Machine.execTrialFailure kind s
  | .mirroringComplete kind => Sys2Proof.Machine.execMirroringComplete kind s
  | .offerExpiry kind => Sys2Proof.Machine.execOfferExpiry kind s
  | .relayMessage port msg => Sys2Proof.Machine.execRelayMessage port msg s
  | .relayOfferRepeat kind down => Sys2Proof.Machine.execRelayOfferRepeat kind down s
  | .frameReceived port f => Sys2Proof.Machine.execFrameReceived port f s
  | .portLinkUp port speed full => Sys2Proof.Machine.execPortLinkUp port speed full s
  | .portLinkDown port => Sys2Proof.Machine.execPortLinkDown port s
  | .portQualified port => Sys2Proof.Machine.execPortQualified port s
  | .portEnable m port guard value => Sys2Proof.Machine.execPortEnable m port guard value s
  | .portReadmit m guard arg => Sys2Proof.Machine.execPortReadmit m guard arg s
  | .portTakeOut m guard arg => Sys2Proof.Machine.execPortTakeOut m guard arg s
  | .flushTable m guard arg => Sys2Proof.Machine.execFlushTable m guard arg s
  | .zeroCrossing z dt => Sys2Proof.Machine.execZeroCrossing z dt s
  | .zxLost z => Sys2Proof.Machine.execZxLost z s
  | .beaconDue port => Sys2Proof.Machine.execBeaconDue port s
  | .beaconAbandoned port => Sys2Proof.Machine.execBeaconAbandoned port s
  | .linkFrameReceived port frame dt attenDb => Sys2Proof.Machine.execLinkFrameReceived port frame dt attenDb s
  | .linkAck port lseq allOk => Sys2Proof.Machine.execLinkAck port lseq allOk s
  | .backoffEnd port => Sys2Proof.Machine.execBackoffEnd port s
  | .noiseTimeout port => Sys2Proof.Machine.execNoiseTimeout port s
  | .driverOff port => Sys2Proof.Machine.execDriverOff port s
  | .driverRetry port => Sys2Proof.Machine.execDriverRetry port s
  | .portRestart m guard arg => Sys2Proof.Machine.execPortRestart m guard arg s
  | .clearTable m guard arg => Sys2Proof.Machine.execClearTable m guard arg s
  | .partitionRestartStage p => Sys2Proof.Machine.execPartitionRestartStage p s
  | .readmitPartition m guard arg => Sys2Proof.Machine.execReadmitPartition m guard arg s
  | .powerOn rtc lost => Sys2Proof.Machine.execPowerOn rtc lost s
  | .railOut rail => Sys2Proof.Machine.execRailOut rail s
  | .brownOut rail => Sys2Proof.Machine.execBrownOut rail s
  | .blockRestart m guard arg => Sys2Proof.Machine.execBlockRestart m guard arg s
  | .blockSelfRestart code => Sys2Proof.Machine.execBlockSelfRestart code s
  | .hostLinkUp gen lanes => Sys2Proof.Machine.execHostLinkUp gen lanes s
  | .railRecovered rail => Sys2Proof.Machine.execRailRecovered rail s
  | .vinHigh mv => Sys2Proof.Machine.execVinHigh mv s
  | .pilotFrontEndFault stall pp => Sys2Proof.Machine.execPilotFrontEndFault stall pp s
  | .frontEndHealthy stall => Sys2Proof.Machine.execFrontEndHealthy stall s
  | .restartComplete code => Sys2Proof.Machine.execRestartComplete code s
  | .syncTransmit port => Sys2Proof.Machine.execSyncTransmit port s
  | .antennaRetry c ok => Sys2Proof.Machine.execAntennaRetry c ok s
  | .norFault chip => Sys2Proof.Machine.execNorFault chip s
  | .addressAgeOut mac => Sys2Proof.Machine.execAddressAgeOut mac s
  | .neighbourAgeOut port e => Sys2Proof.Machine.execNeighbourAgeOut port e s
  | .announceTransmit port => Sys2Proof.Machine.execAnnounceTransmit port s
  | .hostLinkDown => Sys2Proof.Machine.execHostLinkDown s
  | .slewEnd => Sys2Proof.Machine.execSlewEnd s
  | .leapSecond => Sys2Proof.Machine.execLeapSecond s
  | .validLeftExpiry => Sys2Proof.Machine.execValidLeftExpiry s
  | .ppsInMissing => Sys2Proof.Machine.execPpsInMissing s
  | .rateSave => Sys2Proof.Machine.execRateSave s
  | .rtcWrite => Sys2Proof.Machine.execRtcWrite s
  | .metPublication => Sys2Proof.Machine.execMetPublication s
  | .periodicSave => Sys2Proof.Machine.execPeriodicSave s
  | .metCoreLockstep => Sys2Proof.Machine.execMetCoreLockstep s
  | .coreRestored => Sys2Proof.Machine.execCoreRestored s
  | .balanceTick => Sys2Proof.Machine.execBalanceTick s
  | .allocationInstant => Sys2Proof.Machine.execAllocationInstant s
  | .grantCommit => Sys2Proof.Machine.execGrantCommit s
  | .hardPauseResume => Sys2Proof.Machine.execHardPauseResume s
  | .fastPathDownTimeout => Sys2Proof.Machine.execFastPathDownTimeout s
  | .disagree => Sys2Proof.Machine.execDisagree s
  | .feedLost => Sys2Proof.Machine.execFeedLost s
  | .stagingDrain => Sys2Proof.Machine.execStagingDrain s
  | .recordsPending => Sys2Proof.Machine.execRecordsPending s
  | .granaryUncorrectable => Sys2Proof.Machine.execGranaryUncorrectable s
  | .granaryMismatch => Sys2Proof.Machine.execGranaryMismatch s
  | .pfwAsserted us => Sys2Proof.Machine.execPfwAsserted us s
  | .preCaptureCancelled => Sys2Proof.Machine.execPreCaptureCancelled s
  | .capture => Sys2Proof.Machine.execCapture s
  | .tariffSwitch => Sys2Proof.Machine.execTariffSwitch s
  | .calendarActivation => Sys2Proof.Machine.execCalendarActivation s
  | .btHoldEnd => Sys2Proof.Machine.execBtHoldEnd s
  | .fieldLoss => Sys2Proof.Machine.execFieldLoss s
  | .getChallenge p1 p2 le => Sys2Proof.Machine.execGetChallenge p1 p2 le s
  | .fieldLogout p1 p2 len => Sys2Proof.Machine.execFieldLogout p1 p2 len s
  | .sDeselect => Sys2Proof.Machine.execSDeselect s
  | .fieldSessionTimeout => Sys2Proof.Machine.execFieldSessionTimeout s
  | .statusRefresh => Sys2Proof.Machine.execStatusRefresh s
  | .partitionsUnavailable => Sys2Proof.Machine.execPartitionsUnavailable s
  | .refclkLost => Sys2Proof.Machine.execRefclkLost s
  | .refclkReturn => Sys2Proof.Machine.execRefclkReturn s
  | .resetNAssert => Sys2Proof.Machine.execResetNAssert s
  | .resetNRelease => Sys2Proof.Machine.execResetNRelease s
  | .rtcLost => Sys2Proof.Machine.execRtcLost s

end Sys2Proof.Machine
end

