-- ==== Sys2Proof/Safety.lean ====
section
/-! DEFINITION. What counts as a good state, in the terms the statements use. -/
namespace Sys2Proof.Machine

/-- Registers, the published set, the active safety set and the field memory are in their canonical form: one entry a key, keys
rising, no entry equal to what an unlisted key reads as. Equal contents are then equal data. -/
def State.canonical (s : State) : Bool :=
  Tab.wf resetVal s.slots && Tab.wf resetVal s.pub && Tab.wf resetVal s.safeSet && Tab.wf (fun _ => (0#8 : Byte)) s.fmem

/-- The direction totals of a metering point equal the sums of their tariff registers (R139), all 96 bits wide. -/
def Mp.even (p : Mp) : Bool :=
  decide (p.acc.length = 23) && decide (p.acc.getD 0 0 % 2 ^ 96 = ((p.acc.drop 2).take 8).sum % 2 ^ 96)
    && decide (p.acc.getD 1 0 % 2 ^ 96 = ((p.acc.drop 10).take 8).sum % 2 ^ 96)

/-- Every metering point is even: those that accumulate, those held for a set or a copy to come, and those of the copies. -/
def metEven (mps caps : List (Nat × Mp)) (copies : List MetCopy) (saving : Option MetCopy) : Bool :=
  mps.all (fun x => x.2.even) && caps.all (fun x => x.2.even) && (saving.toList ++ copies).all fun c => c.mps.all fun x => x.2.even

/-- The metering points held for a publication, a capture or a save to come. -/
def State.held (s : State) : List (Nat × Mp) := s.mpCap ++ s.capSet ++ (s.saveSet.map (·.2)).getD []

/-- The metered energy of the module is even (R139). -/
def State.even (s : State) : Bool := metEven s.mps s.held s.copies s.saving

/-- Everything of a state but its register slots, its hidden counters, the pages that publish next, the MSI-X messages sent and the
triggers that wait for the stalls. -/
def State.besideRegisters (s : State) : State := { s with slots := [], vars := [], dirty := [], msix := [], trig := [] }

/-! A lone write: the only one of its cycle. -/

/-- A step function over the steps `a + 1` to `a + n` of R201. -/
def through {α : Type} (stl : Nat → α → α) (a n : Nat) (x : α) : α := (List.range n).foldl (fun y r => stl (a + r + 1) y) x

/-- How many of the seven steps of R201 come before a candidate's turn: those up to its own for a stall command, none below the
allocator's pages, all of them above. -/
def Cand.turn (c : Cand) : Nat :=
  if State.isStallCmd c then State.stlCmdRank (codeOf c.value) else if c.addr < 0x700000 then 0 else 7

namespace State

/-- The candidate that a lone write makes. -/
def lone (w : Write) (o : State) : Cand :=
  ⟨[(w.m, o.rdB w.m (w.addr - 8), 0)], w.addr, w.value, w.guard, w.verdict, decide (targetOf w.addr = .at .cmd)⟩

/-- After its checks the cycle is empty, and a command has spent its token (R41). -/
def checked (w : Write) (o : State) : State :=
  let s1 := { o with cycle := [] }
  if targetOf w.addr = .at .cmd then s1.setV .tokenFresh (bankKey w.m (w.addr - 8)) 0 else s1

/-- A parameter slot, whose write is its own command's. -/
def isParam : Target → Bool
  | .at (.param _) => true
  | _ => false

/-- The lone write `w` of a cycle passes the checks of R44 at its boundary and is taken: the device is supplied, the write is to a
command group or to a slot that takes effect through its owner, no check fails, and the owner and the granary accept it in its turn.
`o` is the state at the opening of the boundary. -/
structure Taken (w : Write) (o : State) : Prop where
  cycle : o.cycle = [w]
  whole : w.frame = false ∧ w.width = 8
  target : isParam (targetOf w.addr) = false
  bank : (bankedTakes w (targetOf w.addr) (checked w o)).isNone = true
  checks : checkStatus w ⟨{ o with cycle := [] }, [], [], [], []⟩ = 0
  answer : State.answer (lone w o) 0 (through stlRun 0 (lone w o).turn (checked w o)) = 0x01

/-- A lone write that is taken: it is numbered and its token remembered (R348, R349), the steps of R201 before its turn run, it has its
effect `eff`, which gets the number of its record, the other steps run, and its outcome ACCEPTED is entered (R40, R43). -/
def settledAs (w : Write) (eff : Nat → State → State) (o : State) : State :=
  let c := lone w o
  let p := checked w o
  let tok := o.rdB w.m (w.addr - 8)
  let q := p.rd Reg.jnlHead
  let n := if journalled w.addr then
      (if c.cmd then remember w.m tok q (submit (candRec c p) p) else submit (candRec c p) p)
    else p
  let seq := if journalled w.addr then q else 0
  let u := committed w.addr (eff seq (through stlRun 0 c.turn n))
  enterRes ⟨0, w.m, w.addr, 0x01, if c.cmd then seq else 0, tok, c.cmd, false, w.low⟩ (through stlRun c.turn (7 - c.turn) u)

/-- A command value of a master posted to a command group. -/
def cmdWrite (m : Master) (a : Nat) (guard : BitVec 16) (code : Nat) (arg : BitVec 40) (ok : Bool) : Write :=
  slotWrite m a guard.toNat (code * 2 ^ 40 + arg.toNat % 2 ^ 40) ok

/-- The state at the opening of the boundary that ends a cycle with the lone write `w`. -/
def opened (w : Write) (s : State) : State := opening 0 (post w s)

/-- What a lone command `w` that is taken leaves: its value stands in its slot, `eff` is its owner's effect with the number of its
record, and the boundary goes on (R40, R44, R508). -/
def ran (w : Write) (eff : Nat → State → State) (s : State) : State :=
  closing s.counter (settledAs w (fun seq t => eff seq ((t.wr w.addr w.value).touch (w.addr / 0x1000))) (opened w s))

/-- What a lone write `w` to another slot leaves when it is taken: `eff` is what it does. -/
def written (w : Write) (eff : State → State) (s : State) : State := closing s.counter (settledAs w (fun _ t => eff t) (opened w s))

/-- The device settles writes: it is supplied and not gleaning. -/
def settles (s : State) : Prop := s.v .powerOff = 0 ∧ s.v .gleaning = 0

/-- A write to a shared slot: the fields that it sets take the value, and then `after` is done with the value before (R26, R34). -/
def slotSet (a v : Nat) (after : Nat → State → State) (s : State) : State :=
  match accessOf a with
  | some (.rw f) =>
    match storeFields f (s.rd a) v with
    | none => s
    | some x => after (s.rd a) { s.wr a x with cfgOld := (s.wr a x).cfgOld.filter fun e => decide (e.1 ≠ a) }
  | _ => s

/-- The part that is supplied until the end of gleaning runs (R375). -/
def supplied (s : State) : Prop := s.v .powerOff = 0

/-- The block with this code is supplied and not in restart (R31). -/
def runs (code : Nat) (s : State) : Prop := s.v .powerOff = 0 ∧ s.v .ownerFault code ≠ 1

/-- The vehicle sessions run (R248, R370). -/
def sessionsRun (s : State) : Prop := s.settles ∧ s.v .ownerFault 7 ≠ 1

/-- No device reset holds the partitions and the readers (R529). -/
def serving (s : State) : Prop := s.settles ∧ s.resetting = false

/-- The lone write `w` is taken at its boundary. -/
def accepts (w : Write) (s : State) : Prop := s.settles ∧ Taken w (opened w s)

end State

/-- The command row `i`: in every state that accepts its write `w`, it answers the boundary at which its owner's effect is `eff`. -/
def Commands (i : Instr) (w : Write) (eff : Nat → State → State) : Prop :=
  ∀ s : State, s.accepts w → exec i s = .next (State.ran w eff s)

/-- The write row `i`: in every state that accepts its write `w`, it answers the boundary at which the write does `eff`. -/
def Writes (i : Instr) (w : Write) (eff : State → State) : Prop :=
  ∀ s : State, s.accepts w → exec i s = .next (State.written w eff s)

end Sys2Proof.Machine
end

