-- ==== Sys2Proof/Certificates/Slice0/Obligations.lean ====
section
/-! DEFINITION. The statements for the provers. The numbers in brackets are the rules of spec/ a statement is about. -/
open Sys2Proof Sys2Proof.Machine Sys2Proof.Machine.State

/-! Sequencing, arbitration and the stores. -/

/-- Each command of the queue runs as it comes to the front: `step` is `exec` of it on the state with the rest of the queue. On an
empty queue the block idles (log entry 3). -/
def Obligations.StepRunsTheFrontCommand : Prop :=
  (∀ (s : State) (c : Instr) (rest : List Instr), s.pending = c :: rest → Machine.step s = exec c { s with pending := rest }) ∧
    ∀ s : State, s.pending = [] → Machine.step s = .next s

/-- Every command answers a next state in every state, and none touches the queue of those that wait. -/
def Obligations.EveryCommandRunsAndLeavesTheQueue : Prop :=
  ∀ (c : Instr) (s : State), ∃ t, exec c s = .next t ∧ t.pending = s.pending

/-- Every step keeps the registers, the published set, the active safety set and the field memory in their canonical form. -/
def Obligations.EveryStepKeepsTablesCanonical : Prop :=
  ∀ s t : State, s.canonical = true → Machine.step s = .next t → t.canonical = true

/-- A settled amount goes, in the same operation, to the total of its direction and to exactly one tariff register of that direction,
and to no other accumulator (R139); so in every state that any step reaches from one where every direction total equals the sum of its
eight tariff registers, modulo the 96 bits of an accumulator, it still does: in the accumulators, in the sets captured for a
publication, and in the saves. -/
def Obligations.SettledEnergyGoesToOneTariff : Prop :=
  (∀ (p : Mp) (n : Int) (k : Nat), p.acc.length = 23 →
    let q := p.settle n
    let dir := if 0 < n then 0 else 1
    let reg := (if 0 < n then 2 else 10) + p.tar % 8
    q = { p with acc := q.acc } ∧ q.acc.length = 23 ∧
      (n ≠ 0 → k = dir ∨ k = reg → q.acc.getD k 0 = (p.acc.getD k 0 + n.natAbs) % 2 ^ 96) ∧
      (n = 0 ∨ (k ≠ dir ∧ k ≠ reg) → q.acc.getD k 0 = p.acc.getD k 0)) ∧
  ∀ s t : State, s.even = true → Machine.step s = .next t → t.even = true

/-- The state after reset has its tables in canonical form and its metered energy even. -/
def Obligations.ResetIsCanonicalAndEven : Prop := State.reset.canonical = true ∧ State.reset.even = true

/-- Values the register tables state for reset (R27, R52, R62, R70, R87, R153, R222, R224, R315, R316, R337, R366), each over all
instances of its page. -/
def Obligations.ResetLeavesStatedValues : Prop :=
  State.reset.pending = [] ∧ (∀ p ∈ allPages, State.reset.rd (epochAddr p) = 1) ∧
    State.reset.rdB .host Reg.sysSnapHold = 100 ∧ State.reset.rdB .mgmt Reg.sysSnapHold = 100 ∧
    State.reset.rd Reg.sysIdPart = 0x4D524C333220 ∧
    State.reset.rd Reg.timMode = 0x006403E80004 ∧ State.reset.rd Reg.timUtc = 37 ∧ State.reset.rd Reg.timHoldoverLim = 24 ∧
    State.reset.rd Reg.timPtpCfg = 0x00FD80801100 ∧ State.reset.rd Reg.metPubCfg = 2 ∧ State.reset.rd Reg.metCoreStat = 1 ∧
    (∀ n : Fin 32, State.reset.rd (Reg.stlCfg n) = 0x00050A32FE98 ∧ State.reset.rd (Reg.stlPilot n) = 5 ∧
      State.reset.rd (Reg.stlPp n) = 7) ∧
    State.reset.rd Reg.stlSumLead = 0xAAAAAAAA ∧ State.reset.rd Reg.safState = 0x101 ∧ State.reset.rd Reg.safToutStat = 0xFF ∧
    (∀ q : Fin 64, State.reset.rd (Reg.queCfg q) = 0x000140000000) ∧ State.reset.rd Reg.jnlStat = 0x20 ∧
    State.reset.rd Reg.jnlCfg = 0x000100010000 ∧ State.reset.rd Reg.jnlWinBase = 1

/-- Without power and while gleaning no write and no command is accepted (R370): a write leaves everything as it was, and a command
row is a boundary at which nothing is settled. -/
def Obligations.NothingIsAcceptedWithoutSupply : Prop :=
  ∀ s : State, s.v .powerOff = 1 ∨ s.v .gleaning = 1 →
    (∀ (m : Master) (a p : Nat) (g : BitVec 16) (v : BitVec 48),
      exec (.tokenWrite m a g v) s = .next s ∧ exec (.pageEvtForce m p g v) s = .next s) ∧
    ∀ (m : Master) (g : BitVec 16) (arg : BitVec 40) (v : BitVec 48) (k : Nat) (n : Fin 32) (b : Fin 8) (q : Fin 64) (p4 : Fin 4),
      ∀ i ∈ [Instr.stallOn m n g arg, .stallLimit m n g arg, .stallPause m n g arg, .stallOff m n g arg, .stallEnable m n g v,
          .drvOn m b g arg, .drvOff m b g arg, .setLimit m g arg, .releasePause m g arg, .stepTo m g arg, .sealOpen m g arg,
          .safetySetActivate m g arg, .ackTrip m g arg, .flush m q g arg, .signReading m g arg, .generate m g arg,
          .writePage m g arg, .offer m g arg, .portEnable m p4 g v, .readmitPartition m g arg, .blockRestart m g arg,
          .partitionReset m g arg, .take m g, .sealedWrite m k g v],
        exec i s = exec (.commandCycleBoundary 0) s

/-- A lone write that a check of R44 turns away changes nothing but what it reports: at its boundary a whole command has consumed its
token (R41), and the seven steps of R201 run as at every boundary. A DUPLICATE's SEQ is that of the original record (R42). A narrow
write is no command: it spends no token and enters no xxx_STAT (the model's choice, log entry 20). -/
def Obligations.FailedWriteOnlyReportsItsStatus : Prop :=
  ∀ (s : State) (w : Write), s.settles → s.cycle = [w] → w.frame = false →
    let o := opening 0 s
    let st := checkStatus w ⟨{ o with cycle := [] }, [], [], [], []⟩
    o.cycle = [w] → st ≠ 0 →
    exec (.commandCycleBoundary 0) s = .next (closing s.counter (enterRes
      ⟨0, w.m, w.addr, st, if st = 0x02 then (o.tokenSeq w.m (o.rdB w.m (w.addr - 8))).getD 0 else 0, o.rdB w.m (w.addr - 8),
        decide (targetOf w.addr = .at .cmd) && decide (8 ≤ w.width), false, w.low⟩
      (through stlRun 0 7 (if 8 ≤ w.width then checked w o else { o with cycle := [] }))))

/-- The outcome of a command stands in xxx_STAT and xxx_SEQ of its master's copy of the group (R40): STATUS with the low 32 bits of
the token, and the number. Every other copy of a banked slot, of either master, stays as it was. -/
def Obligations.OutcomeStandsInStatAndSeq : Prop :=
  ∀ (r : Res) (s : State), r.addr + 16 < bankSpan → r.cmd = true → r.status < 256 →
    (enterRes r s).rdB r.m (r.addr + 8) = r.status * 2 ^ 40 + r.tok % 2 ^ 32 ∧
    (enterRes r s).rdB r.m (r.addr + 16) = r.seq % 2 ^ 48 ∧
    ∀ (m : Master) (a : Nat), a < bankSpan → ¬ (m = r.m ∧ (a = r.addr + 8 ∨ a = r.addr + 16)) →
      (enterRes r s).rdB m a = s.rdB m a

/-- Two masters on one slot in one cycle: of two different commands the one of higher energy order wins, at equal rank the management
port's (R45); equal commands run once, for both (R46); of two different values outside a command group the management port's stands
(R47), and equal ones both stand. A stall's ON, LIMIT, PAUSE and OFF have the ranks 1 to 4. -/
def Obligations.HigherEnergyOrderWins : Prop :=
  (∀ (a th tm ih im vh vm gh gm : Nat) (kh km : Bool),
    let h (cmd : Bool) : Cand := ⟨[(.host, th, ih)], a, vh, gh, kh, cmd⟩
    let g (cmd : Bool) : Cand := ⟨[(.mgmt, tm, im)], a, vm, gm, km, cmd⟩
    isShared a = true →
    arbitrate [h true, g true] =
      (if vm = vh then ([{ g true with ms := [(.host, th, ih), (.mgmt, tm, im)] }], [])
      else if energyOrder a (codeOf vm) < energyOrder a (codeOf vh) then ([h true], [g true])
      else ([g true], [h true])) ∧
    arbitrate [h false, g false] = if vm = vh then ([h false, g false], []) else ([g false], [h false])) ∧
  ∀ n : Fin 32, energyOrder (Reg.stlCmd n) 1 = 1 ∧ energyOrder (Reg.stlCmd n) 2 = 2 ∧ energyOrder (Reg.stlCmd n) 3 = 3 ∧
    energyOrder (Reg.stlCmd n) 4 = 4

/-- The accepted command of a master whose memory is full evicts that master's oldest entry, and no other; the other master's memory is
not touched. A command whose token is not remembered is no DUPLICATE (R350). -/
def Obligations.FullTokenMemoryEvictsTheOldest : Prop :=
  (∀ (s : State) (m : Master) (tok seq : Nat),
    ((s.tokens m).length = 65536 → (remember m tok seq s).tokens m = (tok, seq) :: (s.tokens m).dropLast) ∧
    ((s.tokens m).length < 65536 → (remember m tok seq s).tokens m = (tok, seq) :: s.tokens m) ∧
    ∀ m' : Master, m' ≠ m → (remember m tok seq s).tokens m' = s.tokens m') ∧
  ∀ (w : Write) (acc : Acc), acc.s.tokenSeq w.m (acc.s.rdB w.m (w.addr - 8)) = none → checkStatus w acc ≠ 0x02

/-- A change of rate at counter `c` leaves the corrected time of that instant as it was, to the last unit, and the time of every earlier
counter (R68, R69); the base rate and the slew term are the new ones, as far as the offset and the base rate fit their registers. No step
is counted. -/
def Obligations.RateChangeIsContinuous : Prop :=
  ∀ (s : State) (base slew o : Int) (c : Nat), -2 ^ 47 ≤ base → base < 2 ^ 47 →
    o = s.offset + c * s.rate / 2 ^ 32 - c * (base + slew) / 2 ^ 32 → -2 ^ 95 ≤ o → o < 2 ^ 95 →
    let t := setRates base slew c s
    t.timeAt c = convert s.offset s.rate c ∧ ((∀ x ∈ s.clockSets, x.until_ ≤ c) → t.timeAt c = s.timeAt c) ∧
      (∀ e : Nat, e < c → t.timeAt e = s.timeAt e) ∧
      t.baseRate = base ∧ t.rate = base + slew ∧ t.rd Reg.timStepCnt = s.rd Reg.timStepCnt

/-- The low 16 bits of an epoch that moves on never come to read 0xFFFF (R34): an epoch moves by 1, by 2 where it would, and moving by
`j` and then by `k` is moving by `j + k`. -/
def Obligations.EpochNeverReadsNoValue : Prop :=
  (∀ e k : Nat, epochPlus e k % 65536 ≠ 65535) ∧
  (∀ e : Nat, e < 2 ^ 48 → e % 65536 ≠ 65535 →
    epochPlus e 1 = if (e + 1) % 65536 = 65535 then (e + 2) % 2 ^ 48 else e + 1) ∧
  ∀ e j k : Nat, epochPlus (epochPlus e j) k = epochPlus e (j + k)

/-- A record that enters the staging buffer takes the number at JNL_HEAD and is durable at once: JNL_HEAD and JNL_DURABLE stand one
past it (R340, R342), stamped with the counter of its event. It is the newest, PREV is the check of the one before, and CHECK is the CRC-32C of its bytes 0 to 59 (R345). The
token memories stay. The bytes of any record are 64, each field at its place, little-endian. -/
def Obligations.RecordsAreNumberedAndLaidOut : Prop :=
  (∀ (s : State) (e : Stamp) (i : Nat) (x : Submission) (reserve : Bool), s.rd Reg.jnlHead + 1 < 2 ^ 48 →
     ∃ r rest, (storePart e x i reserve s).records = r :: rest ∧ r.seq = s.rd Reg.jnlHead ∧ rest.length ≤ s.records.length ∧
       r.prev = (s.records.head?.map (·.check)).getD 0 ∧ r.check = crc32c r.body ∧ r.counter = e.counter ∧ r.cls = x.cls ∧ r.code = x.code ∧
       (storePart e x i reserve s).rd Reg.jnlHead = s.rd Reg.jnlHead + 1 ∧
       (storePart e x i reserve s).rd Reg.jnlDurable = s.rd Reg.jnlHead + 1 ∧
       (storePart e x i reserve s).tokH = s.tokH ∧ (storePart e x i reserve s).tokM = s.tokM) ∧
  ∀ r : Record, r.bytes.length = 64 ∧
    ofLE (r.bytes.take 6) = r.seq % 2 ^ 48 ∧ ofLE ((r.bytes.drop 6).take 2) = r.cls % 16 * 4096 + r.code % 4096 ∧
    ofLE ((r.bytes.drop 8).take 8) = r.counter % 2 ^ 64 ∧ ofLE ((r.bytes.drop 16).take 6) = r.tSec % 2 ^ 48 ∧
    ofLE ((r.bytes.drop 22).take 4) = r.tNs % 2 ^ 32 ∧ ofLE ((r.bytes.drop 26).take 1) = r.source % 256 ∧
    ofLE ((r.bytes.drop 27).take 1) = r.flags % 256 ∧ ofLE ((r.bytes.drop 28).take 2) = r.inst % 2 ^ 16 ∧
    ofLE ((r.bytes.drop 30).take 1) = r.actor % 256 ∧ ofLE ((r.bytes.drop 31).take 1) = r.parts % 256 ∧
    ofLE ((r.bytes.drop 32).take 24) = r.payload % 2 ^ 192 ∧ ofLE ((r.bytes.drop 56).take 4) = r.prev % 2 ^ 32 ∧
    ofLE (r.bytes.drop 60) = r.check % 2 ^ 32

/-- The classes of a pilot plateau in 10 mV (R208), the proximity codes of a resistance in ohms with their cable currents (R212), and
the duty of an offer between its ends (R207). -/
def Obligations.PilotTablesAreAsStated : Prop :=
  (∀ v : Int, pilotClass v = 0 ↔ 1050 ≤ v) ∧ (∀ v : Int, pilotClass v = 1 ↔ 750 ≤ v ∧ v < 1050) ∧
  (∀ v : Int, pilotClass v = 2 ↔ 450 ≤ v ∧ v < 750) ∧ (∀ v : Int, pilotClass v = 3 ↔ 150 ≤ v ∧ v < 450) ∧
  (∀ v : Int, pilotClass v = 4 ↔ -150 ≤ v ∧ v < 150) ∧ (∀ v : Int, pilotClass v = 6 ↔ v < -150) ∧
  (∀ r : Nat, (ppCode r = 6 ↔ r < 50) ∧ (ppCode r = 4 ↔ 50 ≤ r ∧ r < 150) ∧ (ppCode r = 3 ↔ 150 ≤ r ∧ r < 400) ∧
    (ppCode r = 2 ↔ 400 ≤ r ∧ r < 1000) ∧ (ppCode r = 1 ↔ 1000 ≤ r ∧ r < 2700) ∧ (ppCode r = 5 ↔ 2700 ≤ r ∧ r < 4500) ∧
    (ppCode r = 0 ↔ 4500 ≤ r)) ∧
  cableAmps 4 = 63 ∧ cableAmps 3 = 32 ∧ cableAmps 2 = 20 ∧ cableAmps 1 = 13 ∧ cableAmps 6 = 0 ∧ cableAmps 5 = 0 ∧ cableAmps 0 = 0

/-- A POP takes the visible words in their order, up to the number of units asked for: they leave the front of the queue, the
completion holds each with its tag and is filled with empty units, and no other queue changes (R328). -/
def Obligations.PopTakesTheFrontWords : Prop :=
  ∀ (s : State) (q units : Nat),
    let k := min units (s.queVisible q)
    ((popNow q units s).queue q).words = (s.queue q).words.drop k ∧
    (popNow q units s).hostReply = ((s.queue q).words.take k).flatMap (fun w => [w.data, w.tag]) ++
      List.replicate (2 * (units - ((s.queue q).words.take k).length)) 0 ∧
    ∀ p : Nat, p ≠ q → (popNow q units s).queue p = s.queue p

/-- The tag's field memory gives back what was written, and every other byte stays (R437). -/
def Obligations.FieldMemoryReadsWhatWasWritten : Prop :=
  ∀ (s : State) (off : Nat) (l : List Byte),
    (fmemWrite off l s).fmemRead off l.length = l ∧
    (∀ a : Nat, a < off ∨ off + l.length ≤ a → (fmemWrite off l s).fmemRead a 1 = s.fmemRead a 1) ∧
    (fmemWrite off l s).slots = s.slots ∧ (fmemWrite off l s).vars = s.vars

/-! The commands and writes that a master sends, each taken. -/

/-- The rows of SYS_SNAP_CTL, SYS_AUTH_REQ and SYS_CMD, each taken (R48, R50, R52, R61, R512, R529). -/
def Obligations.RegisterPageCommandsTakeEffect : Prop :=
  ∀ (m : Master) (g : BitVec 16) (arg : BitVec 40),
    Writes (.take m g) (slotWrite m Reg.sysSnapCtl g.toNat 1 false) (fun t => t.setV .takeWant m.ix 1) ∧
    Writes (.release_ m g) (slotWrite m Reg.sysSnapCtl g.toNat 2 false) (snapRelease m false) ∧
    Writes (.clearSet m g) (slotWrite m Reg.sysSnapCtl g.toNat 4 false) (each allPages fun p t => t.wrfB m (snapAddr p) 0 1 0) ∧
    (∀ (r : Fin 8) (ok : Bool), Writes (.login m g r ok) (slotWrite m Reg.sysAuthReq g.toNat (r.val + 2 ^ 8) ok)
      (fun t => login m r.val ok (t.wrB m Reg.sysAuthReq r.val))) ∧
    Writes (.logout m g) (slotWrite m Reg.sysAuthReq g.toNat (2 ^ 9) false) (fun t => logout m 1 (t.wrB m Reg.sysAuthReq 0)) ∧
    Commands (.deviceReset m g arg) (cmdWrite m Reg.sysCmd g 1 arg false) (fun _ t => t.setV .resetWant 0 1) ∧
    Commands (.partitionReset m g arg) (cmdWrite m Reg.sysCmd g 2 arg false) (fun _ => partFail (arg.toNat % 2) 3)

/-- The commands of TIM_CMD and a write of MODE, each taken (R73, R79). -/
def Obligations.TimeCommandsTakeEffect : Prop :=
  ∀ (m : Master) (g : BitVec 16) (arg : BitVec 40) (v : BitVec 48),
    Commands (.stepTo m g arg) (cmdWrite m Reg.timCmd g 1 arg false) (fun _ => stepTo m) ∧
    Commands (.stepBy m g arg) (cmdWrite m Reg.timCmd g 2 arg false)
      (fun _ t => hostTime 3 (State.step (t.timParam m) t.counter false t)) ∧
    Commands (.slewBy m g arg) (cmdWrite m Reg.timCmd g 3 arg false) (fun _ => slewBy m arg.toNat) ∧
    Commands (.setRate m g arg) (cmdWrite m Reg.timCmd g 4 arg false)
      (fun _ t => hostTime 3 (setBase (signed 48 (t.rdB m Reg.timParamSec)) t.counter t)) ∧
    Commands (.setUtc m g arg) (cmdWrite m Reg.timCmd g 5 arg false)
      (fun _ t => (t.hwf Reg.timUtc 0 18 (arg.toNat % 2 ^ 18)).setV .leapDay 0 (t.hwf Reg.timUtc 0 18 (arg.toNat % 2 ^ 18)).utcDay) ∧
    Writes (.timModeWrite m g v) (slotWrite m Reg.timMode g.toNat v.toNat false) (slotSet Reg.timMode v.toNat fun old => timModeSet (old % 4))

/-- The commands of the windows, the meter controller and the allocator, and a write to a metering slot, each taken (R110, R118,
R149, R151, R153, R172, R173). -/
def Obligations.MeterCommandsTakeEffect : Prop :=
  ∀ (m : Master) (g : BitVec 16) (arg : BitVec 40),
    Commands (.inputReadmit m g arg) (cmdWrite m Reg.metWinCmd g 1 arg false) (fun _ => State.inputReadmit (arg.toNat % 2 ^ 8)) ∧
    Commands (.inputTakeOut m g arg) (cmdWrite m Reg.metWinCmd g 2 arg false) (fun _ => State.inputTakeOut (arg.toNat % 2 ^ 8)) ∧
    (∀ (a : Nat) (v : BitVec 48), (∃ f, targetOf a = .at (.rw f)) →
      Writes (.sealedWrite m a g v) (slotWrite m a g.toNat v.toNat false) (slotSet a v.toNat fun old t => cfgSet a old t)) ∧
    Commands (.sealOpen m g arg) (cmdWrite m Reg.metCtlCmd g 1 arg false) (fun _ => State.sealOpen m) ∧
    Commands (.sealClose m g arg) (cmdWrite m Reg.metCtlCmd g 2 arg false) (fun _ => State.sealClose 1) ∧
    Commands (.saveNow m g arg) (cmdWrite m Reg.metCtlCmd g 3 arg false) (fun _ t => t.setV .saveWant 0 1) ∧
    Commands (.setLimit m g arg) (cmdWrite m Reg.alcCmd g 1 arg false)
      (fun _ t => limitSet (arg.toNat % 2 ^ 24) (arg.toNat / 2 ^ 24 % 2 ^ 16) (limitItems t.now t)) ∧
    Commands (.releasePause m g arg) (cmdWrite m Reg.alcCmd g 2 arg false) (fun _ t =>
      if t.bit Reg.alcPaused (arg.toNat % 2 ^ 5) then (hardRelease (arg.toNat % 2 ^ 5) 3 t).evt 0x620 17 else t)

/-- A stall's commands and a write of its configuration, each taken: the command's trigger acts at its step of R201, and PAUSE is
without effect in PAUSED (R200, R216). -/
def Obligations.StallCommandsTakeEffect : Prop :=
  ∀ (m : Master) (n : Fin 32) (g : BitVec 16) (arg : BitVec 40) (v : BitVec 48),
    Commands (.stallOn m n g arg) (cmdWrite m (Reg.stlCmd n) g 1 arg false) (fun _ => stlTrig n (.on (arg.toNat % 2 ^ 32))) ∧
    Commands (.stallLimit m n g arg) (cmdWrite m (Reg.stlCmd n) g 2 arg false) (fun _ => stlTrig n (.limit (arg.toNat % 2 ^ 24))) ∧
    Commands (.stallPause m n g arg) (cmdWrite m (Reg.stlCmd n) g 3 arg false)
      (fun _ t => if t.mode n = 5 then t else stlTrig n (.pause 0) t) ∧
    Commands (.stallOff m n g arg) (cmdWrite m (Reg.stlCmd n) g 4 arg false) (fun _ => stlTrig n .off) ∧
    Commands (.stallTakeOut m n g arg) (cmdWrite m (Reg.stlCmd n) g 5 arg false) (fun _ => stlTrig n .takeOut) ∧
    Commands (.stallReturn m n g arg) (cmdWrite m (Reg.stlCmd n) g 6 arg false) (fun _ => stlTrig n .return_) ∧
    Writes (.stallEnable m n g v) (slotWrite m (Reg.stlCfg n) g.toNat v.toNat false)
      (slotSet (Reg.stlCfg n) v.toNat fun old t => demandRefresh n (stlCfgSet n old t))

/-- The commands of the output banks and of the safety functions, each taken (R255, R272, R288, R300, R301, R311). -/
def Obligations.DriveAndSafetyCommandsTakeEffect : Prop :=
  ∀ (m : Master) (b : Fin 8) (g : BitVec 16) (arg : BitVec 40),
    Commands (.drvOn m b g arg) (cmdWrite m (Reg.drvCmd b) g 1 arg false) (fun _ => setDemand (8 * b + arg.toNat % 8) true) ∧
    Commands (.drvOff m b g arg) (cmdWrite m (Reg.drvCmd b) g 2 arg false) (fun _ t =>
      let o := 8 * b + arg.toNat % 8
      let u := setDemand o false t
      if u.v .pulse o = 0 then u else giveFree o (dropEnables o u)) ∧
    Commands (.reenable m b g arg) (cmdWrite m (Reg.drvCmd b) g 3 arg false) (fun _ => State.reenable (8 * b + arg.toNat % 8)) ∧
    Commands (.safetySetActivate m g arg) (cmdWrite m Reg.safCmd g 1 arg false) (fun _ => setActivate) ∧
    Commands (.discard m g arg) (cmdWrite m Reg.safCmd g 2 arg false) (fun _ => setDiscard) ∧
    Commands (.ackTrip m g arg) (cmdWrite m Reg.safCmd g 3 arg false) (fun _ => State.ackTrip (arg.toNat % 2 ^ 4)) ∧
    Commands (.proofNow m g arg) (cmdWrite m Reg.safCmd g 4 arg false) (fun _ => proofStart (arg.toNat % 2 ^ 5)) ∧
    Commands (.releaseOut m g arg) (cmdWrite m Reg.safCmd g 5 arg false) (fun _ => State.releaseOut (arg.toNat % 2 ^ 6))

/-- The commands of the queues, the granary's acknowledgement and the commands of billing, each taken (R321, R332, R337, R355, R391,
R393, R396). -/
def Obligations.QueueGranaryAndBillingCommandsTakeEffect : Prop :=
  ∀ (m : Master) (q : Fin 64) (g : BitVec 16) (arg : BitVec 40) (v : BitVec 48),
    Commands (.flush m q g arg) (cmdWrite m (Reg.queCmd q) g 1 arg false) (fun _ => queFlush q false) ∧
    Commands (.maxReset m q g arg) (cmdWrite m (Reg.queCmd q) g 2 arg false)
      (fun _ t => t.hwf (Reg.queMax q) 0 18 (t.queue q).words.length) ∧
    Writes (.queueEnable m q g v) (slotWrite m (Reg.queCfg q) g.toNat v.toNat false)
      (slotSet (Reg.queCfg q) v.toNat (queCfgSet q)) ∧
    Writes (.jnlAckWrite m g v) (slotWrite m Reg.jnlAck g.toNat v.toNat false)
      (slotSet Reg.jnlAck v.toNat ackSet) ∧
    Commands (.dropPending m g arg) (cmdWrite m Reg.bilCmd g 1 arg false) (fun _ => State.dropPending) ∧
    Commands (.signReading m g arg) (cmdWrite m Reg.bilCmd g 2 arg false)
      (fun _ t => t.setV .rdgWant (arg.toNat % 2 ^ 6) (t.gridNs + 1)) ∧
    Commands (.demandReset m g arg) (cmdWrite m Reg.bilCmd g 3 arg false) (fun _ => State.demandReset (arg.toNat % 2 ^ 6))

/-- The commands of the key store, each taken (R416, R417, R427, R431). -/
def Obligations.KeyCommandsTakeEffect : Prop :=
  ∀ (m : Master) (g : BitVec 16) (arg : BitVec 40) (ok : Bool),
    Commands (.import_ m g arg ok) (cmdWrite m Reg.keyCmd g 1 arg ok) (fun _ t =>
      let k := t.stgByte m 4
      let u := slotPut k (t.stgByte m 5) (t.stgByte m 6) 1 (t.setV .keyLen k (t.fdB m Reg.keyStgCtl 0 12 - 133 : Nat))
      if k = 7 then identCert true u else u) ∧
    Commands (.generate m g arg) (cmdWrite m Reg.keyCmd g 2 arg false)
      (fun _ => slotPut (arg.toNat % 2 ^ 8) (arg.toNat / 2 ^ 8 % 2 ^ 4) (arg.toNat / 2 ^ 12 % 2 ^ 8) 2) ∧
    Commands (.invalidate m g arg) (cmdWrite m Reg.keyCmd g 3 arg false) (fun _ t =>
      let h := arg.toNat % 2 ^ 32
      if h / 2 ^ 30 % 4 = 0 then enginesRun (slotRec (h / 2 ^ 16 % 2 ^ 14) 3 (genNext (h / 2 ^ 16 % 2 ^ 14) t))
      else enginesRun (clearBelow h true t)) ∧
    Commands (.erase m g arg) (cmdWrite m Reg.keyCmd g 4 arg false) (fun _ t =>
      let i := arg.toNat % 2 ^ 8
      let u := slotRec i 4 (fault 0x0E02 i 0 0 false (slotSum (((genNext i t).hwf (Reg.keySlot i) 0 4 0).hwf (Reg.keySlot i) 4 8 0)))
      enginesRun (if i = 7 then identCert false u else u)) ∧
    Commands (.exportPublic m g arg) (cmdWrite m Reg.keyCmd g 5 arg false) (fun _ t => keyEffect 5 arg.toNat m t) ∧
    Commands (.exportCsr m g arg) (cmdWrite m Reg.keyCmd g 6 arg false) (fun _ t =>
      (stgPut m 3 (toLE (t.draw 11) (Config.free (t.n .free + 1))) t).drawn 2) ∧
    Commands (.zeroise m g arg) (cmdWrite m Reg.keyCmd g 7 arg false)
      (fun _ t => State.zeroise 2 6 (((tamperLog 6 false t).hwb Reg.keyState 2 true).evt 0xE00 16)) ∧
    Commands (.recommission m g arg) (cmdWrite m Reg.keyCmd g 8 arg false) (fun _ => State.recommission)

/-- The commands of the contactless interface and of firmware update, each taken (R443, R459, R461, R462, R465, R469). -/
def Obligations.FieldAndUpdateCommandsTakeEffect : Prop :=
  ∀ (m : Master) (g : BitVec 16) (arg : BitVec 40) (ok : Bool),
    Commands (.readPage m g arg) (cmdWrite m Reg.ctlCmd g 1 arg false) (fun seq t =>
      memShow ⟨m, false, false, arg.toNat % 2 ^ 7, [], seq, t.counter⟩ 1 0
        { t with memOps := t.memOps ++ [⟨m, false, false, arg.toNat % 2 ^ 7, [], seq, t.counter⟩] }) ∧
    Commands (.writePage m g arg) (cmdWrite m Reg.ctlCmd g 2 arg false) (fun seq t =>
      memShow ⟨m, false, true, arg.toNat % 2 ^ 7, t.memWindow m, seq, t.counter⟩ 1 0
        { t with memOps := t.memOps ++ [⟨m, false, true, arg.toNat % 2 ^ 7, t.memWindow m, seq, t.counter⟩] }) ∧
    Commands (.offer m g arg) (cmdWrite m Reg.updCmd g 1 arg false) (fun _ t =>
      offerTake (if m = .mgmt then 1 else 2) (arg.toNat % 2 ^ 4) (arg.toNat / 2 ^ 4 % 2 ^ 10) (t.fdB m Reg.updParam 0 32) 0 t) ∧
    Commands (.fetch m g arg) (cmdWrite m Reg.updCmd g 2 arg false) (fun _ t =>
      { t with fetches := t.fetches ++ [(arg.toNat % 2 ^ 4, arg.toNat / 2 ^ 4 % 2 ^ 9, t.fetchAddr m)] }) ∧
    Commands (.withdraw m g arg) (cmdWrite m Reg.updCmd g 3 arg false) (fun _ => offerEnd (arg.toNat % 2 ^ 4) 0 4) ∧
    Commands (.updActivate m g arg ok) (cmdWrite m Reg.updCmd g 4 arg ok) (fun _ => updEffect 4 arg.toNat m ok) ∧
    Commands (.confirm m g arg) (cmdWrite m Reg.updCmd g 5 arg false) (fun _ => State.confirm (arg.toNat % 2 ^ 4)) ∧
    Commands (.revert m g arg) (cmdWrite m Reg.updCmd g 6 arg false) (fun _ t => updNext (fallback (arg.toNat % 2 ^ 4) 0x0E t))

/-- The commands of the Ethernet ports, the mains link, the partitions and the supplies, and a write of a port's configuration, each
taken (R480, R485, R504, R511, R536). -/
def Obligations.PortAndServiceCommandsTakeEffect : Prop :=
  ∀ (m : Master) (p : Fin 4) (g : BitVec 16) (arg : BitVec 40) (v : BitVec 48),
    Commands (.portReadmit m g arg) (cmdWrite m Reg.netCmd g 1 arg false) (fun _ => netPost (arg.toNat % 4) .readmit) ∧
    Commands (.portTakeOut m g arg) (cmdWrite m Reg.netCmd g 2 arg false) (fun _ => netPost (arg.toNat % 4) .takeOut) ∧
    Commands (.flushTable m g arg) (cmdWrite m Reg.netCmd g 3 arg false) (fun _ t => netShow { t with macs := [] }) ∧
    Writes (.portEnable m p g v) (slotWrite m (Reg.netPCfg p) g.toNat v.toNat false)
      (slotSet (Reg.netPCfg p) v.toNat (netPCfgSet p)) ∧
    Commands (.portRestart m g arg) (cmdWrite m Reg.mlkCmd g 1 arg false) (fun _ => linkStart (arg.toNat % 2)) ∧
    Commands (.clearTable m g arg) (cmdWrite m Reg.mlkCmd g 2 arg false) (fun _ => nbClear (arg.toNat % 2)) ∧
    Commands (.readmitPartition m g arg) (cmdWrite m Reg.fltCmd g 1 arg false) (fun _ => readmitPart (arg.toNat % 2)) ∧
    Commands (.blockRestart m g arg) (cmdWrite m Reg.pwrCmd g 1 arg false) (fun _ => State.blockRestart (arg.toNat % 2 ^ 8) 2)

/-! Pages, masters and the boundary. -/

/-- The rows of reads, snapshots, role sessions and the host link (R36, R50, R52, R54, R60, R352, R441). -/
def Obligations.PageRowsTakeEffect : Prop :=
  ∀ (s : State) (m : Master) (addr len dt : Nat) (o : Origin) (off : Nat),
    (s.settles →
      exec (.pageReadStall m addr len dt) s = .next (
        if m = .host ∧ inPorts addr then portRead addr len s
        else if readForm m addr len = false then badForm m s
        else if m = .mgmt ∧ inPorts addr then mgmtStatus 0x18 (countOnly .mgmt 0x18 s)
        else if s.wrote m (addr / 0x1000) ∧ inWindow addr = false then { s with reads := s.reads ++ [⟨m, addr, len⟩] }
        else
          let t := readCaptured m addr len dt s
          reply m [] (t.readBytes m addr len) t)) ∧
    (s.supplied →
      exec .hostLinkDown s = .next (
        if s.bit Reg.sysMstLink 0 = false then s
        else
          let s1 := roleLost .host 3 (s.hwf Reg.sysMstLink 0 6 0)
          let s2 := newChallenge .host (msixReset (hostBankReset s1))
          fault 0x0001 0xFFFF 0 0 true (eachBelow 64 queLinkLoss s2))) ∧
    exec (.snapshotExpired m) s = .next (
      if (s.snap m).isSome ∧ s.n .snapAt m.ix + max 1 (s.fdB m Reg.sysSnapHold 0 10) * 1000000 ≤ s.counter then snapRelease m true s
      else s) ∧
    exec (.roleSessionExpiry m) s = .next (if expires (s.role m) ∧ s.n .lastAccepted m.ix + sessionNs ≤ s.counter then roleLeave m 3 actorDevice [] s else s) ∧
    exec (.loginBlockEnd o) s = .next (if s.v .loginBlockEnd (originIx o) ≤ s.counter then s.setV .loginBlockEnd (originIx o) 0 else s) ∧
    exec (.journalWindowRead m off len) s = .next (awake (readRequest m (0x3000000 + off) len 0) s)

/-- A write of a master only enters the cycle: it takes effect at the boundary (R33, R44). A narrower or unaligned one enters as such,
for its status BAD_WIDTH (R25); one over 64 bytes, over a page boundary or beyond BAR0 has no effect on the host link. Nothing else
changes but the counter of free values, from which the verdict on key material comes (log entry 6). A host write to a data port appends
its bytes (R324), the journal window takes none (R352), and one to the MSI-X table acts at once (R24, R53): one doubleword, or two; the
pending bits cannot be written. -/
def Obligations.WritesWaitForTheBoundary : Prop :=
  ∀ (s : State) (m : Master) (a p w : Nat) (g : BitVec 16) (v : BitVec 48), s.settles →
    exec (.tokenWrite m a g v) s = .next { s with cycle := s.cycle ++ [⟨m, a, 8, g.toNat, v.toNat, false, false, 0⟩] } ∧
    exec (.pageEvtForce m p g v) s =
      .next { s with cycle := s.cycle ++ [⟨m, p * 0x1000 + 0x28, 8, g.toNat, v.toNat, false, false, 0⟩] } ∧
    (a + w ≤ 2 ^ 26 → 1 ≤ w → w ≤ 64 → a / 0x1000 = (a + w - 1) / 0x1000 → inWindow a = false → inPorts a = false →
      ¬ (m = .host ∧ (isMsixTable a ∨ isMsixPba a)) →
      exec (.registerWrite m a w g v) s = .next { s.drawn with
        cycle := s.cycle ++ [⟨m, a / 8 * 8, if w < 8 ∨ a % 8 ≠ 0 then 4 else 8, g.toNat, v.toNat, decide (s.draw 1 = 1), false, a % 8⟩] }) ∧
    (2 ^ 26 < a + w ∨ 64 < w ∨ w = 0 ∨ a / 0x1000 ≠ (a + w - 1) / 0x1000 →
      ¬ (isMsixTable a ∨ isMsixPba a) → ¬ (inPorts a ∧ w ≤ 8) → exec (.registerWrite .host a w g v) s = .next s) ∧
    (inWindow a → ¬ (isMsixTable a ∨ isMsixPba a) → exec (.registerWrite .host a 8 g v) s = .next s) ∧
    (inPorts a → ¬ (isMsixTable a ∨ isMsixPba a) → w ≤ 8 → exec (.registerWrite .host a w g v) s = .next (
      let bytes := (toLE 8 (v.toNat + g.toNat * 2 ^ 48)).take w
      match portWindow a with
      | 0 => quePush (portQueue a) bytes false s
      | 1 => quePush (portQueue a) bytes true s
      | _ => s)) ∧
    (isMsixTable a → a % 4 = 0 → exec (.registerWrite .host a 4 g v) s = .next (
      match a % 16 with
      | 0 => s.wr a (v.toNat % 2 ^ 32 / 4 * 4)
      | 12 => msixUnmask ((a - 0x8000) / 16) (s.wr a (v.toNat % 2 ^ 32 % 2))
      | _ => s.wr a (v.toNat % 2 ^ 32))) ∧
    (isMsixTable a → a % 8 = 0 → exec (.registerWrite .host a 8 g v) s =
      .next (msixWrite (a + 4) (v.toNat / 2 ^ 32 + g.toNat * 2 ^ 16) (msixWrite a v.toNat s))) ∧
    (isMsixPba a → isMsixTable a = false → a % 4 = 0 → exec (.registerWrite .host a 4 g v) s = .next s)

/-- The frames of the management port (R55 to R57, R558): a bad check, a bad form or a clock edge during the wait, else the read is
answered or the write enters the cycle with its verdict on key material free (log entry 6). -/
def Obligations.ManagementFramesAreTaken : Prop :=
  ∀ (s : State) (f : List Byte) (dt : Nat) (clocked : Bool), s.settles →
    exec (.mgmtReadFrame f dt clocked) s = .next (
      if frameCrcBad f then frameRefuse 0x1A (mgmtSeen s)
      else if clocked ∨ f.length ≠ 8 ∨ beAt f 0 1 ≠ 0x0B ∨ frameAddrOk f = false ∨ beAt f 5 1 = 0 ∨ 8 < beAt f 5 1 then
        frameRefuse 0x1B (mgmtSeen s)
      else readRequest .mgmt (beAt f 1 4) (8 * beAt f 5 1) dt (mgmtSeen s)) ∧
    exec (.mgmtWriteFrame f clocked) s = .next (
      if frameCrcBad f then writeRefuse 0x1A (beAt f 1 4) (mgmtSeen s)
      else if clocked ∨ f.length ≠ 16 ∨ beAt f 0 1 ≠ 0x02 ∨ frameAddrOk f = false ∨ beAt f 5 1 ≠ 1 then
        writeRefuse 0x1B (beAt f 1 4) (mgmtSeen s)
      else if inWindow (beAt f 1 4) then writeRefuse 0x1C (beAt f 1 4) (mgmtSeen s)
      else if inPorts (beAt f 1 4) then writeRefuse 0x18 (beAt f 1 4) (mgmtSeen s)
      else { (mgmtSeen s).drawn with
        cycle := s.cycle ++ [⟨.mgmt, beAt f 1 4, 8, beAt f 6 2, beAt f 8 6, decide (s.draw 1 = 1), true, 0⟩] })

/-- A command-cycle boundary, `idle` empty cycles later than the next: the clocks come up to it, every write of the cycle is settled,
and what follows the writes is done (R33, R44, R201, R508). -/
def Obligations.BoundarySettlesTheCycle : Prop :=
  ∀ (s : State) (idle : Nat), s.settles →
    exec (.commandCycleBoundary idle) s = .next (closing s.counter (settle (opening idle s)))

/-! Time. -/

/-- The rows of the corrected clock: the last cycle of a slew, the leap second, which waits for its boundary, the expiry of VALID_LEFT, a
master that falls silent, a missing edge and the kept values (R73, R76, R77, R79, R81, R87, R91, R94). Billing time follows every change
(R401). -/
def Obligations.ClockRowsTakeEffect : Prop :=
  ∀ (s : State),
    (s.supplied →
      exec .slewEnd s = .next (btUpdate (
        let p := s.v .slewParam
        let c := (s.counter / 1000 + 1) * 1000
        if s.slewing ∧ s.v .slewLast = 0 ∧ p.natAbs ≤ (s.slewed (c + 1000)).natAbs then s.setV .slewLast 0 c else s)) ∧
      exec .leapSecond s = .next (btUpdate (if s.fd Reg.timUtc 16 2 ≠ 0 ∧ s.v .leapDay < s.utcDay ∧ ClockChange.leap ∉ s.clockQ then later .leap s else s)) ∧
      exec .validLeftExpiry s = .next (btUpdate (if (s.clock = 1 ∨ s.clock = 4) ∧ s.v .validEnd ≤ s.counter then setClock 0 0 5 s else s)) ∧
      exec .announceTimeout s = .next (btUpdate (
        let port := s.fd Reg.timPtpStat 4 3
        let heard := s.announces.any fun x => decide (x.port = port ∧ (x.sender : Int) + 1 = s.v .ptpParent ∧ s.counter < x.last + 3 * announceNs)
        if s.isSlave port = false ∨ heard then s
        else
          let s1 : State := { s with announces := s.announces.filter fun x => decide (¬ (x.port = port ∧ (x.sender : Int) + 1 = s.v .ptpParent)) }
          let s2 := masterLost ((s1.inc Reg.timPtpCnt 32 16 1).evt 0x201 18)
          if s2.timMode = 1 ∧ s2.bestMaster = none then holdover 4 s2 else s2)) ∧
      exec .ppsInMissing s = .next (btUpdate (ppsCount s.counter s)) ∧
      exec .rateSave s = .next (
        if s.clock = 3 ∧ s.v .rateSavedAt + 60000000000 ≤ s.counter then
          (s.setV .savedRate 0 s.baseRate).setV .rateSavedAt 0 s.counter
        else s) ∧
      exec .rtcWrite s = .next (
        if s.v .rtcAt = 0 ∨ s.n .rtcAt - 1 + 10 ^ 9 ≤ s.counter + 1000 then
          (s.setV .rtcNs 0 (nanosOf s.now)).setV .rtcAt 0 (s.counter + 1)
        else s))

/-- A measurement that waits acts once: none, nothing; one of another discipline is dropped; otherwise the first one from FREERUN or
HOLDOVER enters ACQUIRING, the servo acts on its offset, and the lock is judged (R79, R80, R89). The size of a servo slew is a free value
and the loop's gains are constants of Config without a body: log entry 10. -/
def Obligations.ServoUpdateTakesEffect : Prop :=
  ∀ (s : State),
    (s.supplied →
      exec .servoUpdate s = .next (btUpdate (
        if s.v .measNew = 0 then s
        else if s.v .measNew ≠ s.timMode then s.setV .measNew 0 0
        else
          let off := s.v .measOff
          let s1 := s.setV .measNew 0 0
          let s2 := if s1.clock = 0 ∨ s1.clock = 4 then (setClock 2 (modeSource s1.timMode) 1 s1).setV .lockRun 0 0 else s1
          ((lockUpdate off.natAbs (servoActs off s2)).setV .measPrev 0 off).setV .measAt 0 s.counter)))

/-- The rows of PTP and of the pulse per second (R82 to R91), and a capture of TIM_NOW (R65, R70). -/
def Obligations.PtpAndPulseRowsTakeEffect : Prop :=
  ∀ (s : State) (port : Fin 4) (msg : PtpMsg) (dt : Nat) (falling high : Bool) (ingress egress residence : Nat) (m : Master),
    (s.supplied →
      exec (.ptpMessageReceived port msg) s = .next (btUpdate (if s.portUp port.val then ptpSent (ptpMessage port.val msg { s with ptpOut := [] }) else s)) ∧
      exec (.syncTransmit port) s = .next (ptpSent (State.syncTransmit port.val { s with ptpOut := [] })) ∧
      exec (.announceTransmit port) s = .next (ptpSent (State.announceTransmit port.val { s with ptpOut := [] })) ∧
      exec .announceEvaluation s = .next (btUpdate (ptpSent (State.announceEvaluation { s with ptpOut := [] }))) ∧
      exec (.ppsInEdge dt falling) s = .next (btUpdate (
        if s.bit Reg.timPpsInCfg 0 ∧ s.bit Reg.timPpsInCfg 1 = falling then
          let c := (s.counter + dt) / 2 * 2
          let t := s.timeAt c - signed 48 (s.rd Reg.timPpsInDly)
          let d := (t + unitSec / 2) % unitSec - unitSec / 2
          let win := s.fd Reg.timPpsInCfg 8 16 * 1000 * 2 ^ 16
          if s.v .everLocked = 0 ∨ d.natAbs ≤ win then
            let s0 := ppsCount c s
            let s1 := ((s0.inc Reg.timPpsInCnt 0 16 1).setV .ppsRef 0 (c + 1)).setV .ppsMiss 0 0
            let s2 := (s1.hw Reg.timPpsInSec (secsOf t)).hw Reg.timPpsInNs (nsOf t * 2 ^ 16 + fracOf t)
            if s2.timMode = 2 ∧ 0 < s2.v .ppsNextSec then
              (later (.step ((s2.v .ppsNextSec - 1) * unitSec - t) false) s2).setV .ppsNextSec 0 0
            else measured 2 (-d) s2
          else (s.inc Reg.timPpsInCnt 16 16 1).evt 0x203 17
        else s)) ∧
      exec (.ppsOutPulse dt high) s = .next (
        let c := (s.counter + dt) / 2 * 2
        if high then
          let x := s.timeAt c + signed 48 (s.rd Reg.timPpsOutComp)
          let e := (x + unitSec / 2) % unitSec - unitSec / 2
          if s.ppsAllowed ∧ e.natAbs ≤ 2 * 2 ^ 16 then (s.setV .ppsOut 0 1).setV .ppsOutAt 0 c else s
        else if s.v .ppsOutAt + s.fd Reg.timPpsOutCfg 8 24 * 1000 ≤ c + 2 then s.setV .ppsOut 0 0
        else s)) ∧
    (s.settles →
      exec (.transparentClockForward ingress egress msg residence) s = .next (if (ingress = 4 ∨ s.portUp ingress) ∧ (egress = 4 ∨ s.portUp egress) then tcForward ingress egress msg residence s else s)) ∧
    exec (.timNowCapture m dt) s = .next (
      let c := (s.counter + dt) / 2 * 2
      let t := s.timeAt c
      if (s.snap m).any (fun x => decide (timPage ∈ x.pages)) then s
      else
        let s1 := (s.wrB m Reg.timNowSec (secsOf t)).wrB m Reg.timNowNs (nsOf t * 2 ^ 16 + fracOf t)
        let s2 := (s1.wrB m Reg.timNowCntLo c).wrB m Reg.timNowCntHi (c / 2 ^ 48)
        s2.setV .capTag m.ix (s.rd (epochAddr timPage) % 2 ^ 16 : Nat))

/-! Sensor inputs, energy, balance and limits, power quality. -/

/-- The samples of one clock frequency, once their window has ended: every input takes its sample from its line, then each metering
point that has window `n` complete accumulates it (R101, R105, R106, R132, R133); a fast-path sample, once its window has ended, enters
FAST_PEAK and the peak detector (R103, R125, R189). -/
def Obligations.SampleRowsTakeEffect : Prop :=
  ∀ (s : State) (freq : Fin 5) (n dt : Nat) (samples : List InSample) (input : Fin 256) (m line : Nat),
    (s.supplied →
      exec (.mainSample freq n dt samples) s = .next (
        let c := s.counter + dt
        if s.windowEnded freq.val (n * mainNs freq.val) c = false then s
        else
          let s1 := each samples (fun x t => inSample freq.val n c x t) (gridInterval freq.val n s)
          eachBelow 64 (fun m t => if t.mpReady m freq.val n then mpSample m freq.val n t else t) s1) ∧
      exec (.fastSample input m dt line) s = .next (
        let e := s.windowEnd input.val (16 * m * bitNs (s.inFreq input.val))
        if !s.fastRuns input.val ∨ (m : Int) + 1 ≤ s.v .pkM input.val ∨ s.windowEnded (s.inFreq input.val) e (s.counter + dt) = false then s
        else
          let x := s.fastOf input.val m line
          peakSample input.val (s.fastStamp input.val m) x (fastPeak input.val x (s.setV .pkM input.val (m + 1)))))

/-- The rows of the winnower, while the MET block runs: an input enters or leaves a fault condition, locks, and completes its
qualification (R100, R114 to R117); the overcurrent decision of an input that serves protection trips its stalls (R190, R292). -/
def Obligations.InputRowsTakeEffect : Prop :=
  ∀ (s : State) (input : Fin 256) (run dly : Nat) (k : Fin 16),
    (s.runs 4 →
      exec (.inputStuck input run) s = .next (if s.fd (Reg.metInFltCfg input.val) 0 12 ≤ run then inEnterFault input.val 2 s else s) ∧
      exec (.stuckCleared input) s = .next (inClearFault input.val 2 s) ∧
      exec (.manchesterLock input dly) s = .next (
        if s.inMode input.val = 2 ∧ s.bit (Reg.metMclk (s.inClk input.val)) 0 then
          inClearFault input.val 3 ((s.wrf (Reg.metInStat input.val) 8 8 (saturate 8 dly)).setV .inFrom input.val (s.counter + 1))
        else s) ∧
      exec (.lockLost input) s = .next (if s.inMode input.val = 2 then inEnterFault input.val 3 (s.setV .inFrom input.val 0) else s) ∧
      exec (.mclkFault k) s = .next (
        if s.bit (Reg.metMclk k.val) 0 ∧ s.bit (Reg.metMclk k.val) 13 = false then
          let m := s.inputsOfClk k.val
          let stalls := (List.range 32).filter fun t => m.any fun i => decide (t ∈ s.stallsOfInput i)
          let mask := (stalls.map fun t => 2 ^ t).sum
          let s1 := fault 0x0401 k.val (if mask = 0 then 0 else 1) mask true ((s.hwb (Reg.metMclk k.val) 13 true).evt 0x400 16)
          winStatRefresh (each (s.selectorsOfClk k.val) (fun i t => if t.inMode i = 0 then inBit i 4 true t else inEnterFault i 4 t) s1)
        else s) ∧
      exec (.mclkFaultClear k) s = .next (
        if s.bit (Reg.metMclk k.val) 13 then
          winStatRefresh (each (s.selectorsOfClk k.val) (fun i t => inClearFault i 4 t)
            (fault 0x0401 k.val 0 0 false (s.hwb (Reg.metMclk k.val) 13 false)))
        else s) ∧
      exec (.qualificationComplete input) s = .next (
        if s.bit (Reg.metInStat input.val) 5 ∧ s.v .inQual input.val + (s.fd (Reg.metInFltCfg input.val) 16 8 * 10000000 : Nat) ≤ s.counter then
          inQualified input.val s
        else s) ∧
      exec (.overcurrentDecision input) s = .next (if s.v .ocDue input.val = 1 then overcurrent input.val (s.setV .ocDue input.val 0) else s))

/-- The rows of settlement, analysis, publication, saves and the metrology core (R137, R140, R145 to R147). A lockstep error during the
METROLOGY kind's ACTIVATING or TRIAL is a trial failure (R469). -/
def Obligations.EnergyRowsTakeEffect : Prop :=
  ∀ (s : State) (mp : Fin 64) (ok : Bool),
    (s.supplied →
      exec (.settlementEnd mp) s = .next (
        let p := s.mp mp.val
        let k := settleNs p.se
        let f := s.inFreq (s.mpSlot mp.val 0 % 256)
        let e := (p.netPer + 1) * k
        if k ≠ 0 ∧ p.ty ≠ 0 ∧ (e ≤ p.n * mainNs f - groupNs f ∨ e + 6 * mainNs f ≤ s.gridNs) then settleAt mp.val e s else s) ∧
      exec .metPublication s = .next (State.metPublication (readingsDue s)) ∧
      exec .periodicSave s = .next (
        match s.saveSet with
        | some (t, set) => if s.saving.isNone then saveBegin t set s else s
        | none => s) ∧
      exec (.saveComplete ok) s = .next (
        match s.saving with
        | none => s
        | some c =>
          if ok then
            let k := s.n .saveNum + 1
            let s1 := { s with saving := none, copies := keepCopies ({ c with num := k } :: s.copies) }.setV .saveNum 0 k
            fault 0x0405 0 0 0 false ((s1.hw Reg.metSaveNum k).hw Reg.metSaveTSec (secsOf c.time))
          else fault 0x0405 0 0 0 true ((({ s with saving := none }.setV .saveWant 0 1)).evt 0x40B 18)) ∧
      exec .coreRestored s = .next (State.coreRestored s) ∧
      exec (.analysisWindowEnd mp) s = .next (excessWindow mp.val (analysisEnd mp.val s))) ∧
    (s.settles →
      exec .metCoreLockstep s = .next (if s.bit Reg.metCoreStat 0 then trialFailure 3 (coreLockstep s) else coreLockstep s))

/-- The rows of the hub balance and of the allocator (R159 to R172). -/
def Obligations.BalanceAndLimitRowsTakeEffect : Prop :=
  ∀ (s : State) (frame : List Byte) (g : Fin 8),
    (s.runs 4 →
      exec .balanceTick s = .next (balSentOut s (State.balanceTick s)) ∧
      exec (.balanceFrameReceived frame) s = .next (
        let w := s.balAsOf (leAt frame 8 6 * 10 + leAt frame 14 1)
        if w.bit Reg.balNbCfg 1 = false then s
        else
          let nb := (List.range 8).find? fun k => decide (w.rd (Reg.balNbDev k) = leAt frame 2 6 ∧ leAt frame 2 6 ≠ 0)
          let stop := (leAt frame 8 6 * 10 + leAt frame 14 1 + 1) * 100000000
          let ok := decide (52 ≤ frame.length ∧ leAt frame 0 1 = 1 ∧ leAt frame 48 4 = crc32c (frame.take 48)) && maskBit (leAt frame 15 1) 1
            && maskBit (leAt frame 15 1) 2 && decide (stop ≤ s.gridNs ∧ s.gridNs ≤ stop + 50000000)
          match nb with
          | some k =>
            if ok then
              eachBelow 8 (fun g t => eachBelow 4 (fun r u => balRemote w g r k frame u) t) (s.inc Reg.balNbCnt 16 16 1)
            else s.inc Reg.balNbCnt 32 16 1
          | none => s.inc Reg.balNbCnt 32 16 1) ∧
      exec (.balancePeriodEnd g) s = .next (
        match s.balPeriods g.val with
        | [] => s
        | p :: rest =>
          let secs := p.secs
          let stop := (p.num + 1) * secs
          let w := s.balAsOf (10 * stop - 1)
          let nr := (w.balRemotes g.val).length
          if s.gridNs < stop * 1000000000 + (if nr = 0 then 1000000 else 60000000) then s
          else
            let full := decide (p.ticks = 10 * secs) && decide (p.seen.length = p.ticks * nr) && !p.broken
            let r := p.src - p.snk - p.loss
            let b : Int := ((w.fd (Reg.balAbs g.val) 0 32 * secs * 1000000 + w.fd (Reg.balRel g.val) 0 24 * p.src.natAbs / 2 ^ 24 + p.u : Nat))
            let mj (x : Int) : Nat := unsigned 48 (x / 1000)
            let s1 := ((setBal g.val rest s).hw (Reg.balTSec g.val) (stop % 2 ^ 48)).hw (Reg.balESrc g.val) (mj p.src)
            let s2 := ((s1.hw (Reg.balESnk g.val) (mj p.snk)).hw (Reg.balELoss g.val) (mj p.loss)).hw (Reg.balRes g.val) (mj r)
            let s3 := (s2.hw (Reg.balBound g.val) (mj b)).hw (Reg.balUnmeas g.val) (mj p.u)
            if full then
              let sum := unsigned 96 (signed 96 (s3.rd (Reg.balResSumHi g.val) * 2 ^ 48 + s3.rd (Reg.balResSumLo g.val)) + r)
              balRun g.val (w.fd (Reg.balCfg g.val) 16 4) r b (((s3.hw (Reg.balResSumHi g.val) (sum / 2 ^ 48)).hw (Reg.balResSumLo g.val) (sum % 2 ^ 48)).hwb (Reg.balStat g.val) 2 false)
            else ((s3.hwb (Reg.balStat g.val) 2 true).inc (Reg.balStat g.val) 32 16 1).evt (0x491 + g.val) 18)) ∧
    (s.supplied →
      exec .allocationInstant s = .next (State.allocationInstant s) ∧
      exec .grantCommit s = .next (
        let d := s.v .alcDue
        if d = 0 ∨ (s.gridNs : Int) < d - 1 + 1000000 ∨ s.alcRuns = false then s
        else eachBelow 32 grantStall (s.setV .alcDue 0 0)) ∧
      exec .hardPauseResume s = .next (
        let span : Int := (max 1 (s.fd Reg.alcCfg 20 8) * 1000000000 : Nat)
        let now : Int := s.gridNs
        let ts := (List.range 32).filter fun t => s.bit Reg.alcPaused t
        let c := ts.foldl (fun c t => max c (s.alcClass t)) 0
        let go := ts.filter fun t => decide (s.alcClass t = c) && decide (s.v .alcOkFrom t ≠ 0)
          && decide (s.v .alcOkFrom t - 1 + span ≤ now)
        if go = [] ∨ (s.v .alcBackAt ≠ 0 ∧ now < s.v .alcBackAt - 1 + span) ∨ s.ownerFault 0x600 then s
        else ((each go (fun t u => hardRelease t 2 u) s).setV .alcBackAt 0 (now + 1)).evt 0x620 17))

/-- The rows of power quality and of the lost fast path (R180 to R189, R305). A half-cycle ends where the samples of CH0 put its
boundary. -/
def Obligations.PowerQualityRowsTakeEffect : Prop :=
  ∀ (s : State) (input : Fin 256) (mp : Fin 64),
    (s.runs 5 →
      exec (.peakClose input) s = .next (if 16 ≤ s.v .pkRun input.val then pkClose input.val (s.n .pkFirst input.val) false s else s) ∧
      exec (.halfCycleEnd mp) s = .next (
        if !s.pqRuns mp.val ∨ s.v .ownerFault 4 = 1 then s
        else
          match s.halfBoundary mp.val with
          | none => s
          | some (g, stop) =>
            let s0 := (s.setV .hcFrom mp.val (g + 1)).setV .hcFromC mp.val stop
            if s.v .hcFrom mp.val = 0 then s0
            else
              let h (c : Nat) : HalfChan := halfChan (s.mp mp.val).wave (s.v .hcFrom mp.val - 1).toNat g c
              let start := s.n .hcFromC mp.val
              let cs := s.pqChans mp.val
              let n := s.n .hcCount mp.val + 1
              let s1 := (s0.setV .hcCount mp.val n).hwb (Reg.pqMpStat mp.val) 3 (cs.any fun c => !(h c).valid)
              let s2 := each cs (fun c t =>
                let t1 := t.hw (Reg.pqMpHc mp.val c) ((h c).rms % 2 ^ 24 + n % 2 ^ 24 * 2 ^ 24)
                if (h c).valid then t1.setV .hcInvFrom (4 * mp.val + c) 0
                else if t1.v .hcInvFrom (4 * mp.val + c) = 0 then t1.setV .hcInvFrom (4 * mp.val + c) (start + 1) else t1) s1
              halfDetect mp.val start stop h (if cs.any fun c => (h c).valid then s2.setV .hcValidEnd mp.val stop else s2)) ∧
      exec (.pqInvalidTimeout mp) s = .next (
        let over_ := (s.pqChans mp.val).filter fun c =>
          let t := s.v .hcInvFrom (4 * mp.val + c)
          decide (t ≠ 0) && decide (t - 1 + 1000000000 ≤ s.counter)
        if over_ = [] then s else each over_ (fun c t => t.setV .hcInvFrom (4 * mp.val + c) (s.counter + 1)) (pqCloseMp mp.val s))) ∧
    (s.supplied →
      exec .fastPathDownTimeout s = .next (if s.bit Reg.safState 5 ∧ s.v .fastDownAt + 999999 < s.counter then commonOnce 9 0 s else s))

/-! Stalls, vehicle sessions and partitions. -/

/-- The pilot rows, while the STL block runs: a class accepted acts through its trigger, an invalid pilot and a diode fault ask for the
safe state, a duty comes into force 10 µs after the boundary that set it, and B withdraws the contactors of an AC stall after 10 ms
(R205, R208 to R210). -/
def Obligations.PilotRowsTakeEffect : Prop :=
  ∀ (s : State) (stall : Fin 32) (hi lo : Int),
    (s.runs 6 →
      exec (.pilotClassAccepted stall hi lo) s = .next (
        let m := s.mode stall.val
        let c := pilotClass hi
        if m = 0 ∨ m = 9 then s
        else if m = 8 then
          if s.accepted stall.val = c then s else (s.setV .pilotAcc stall.val (c + 1)).setV .pilotAt stall.val s.counter
        else
          let a := Reg.stlPilot stall.val
          let s0 := if s.fd a 4 12 = 0 then dutyApply stall.val s else s
          let s1 := s0.hwf a 16 16 (unsigned 16 hi)
          let s2 := s1.hwf a 32 16 (if s1.fd a 4 12 < 1000 ∧ s1.fd a 4 12 ≠ 0 then unsigned 16 lo else 0)
          let changed := decide (s2.accepted stall.val ≠ c)
          let s3 := if changed then
              ((s2.setV .pilotAcc stall.val (c + 1)).setV .pilotAt stall.val s2.counter).hwf a 0 3 c |>.evt (0x600 + stall.val) 18
            else s2
          let s4 := if s3.effective stall.val = 1 then s3 else s3.setV .bWithdraw stall.val 0
          if c = 4 then s4.trigger stall.val (.safe 0x20)
          else if c = 6 then s4.trigger stall.val (.safe 0x22)
          else if c = 0 then (if s4.enabled stall.val ∧ s4.inSession stall.val then withdraw stall.val s4 else s4).trigger stall.val (.pilot 0)
          else
            let e := s4.effective stall.val
            let s5 := if c = 3 ∧ e = 1 then s4.hwb (Reg.stlMode stall.val) 25 true else s4
            let s6 := s5.trigger stall.val (.pilot e)
            if e = 1 then s6
            else (vehicleLift stall.val s6).trigger stall.val .contactors) ∧
      exec (.pilotInvalidTimeout stall) s = .next (
        let m := s.mode stall.val
        if m = 0 ∨ m = 8 ∨ m = 9 then s
        else
          let s1 := ((s.setV .pilotAcc stall.val 7).setV .pilotAt stall.val s.counter).hwf (Reg.stlPilot stall.val) 0 3 6
          (s1.evt (0x600 + stall.val) 18).trigger stall.val (.safe 0x22)) ∧
      exec (.diodeFault stall lo) s = .next (
        let a := Reg.stlPilot stall.val
        let d := s.fd a 4 12
        if 30 ≤ d ∧ d ≤ 970 ∧ -1050 < lo then
          ((s.hwb a 3 true).hwf a 32 16 (unsigned 16 lo)).trigger stall.val (.safe 0x21)
        else s) ∧
      exec (.pilotDutyApply stall) s = .next (if s.v .dutyAt stall.val + 10000 ≤ s.counter then dutyApply stall.val s else s) ∧
      exec (.pilotBWithdraw stall) s = .next (
        let t := s.v .bWithdraw stall.val
        if t ≠ 0 ∧ t - 1 ≤ s.counter then (lostContact stall.val s).setV .bWithdraw stall.val 0 else s))

/-- The other rows of a stall: proximity, over-draw, the idle proof, a cleared cause of the safe state, the insulation bridge and the
reports of the leading partition (R199, R201, R202, R211 to R214). -/
def Obligations.StallRowsTakeEffect : Prop :=
  ∀ (s : State) (stall : Fin 32) (ohms : Nat) (held : Bool) (p : Partition),
    (s.runs 6 →
      exec (.ppCodeAccepted stall ohms) s = .next (if s.ppMode stall.val = 1 then ppAccept stall.val (ppCode ohms) (s.hwf (Reg.stlPp stall.val) 8 16 (saturate 16 ohms)) else s) ∧
      exec (.ppTimeout stall) s = .next (if s.ppMode stall.val = 1 then ppAccept stall.val 5 s else s) ∧
      exec (.overdraw stall) s = .next (
        let lim : Int := (s.fd (Reg.stlCfg stall.val) 32 8 * 1000000000 : Nat)
        let t := s.v .excessAt stall.val
        if t ≠ 0 ∧ t - 1 + lim ≤ s.counter then s.trigger stall.val (.endSession 6)
        else if s.mode stall.val = 5 ∧ s.isDc stall.val = false ∧ s.hlc stall.val = false ∧ s.accepted stall.val = 2
            ∧ max (s.v .pausedAt stall.val) (s.v .pilotAt stall.val) + lim ≤ s.counter then
          (lostContact stall.val s).trigger stall.val (.endSession 6)
        else s) ∧
      exec (.idleProof stall held) s = .next (State.idleProof stall.val held (gleanProof stall.val held s)) ∧
      exec (.safeCauseCleared stall) s = .next (
        if s.mode stall.val = 8 ∧ s.causeAuto stall.val ∧ s.causeCleared stall.val ∧ s.takeover stall.val = false
            ∧ s.partState (s.leader stall.val) = 0 ∧ s.v .proofWait stall.val = 0 then
          s.trigger stall.val .return_
        else s) ∧
      exec (.cableCheckStarted p stall) s = .next (if s.leads p stall.val ∧ s.insAllowed stall.val ∧ s.inSession stall.val then insRun stall.val (s.setV .cableChk stall.val 1) else s) ∧
      exec (.cableCheckEnded p stall) s = .next (if s.leads p stall.val then insRun stall.val (s.setV .cableChk stall.val 0) else s) ∧
      exec (.powerDeliveryStarted p stall) s = .next (if s.leads p stall.val then s.trigger stall.val .delivery else s) ∧
      exec (.insSwToggle stall) s = .next (insStep stall.val s.gridTen s))

/-- The rows of link matching, of the choice of a protocol and of a session in progress, while the vehicle sessions run (R228 to R247). -/
def Obligations.VehicleRowsTakeEffect : Prop :=
  (∀ (s : State) (stall : Fin 32) (runId atten evccid : Nat) (tls : Bool) (offers : List (Nat × Nat)),
     (s.sessionsRun →
       exec (.cmSlacParamReq stall runId atten) s = .next (
         if s.slacOpen stall.val = false then s
         else
           let a := Reg.vhsLink stall.val
           let s0 := if s.link stall.val = 4 then
               (s.addV .slacRetry stall.val 1).setV .slacEnd stall.val (s.counter + s.slacInit + 1)
             else s
           let s1 := if s0.v .slacTried stall.val = 0 then (s0.hwf a 16 4 (s0.slacTries stall.val + 1)).setV .slacTried stall.val 1 else s0
           let x := s1.veh stall.val
           let s2 := s1.setVeh stall.val { x with runs := (x.runs.filter fun r => decide (r.1 ≠ runId)) ++ [(runId, atten, s1.counter)] }
           (s2.hwf a 0 3 2).hwf a 8 8 (saturate 8 atten)) ∧
       exec (.cmSlacMatchReq stall runId evccid) s = .next (
         if s.slacOpen stall.val = false ∨ s.link stall.val ≠ 2 then s
         else
           let a := Reg.vhsLink stall.val
           if s.slacCross stall.val runId then s.inc a 32 16 1
           else
             let s1 := ephNew (8 * stall.val) (s.setVeh stall.val { s.veh stall.val with nmk := some (s.ephHandle (8 * stall.val)) })
             let s2 := ((s1.hwf a 0 3 3).hw (Reg.vhsEvccid stall.val) evccid).hwb Reg.vhsSumLink stall.val true
             ((s2.setV .slacEnd stall.val 0).setV .sdpEnd stall.val (s2.counter + 20000000000 + 1)).evt (0x700 + stall.val) 16) ∧
       exec (.slacTimeout stall) s = .next (
         let t := s.v .slacEnd stall.val
         if t = 0 ∨ (s.counter : Int) < t - 1 ∨ s.link stall.val = 3 then s
         else
           let s1 := s.hwf (Reg.vhsLink stall.val) 0 3 4
           if s1.v .slacTried stall.val = 0 ∨ 3 ≤ s1.v .slacRetry stall.val then hlcFail stall.val s1
           else (s1.setV .slacEnd stall.val (s1.counter + s1.slacInit + 1)).setV .slacTried stall.val 0) ∧
       exec (.sdpRequest stall tls) s = .next (
         if s.link stall.val ≠ 3 ∨ s.proto stall.val ≠ 3 ∨ s.hlc stall.val = false then s
         else (s.setV .sdpEnd stall.val 0).hwb (Reg.vhsSess stall.val) 2 tls) ∧
       exec (.sdpTimeout stall) s = .next (
         let t := s.v .sdpEnd stall.val
         if t = 0 ∨ (s.counter : Int) < t - 1 then s else hlcFail stall.val s) ∧
       exec (.supportedAppProtocolReq stall offers) s = .next (appProtocol stall.val offers s))) ∧
  (∀ (s : State) (stall : Fin 32) (r : TlsRec),
     (s.sessionsRun →
       exec (.tlsRecordReceived stall r) s = .next (
         if s.link stall.val ≠ 3 ∨ s.hlc stall.val = false then s
         else
           let s1 := each r.frames (modemFrame stall.val) s
           if ((r.frames.getLast?).getD []).any fun f => decide (8 < f) then s1
           else if r.ok then recordTaken stall.val r s1
           else s1.trigger stall.val (.endSession 9)))) ∧
  (∀ (s : State) (stall : Fin 32) (req : V2gReq) (p : Partition) (r : PartRes) (chain : CertChain) (retx : Nat),
     (s.sessionsRun →
       exec (.v2gRequest stall req) s = .next (State.v2gRequest stall.val req s) ∧
       exec (.partitionResponse p stall r) s = .next (State.partitionResponse p stall.val r s) ∧
       exec (.certVerifyComplete stall chain) s = .next (
         if s.link stall.val ≠ 3 ∨ s.bit (Reg.vhsSess stall.val) 3 = false ∨ s.v .certResult stall.val ≠ 0 then s
         else
           let res := s.certResultOf chain
           let s1 := (s.setV .certResult stall.val res).hwf (Reg.vhsSess stall.val) 8 4 res
           if s1.mode stall.val = 2 then
             let q := s1.nextSeq
             askHost stall.val 2 q (submit (s1.sessRec stall.val 1 0 0 [(1, 2), (1, res)]) s1)
           else s1) ∧
       exec (.authDeadline stall) s = .next (State.authDeadline stall.val s) ∧
       exec (.stopGraceExpiry stall) s = .next (
         let t := s.v .stopAt stall.val
         if t = 0 ∨ (s.counter : Int) < t - 1 + 5000000000 then s
         else fbSupervise stall.val (withdraw stall.val (s.setV .stopAt stall.val 0))) ∧
       exec (.tcpTimeout stall retx) s = .next (
         let t := s.v .tcpAt stall.val
         if s.link stall.val ≠ 3 ∨ s.hlc stall.val = false ∨ t = 0 ∨ (s.counter : Int) < t - 1 + 60000000000 then s
         else (s.inc (Reg.vhsErrCnt stall.val) 32 16 retx).trigger stall.val (.endSession 8)) ∧
       exec (.sequenceTimeout stall) s = .next (
         let t := s.v .lastReq stall.val
         if t = 0 ∨ (s.counter : Int) < t - 1 + 60000000000 then s else s.trigger stall.val (.endSession 0xB))))

/-- The rows of the front ends and of the partitions (R202, R234, R245 to R248, R510 to R513). A failure during the RESIDENT kind's
ACTIVATING or TRIAL is a trial failure (R469). -/
def Obligations.FrontEndAndPartitionRowsTakeEffect : Prop :=
  ∀ (s : State) (stall : Fin 32) (pp ok : Bool) (p : Partition) (cause : Nat),
    (s.settles →
      exec (.pilotFrontEndFault stall pp) s = .next (frontEndFail stall.val pp.toNat (fault (if pp then 0x0602 else 0x0601) stall.val 1 (2 ^ stall.val) true s)) ∧
      exec (.modemFrontEndFault stall) s = .next (frontEndFail stall.val 2 (fault 0x0701 stall.val 1 (2 ^ stall.val) true (s.hwf (Reg.vhsSess stall.val) 16 8 0x24))) ∧
      exec (.engineReload stall ok) s = .next (
        if s.v .ownerFault 7 = 0 then s
        else if ok then
          match (s.veh stall.val).ckpt with
          | some c => s.setVeh stall.val { s.veh stall.val with tcp := c.1, req := c.2 }
          | none => s
        else frontEndFail stall.val 2 (fault 0x0702 stall.val 1 (2 ^ stall.val) true s)) ∧
      exec (.frontEndHealthy stall) s = .next (each [0x0601, 0x0602, 0x0701, 0x0702] (fun c t => fault c stall.val 1 (2 ^ stall.val) false t) (s.setV .frontBad stall.val 0)) ∧
      exec (.supervisionSignal p) s = .next (s.setV .supAt (partIx p) (s.counter + 1)) ∧
      exec (.partitionFailure p cause) s = .next (
        let a := Reg.fltPart
        let t := partFailure (partIx p) cause s
        if t.fd a (16 + 16 * (partIx p)) 16 = s.fd a (16 + 16 * (partIx p)) 16 then t
        else
          let u := trialFailure 1 t
          if u.updState 1 = t.updState 1 then u else u.setV .updStep 0 (setField (u.n .updStep) (partIx p) 1 0 : Nat)) ∧
      exec (.takeover stall) s = .next (updNext (takeOver stall.val s)) ∧
      exec .partitionsUnavailable s = .next (
        let t := s.v .noServeAt
        if t = 0 ∨ (s.counter : Int) < t - 1 + 20000000 then s
        else commonOnce 0xD 0 (fault 0xFE02 0xFFFF 2 0 true s))) ∧
    (s.serving →
      exec (.partitionRestartStage p) s = .next (updNext (partStage (partIx p) s)) ∧
      exec (.ringRebuilt p) s = .next (updNext (State.ringRebuilt (partIx p) s)))

/-! Drive outputs and safety functions. -/

/-- The rows of a drive output and of an output bank, while the DRV block runs where it detects them: measurement, open load, the wire
model, short circuit, thermal shutdown, retries, clamp, pull-in, supply, load shedding and ground (R256, R257, R260 to R267, R270, R271,
R273, R274). -/
def Obligations.DriveRowsTakeEffect : Prop :=
  (∀ (s : State) (out : Fin 64) (ma mv10 tj : Int) (us uj : Nat) (inPwmOff : Bool),
     (s.runs 8 →
       exec (.currentMeasurement out ma mv10 tj) s = .next (
         let v := saturateSigned 16 ma + saturateSigned 16 mv10 * 2 ^ 16 + saturateSigned 8 tj * 2 ^ 32
         let s1 := (bankTick (powerTick s)).wr (Reg.drvOutMeas out.val) v
         let s2 := ((s1.addV .sqSum out.val (ma * ma)).addV .sqN out.val 1).wrf (Reg.drvOutStat out.val) 16 1 (s1.outHigh out.val).toNat
         let s3 := (((s2.addV .fuSum out.val ma).addV .fuN out.val 1).addV .shSum out.val ma).addV .shN out.val 1
         let s4 := s3.wrf (Reg.drvBankStat (out.val / 8)) 16 16 (saturate 16 (s3.bankMa (out.val / 8)).toNat)
         let low := decide (ma.natAbs < 10)
         if s4.v .pulse out.val ≠ 0 then s4
         else
           let s5 := if s4.conducts out.val && low then (if s4.v .lowFrom out.val = 0 then s4.setV .lowFrom out.val (s4.counter + 1) else s4)
             else s4.setV .lowFrom out.val 0
           if s5.bit (Reg.drvOutStat out.val) 10 && s5.conducts out.val && !low then drvClear out.val [10] s5 else s5) ∧
       exec (.openLoad out) s = .next (
         if s.bit (Reg.drvOutCfg out.val) 28 ∧ s.conducts out.val ∧ s.v .pulse out.val = 0 ∧ s.v .lowFrom out.val ≠ 0
             ∧ s.v .lowFrom out.val - 1 + 100000000 ≤ s.counter then
           drvRaise out.val [10] s
         else s) ∧
       exec (.fuseModelUpdate out) s = .next (
         let k := s.counter / 100000 + 1
         if s.v .fuBlk out.val = k then s
         else fuseStep out.val (s.meanMa .fuSum .fuN out.val) (((s.setV .fuSum out.val 0).setV .fuN out.val 0).setV .fuBlk out.val k)) ∧
       exec (.retry out) s = .next (
         let t := s.v .retryAt out.val
         if t ≠ 0 ∧ t - 1 ≤ s.counter ∧ s.useOf out.val = 0 then
           let left := s.fd (Reg.drvOutStat out.val) 13 3
           let s1 := ((s.setV .retryAt out.val 0).hwf (Reg.drvOutStat out.val) 13 3 (left - 1)).setV .conductFrom out.val s.counter
           drvClear out.val [6] (s1.evt (drvPage out.val) 25)
         else s) ∧
       exec (.retriesRestore out) s = .next (
         if s.conducts out.val ∧ s.v .pullStart out.val + 60000000000 ≤ s.counter ∧ s.v .conductFrom out.val + 60000000000 ≤ s.counter then
           s.hwf (Reg.drvOutStat out.val) 13 3 (s.retryMax out.val)
         else s) ∧
       exec (.clampHotEnd out) s = .next (if s.bit (Reg.drvOutStat out.val) 12 ∧ s.v .clampEnd out.val ≤ s.counter then drvClear out.val [12] s else s) ∧
       exec (.pullInEnd out) s = .next (
         if s.conducts out.val ∧ s.fd (Reg.drvOutCfg out.val) 3 2 = 1
             ∧ s.v .pullStart out.val + (s.fd (Reg.drvOutEcon out.val) 0 10 * 1000000 : Nat) ≤ s.counter then
           drvRefresh out.val (s.setV .pullDone out.val 1)
         else s)) ∧
     (s.supplied →
       exec (.shortCircuit out us) s = .next (
         if s.conducts out.val = false ∨ us < s.fd (Reg.drvOutCfg out.val) 20 8 * 50 then s
         else if 170 ≤ s.tj out.val then thermalShutdown out.val s
         else
           let left := s.fd (Reg.drvOutStat out.val) 13 3
           let s1 := tripCount out.val s
           if s.useOf out.val ≠ 0 ∨ left = 0 then drvRaise out.val [6, 9] s1
           else drvRaise out.val [6] (s1.setV .retryAt out.val (s1.counter + s1.fd (Reg.drvOutCfg out.val) 12 8 * 10000000 + 1))) ∧
       exec (.thermalShutdown out) s = .next (drvRaise out.val [8] ((tripCount out.val s).setV .retryAt out.val 0)) ∧
       exec (.clampEvent out uj inPwmOff) s = .next (
         let keep := (s.clamps ++ [(out.val, s.counter, uj)]).filter fun x => decide (s.counter < x.2.1 + 1000000000)
         let s1 := ({ s with clamps := keep }).inc (Reg.drvOutCnt out.val) 32 16 1
         let e : Nat := ((keep.filter fun x => decide (x.1 = out.val)).map fun x => x.2.2).sum
         let s2 := if 150000 < e then drvRaise out.val [12] (s1.setV .clampEnd out.val (s1.counter + 10000000000)) else s1
         if inPwmOff ∧ s2.fd (Reg.drvOutStat out.val) 0 3 = 2 then drvRaise out.val [11] (s2.setV .noFw out.val 1) else s2))) ∧
  (∀ (s : State) (bank : Fin 8) (mv : Int),
     (s.supplied →
       exec (.vauxCondition bank mv) s = .next (
         let a := Reg.drvBankStat bank.val
         let s1 := vauxWatch bank.val mv (vauxSet bank.val mv s)
         let now (lo hi : Int) := decide (lo ≤ mv ∧ mv < hi)
         let enter (i : Nat) (c : Bool) (t : State) : State := if c then t.hwb a i true else t
         let uv := decide (mv < 16000)
         let ov := decide (36000 < mv)
         let rev := decide (mv < -1000)
         let fresh := (uv && !s1.bit a 32) || (ov && !s1.bit a 35) || (rev && !s1.bit a 36)
         let s2 := if uv && !s1.bit a 32 then s1.inc (Reg.drvBankCnt bank.val) 16 16 1 else s1
         let s3 := if ov && !s1.bit a 35 then s2.inc (Reg.drvBankCnt bank.val) 0 16 1 else s2
         let s4 := enter 36 rev (enter 35 ov (enter 34 (decide (32000 < mv ∧ mv ≤ 36000)) (enter 33 (now 16000 18000) (enter 32 uv s3))))
         bankActs bank.val fresh s4) ∧
       exec (.vauxConditionRelease bank mv) s = .next (
         let s1 := vauxWatch bank.val mv (vauxSet bank.val mv s)
         bankActs bank.val false (eachBelow 5 (fun i t =>
           if t.v .vauxOk (8 * bank.val + i) ≠ 0 ∧ t.v .vauxOk (8 * bank.val + i) - 1 + 10000000 ≤ t.counter then t.hwb (Reg.drvBankStat bank.val) (vauxBit i) false
           else t) s1)) ∧
       exec (.gndLoss bank) s = .next (
         let a := Reg.drvBankStat bank.val
         bankActs bank.val (!s.bit a 37) (s.hwb a 37 true)) ∧
       exec (.gndRestored bank) s = .next (bankActs bank.val false (s.hwb (Reg.drvBankStat bank.val) 37 false))) ∧
     (s.runs 8 →
       exec (.bankShed bank) s = .next (
         let s1 := bankTick s
         if s1.bit (Reg.drvBankStat bank.val) 38 = false ∨ (s1.v .shedAt bank.val ≠ 0 ∧ s1.counter < s1.v .shedAt bank.val - 1 + 10000000) then s1
         else
           match ((List.range 8).reverse.map fun j => 8 * bank.val + j).find? fun o => decide (s1.useOf o = 0) && s1.conducts o with
           | some o => drvRaise o [17] ((s1.inc (Reg.drvBankCnt bank.val) 32 16 1).setV .shedAt bank.val (s1.counter + 1))
           | none => s1)))

/-- The rows of the trip inputs and outputs, of the two channels and of the feed (R285 to R291). The loss of a channel or a disagreement
during the SAFETY kind's ACTIVATING or TRIAL is a trial failure (R469). -/
def Obligations.TripInputAndChannelRowsTakeEffect : Prop :=
  ∀ (s : State) (k : Fin 16) (high : Bool) (j : Fin 8) (verdictsDiffer : Bool) (c : Channel) (osc : Bool) (seq : Nat) (target : Option Nat),
    (s.supplied →
      exec (.tripInChange k high) s = .next (
        let low := !high
        let s0 := sourcesSeen s
        if s0.bit Reg.safTinStat k.val = low then s0
        else
          let keep := (s0.tinChanges ++ [(k.val, s0.counter)]).filter fun x => decide (s0.counter < x.2 + 1000000000)
          let s1 := (({ s0 with tinChanges := keep }).hwb Reg.safTinStat k.val low).setV .tinPinAt k.val s0.counter
          let direct := decide (field (s1.tinCfg k.val) 35 8 = 0)
          tinRefresh k.val (s1.setV .tinFilt k.val (if low && direct then 1 else 0))) ∧
      exec (.tripFilterExpiry k) s = .next (
        let f := field (s.tinCfg k.val) 35 8
        if s.bit Reg.safTinStat k.val ∧ s.v .tinPinAt k.val + (f * 1000 : Nat) ≤ s.counter then tinRefresh k.val (s.setV .tinFilt k.val 1) else s) ∧
      exec (.chatter k) s = .next (
        let n := (s.tinChanges.filter fun x => decide (x.1 = k.val ∧ s.counter < x.2 + 1000000000)).length
        if 10 < n ∧ maskBit (s.tinCfg k.val) 33 ∧ s.bit Reg.safTinStat (32 + k.val) = false then
          let s1 := s.hwb Reg.safTinStat (32 + k.val) true
          tinRefresh k.val (tinRec k.val 2 s1)
        else s) ∧
      exec (.chatterEnd k) s = .next (
        if s.bit Reg.safTinStat (32 + k.val) ∧ s.v .tinPinAt k.val + 1000000000 ≤ s.counter then
          tinRefresh k.val (tinRec k.val 3 ((sourcesSeen s).hwb Reg.safTinStat (32 + k.val) false))
        else s) ∧
      exec (.tripOutHoldEnd j) s = .next (
        let s1 := tripOutRefresh j.val s
        let t := s1.v .toutGone j.val
        if t ≠ 0 ∧ t - 1 + (field (s1.safeRd (Reg.safTout j.val)) 20 8 * 1000000 : Nat) ≤ s1.counter then
          (s1.hwb Reg.safToutStat j.val false).setV .toutGone j.val 0
        else s1) ∧
      exec (.channelExchange verdictsDiffer) s = .next (
        let differ := verdictsDiffer || (decide (s.fastX ≠ s.fastY) && decide (s.channelCrc s.fastX ≠ s.channelCrc s.fastY))
        let s0 := eachBelow 32 (fun t u => if u.fbsOf t = [] then u else proofGoOn t (fbSupervise t u)) (sourcesSeen s)
        if differ then (if s0.v .disagreeAt = 0 then s0.setV .disagreeAt 0 (s0.counter + 1) else s0)
        else if s0.v .disagreeAt ≠ 0 then (s0.setV .disagreeAt 0 0).setV .agreeFrom 0 s0.counter
        else s0) ∧
      exec .disagree s = .next (
        let t := State.disagree s
        if t.fd Reg.safState 1 3 = s.fd Reg.safState 1 3 then t else trialFailure 2 t) ∧
      exec (.channelLoss c osc) s = .next (
        let t := (State.channelLoss (channelIx c) osc) s
        if t.fd Reg.safState 1 3 = s.fd Reg.safState 1 3 then t else trialFailure 2 t) ∧
      exec (.safetyFeedRecord seq) s = .next (
        if s.bit Reg.metCoreStat 0 = false ∨ s.v .ownerFault 4 = 1 then s
        else
          let inSeq := decide (s.v .feedAt = 0 ∨ s.bit Reg.safState 6 ∨ seq = s.n .feedSeq + 1)
          let s1 := s.setV .feedSeq 0 seq
          if inSeq then
            let s2 := s1.setV .feedAt 0 (s1.counter + 1)
            let s3 := if s2.v .feedFrom = 0 then s2.setV .feedFrom 0 (s2.counter + 1) else s2
            let s4 := s3.wrf Reg.safState 6 1 0
            let k := s4.gridNs / 10000000
            if k = 0 ∨ s4.v .feedBlk 0 = (k : Nat) then s4 else feedBlock (k - 1) s4
          else s1) ∧
      exec .feedLost s = .next (
        if s.feedRuns ∨ s.bit Reg.safState 6 ∨ s.counter < 20000000 then s
        else commonOnce 9 0 ((s.hwb Reg.safState 6 true).setV .feedFrom 0 0)) ∧
      exec (.safetyRelease target) s = .next (
        match target with
        | some t => releaseStall (t % 32) (sourcesSeen s)
        | none => releaseCommon (sourcesSeen s)))

/-- The rows of residual current, of the contactors and their feedback, of a drive fault and of the proof test (R294 to R297, R301, R302,
R359). -/
def Obligations.ContactorRowsTakeEffect : Prop :=
  ∀ (s : State) (stall : Fin 32) (dc : Bool) (p : Partition) (causeSeq : Nat) (kind : OpenKind) (fb : Fin 64) (open_ : Bool) (out : Fin 64),
    (s.supplied →
      exec (.residualCurrentTrip stall dc) s = .next (if maskBit (s.safeRd (Reg.safStRc stall.val)) 32 && s.rcReached stall.val dc then trip stall.val (if dc then 6 else 5) 0 s else s) ∧
      exec (.closeRequest p stall causeSeq) s = .next (
        if s.leads p stall.val = false then s
        else if s.causeFresh stall.val 0 causeSeq = false then s.inc Reg.jnlSuppr 32 16 1
        else
          let s1 := s.setV .causeSeq (2 * stall.val) causeSeq
          let ok := s1.closeAllowed stall.val
          let s2 := requestRec p stall.val 0 ok causeSeq s1
          if ok then fbSupervise stall.val (closeContactors stall.val s2) else s2) ∧
      exec (.openRequest p stall kind causeSeq) s = .next (
        match kind with
        | .trip => fbSupervise stall.val (withdraw stall.val s)
        | k =>
          if s.leads p stall.val = false then s
          else if s.causeFresh stall.val 1 causeSeq = false then s.inc Reg.jnlSuppr 32 16 1
          else
            let s1 := requestRec p stall.val (if k = .normal then 1 else 2) true causeSeq (s.setV .causeSeq (2 * stall.val + 1) causeSeq)
            if k = .normal then (if s1.enabled stall.val then s1.setV .openReq stall.val 1 else s1)
            else fbSupervise stall.val (withdraw stall.val s1)) ∧
      exec (.fbChange fb open_) s = .next (
        let lv : Int := if open_ then 0 else 1
        let s0 := sourcesSeen s
        let s1 := if s0.v .fb fb.val = lv then s0 else (s0.setV .fb fb.val lv).setV .fbSince fb.val s0.counter
        eachBelow 32 (fun t u => if fb.val ∈ u.fbsOf t then proofGoOn t (fbSupervise t u) else u) s1) ∧
      exec (.fbCloseTimeout stall) s = .next (
        let t := s.v .closeAt stall.val
        if s.enabled stall.val ∧ t ≠ 0 ∧ t - 1 + (field (s.safeRd (Reg.safStCtr stall.val)) 0 10 * 1000000 : Nat) ≤ s.counter
            ∧ s.v .closeDone stall.val = 0 ∧ s.fbAllClosed stall.val = false then trip stall.val 7 (s.fbAt stall.val 0) s
        else s) ∧
      exec (.fbOpenTimeout stall) s = .next (
        let t := s.v .openAt stall.val
        if s.enabled stall.val = false ∧ t ≠ 0 ∧ t - 1 + (field (s.safeRd (Reg.safStCtr stall.val)) 10 10 * 1000000 : Nat) ≤ s.counter
            ∧ s.fbAllOpen stall.val = false then
          let c := s.counter
          trip stall.val 8 (s.fbAt stall.val 1) (instantReadings stall.val { s with sessions := s.sessions.map fun (x : Sess) =>
            if x.stall = stall.val ∧ x.closedAt ≠ 0 ∧ x.openAt = 0 then { x with openAt := c + 1, flags := setField x.flags 9 1 1 } else x })
        else s) ∧
      exec (.driveFault out) s = .next (
        let s1 := s.setV .driveFault out.val 1
        match s1.userOf out.val with
        | some (t, _) => trip t 0x0A out.val s1
        | none => drvFaults out.val s1) ∧
      exec (.proofTest stall) s = .next (
        if s.bit (Reg.safStStat stall.val) 5 then proofGoOn stall.val s
        else if s.proofFree stall.val && s.proofDue stall.val then proofStart stall.val s
        else s) ∧
      exec (.proofOverdue stall) s = .next (
        let c := s.safeRd (Reg.safStProof stall.val)
        if maskBit c 8 ∧ field c 0 8 + 24 ≤ s.proofHours stall.val ∧ s.bit (Reg.safStStat stall.val) 6 = false then
          fault 0x0905 stall.val 0 0 true (s.hwb (Reg.safStStat stall.val) 6 true)
        else s))

/-- The rows of the dark pulses and of the twin-path safety link (R298 to R300, R307 to R310). -/
def Obligations.DarkPulseAndSafetyLinkRowsTakeEffect : Prop :=
  ∀ (s : State) (out : Fin 64) (passed same : Bool) (port : Fin 4) (frame : List Byte) (peer : Fin 4) (path : Option Nat),
    (s.supplied →
      exec (.darkPulseDue out) s = .next (
        let p := s.tpPeriod
        let k := s.counter / p
        let due := k * p + out.val * p / 64
        if s.v .pulse out.val ≠ 0 ∨ s.pulsed out.val = false then s
        else if s.v .rePulse out.val = 1 ∧ s.conducts out.val ∧ s.v .pullStart out.val + 1000000000 ≤ s.counter ∧ s.transition out.val = false then
          pulseStart out.val (k % 2) (s.setV .rePulse out.val 0)
        else if due < s.counter ∨ s.counter + 1000 ≤ due ∨ s.v .pulsePer out.val = (k + 1 : Nat) then s
        else
          let s1 := s.setV .pulsePer out.val (k + 1)
          if s1.conducts out.val = false then s1
          else if s1.transition out.val then s1.setV .pulseWait out.val (s1.counter + 10000000 + 1)
          else pulseStart out.val (k % 2) s1) ∧
      exec (.darkPulseRetry out) s = .next (
        let k := s.counter / s.tpPeriod
        if s.v .pulseWait out.val = 0 then s
        else if s.v .pulsePer out.val ≠ (k + 1 : Nat) then (s.setV .pulseWait out.val 0).inc Reg.safTpCnt 32 16 1
        else if s.counter < s.v .pulseWait out.val - 1 then s
        else if s.conducts out.val = false then s.setV .pulseWait out.val 0
        else if s.transition out.val then s.setV .pulseWait out.val (s.counter + 10000000 + 1)
        else pulseStart out.val (k % 2) s) ∧
      exec (.darkPulseEnd out passed) s = .next (
        let ch := s.n .pulse out.val
        if ch = 0 ∨ s.counter < s.v .pulseAt out.val + (field (s.safeRd Reg.safTpCfg) 0 9 * 1000 : Nat) then s
        else
          let back := drvRefresh out.val ((s.setV .pulse out.val 0).hwb (Reg.drvOutStat out.val) (3 + ch) true)
          if passed then back.inc Reg.safTpCnt 0 32 1
          else
            let failed (t : State) : State := (t.hwb (tpFailSlot out.val) (out.val % 32) true).evt 0x902 16
            match s.userOf out.val with
            | some (t, 2) => trip t 0x0B out.val (failed back)
            | some (t, _) => trip t 0x0B out.val (failed s)
            | none => fault 0x0906 out.val 0 0 true (failed (dropEnables out.val s))) ∧
      exec (.safetyLinkTransmit same) s = .next (slSentOut s (slTransmit same s)) ∧
      exec (.safetyLinkCopy port frame) s = .next (if s.portUp port.val then slCopy port.val frame s else s) ∧
      exec (.pairTimeout peer) s = .next (
        let late := s.slCopies.filter fun x => decide (x.peer = peer.val ∧ x.counter + 2000000 < s.counter)
        { s.inc Reg.slCnt 32 16 late.length with
          slCopies := s.slCopies.filter fun (x : SlCopy) => !decide (x.peer = peer.val ∧ x.counter + 2000000 < s.counter) }) ∧
      exec (.safetyLinkWatchdog peer path) s = .next (
        if s.slPeerOn peer.val = false then s
        else match path with
        | none =>
          if s.v .slAccAt peer.val + s.slWd ≤ s.counter ∧ ¬ (s.v .slExpired peer.val = 1 ∧ s.v .slRef peer.val = 0) then
            let s1 := (((s.setV .slExpired peer.val 1).setV .slRef peer.val 0).setV .slRun peer.val 0).inc (Reg.slPeerStat peer.val) 32 16 1
            let old := s1.fd (Reg.slPeerStat peer.val) 0 4
            let new := setField old 0 1 0
            slApply peer.val (slStat peer.val (if s1.slIntegrity then setField new 1 2 0 else new) s1)
          else s
        | some k =>
          let i := 2 * peer.val + k % 2
          if s.slIntegrity = false ∧ s.v .slPathAt i + s.slWd ≤ s.counter ∧ s.v .slPathLost i = 0 then
            slRefresh peer.val ((s.setV .slPathLost i 1).setV .slPathRun i 0)
          else s))

/-! Queues, journal, gleaning, billing, keys, contactless interface, update, ports, link, supplies. -/

/-- The rows of the queues (R321 to R336): items pushed and popped, the end of a stall, the age that raises a message. -/
def Obligations.QueueRowsTakeEffect : Prop :=
  ∀ (s : State) (q : Fin 64) (bytes : List Byte) (units : Nat),
    (s.settles →
      exec (.push q bytes) s = .next (
        if s.queDown && !((s.queue q.val).open_ && (s.queue q.val).discard) then s
        else if !s.queDir q.val || !s.queEn q.val then queWrong q.val s
        else
          let s1 := bytes.foldl (fun t b => queByte q.val b t) (s.setQueue q.val { s.queue q.val with armed := true })
          let s2 := if false then queEnd q.val s1 else s1
          queSync q.val (s2.queue q.val).words.length s2) ∧
      exec (.pushEnd q bytes) s = .next (
        if s.queDown && !((s.queue q.val).open_ && (s.queue q.val).discard) then s
        else if !s.queDir q.val || !s.queEn q.val then queWrong q.val s
        else
          let s1 := bytes.foldl (fun t b => queByte q.val b t) (s.setQueue q.val { s.queue q.val with armed := true })
          let s2 := if true then queEnd q.val s1 else s1
          queSync q.val (s2.queue q.val).words.length s2) ∧
      exec (.pop q units) s = .next (
        if s.queDown then { s with hostReply := popUnits [] units }
        else if s.queDir q.val || !s.queEn q.val then { queWrong q.val s with hostReply := popUnits [] units }
        else
          let s1 := s.setQueue q.val { s.queue q.val with armed := true }
          if (s1.queVisible q.val = 0 ∧ s1.fd (Reg.queCfg q.val) 29 4 ≠ 0) ∨ (s1.queue q.val).stalls ≠ [] then
            s1.setQueue q.val { s1.queue q.val with stalls := (s1.queue q.val).stalls ++ [(units, s1.counter)] }
          else popNow q.val units s1) ∧
      exec (.popStallEnd q) s = .next (
        match (s.queue q.val).stalls with
        | [] => s
        | (units, t0) :: rest =>
          if 0 < s.queVisible q.val ∨ t0 + s.fd (Reg.queCfg q.val) 29 4 * 100 ≤ s.counter then
            popNow q.val units (s.setQueue q.val { s.queue q.val with stalls := rest })
          else s) ∧
      exec (.irqAgeExpiry q) s = .next (
        let age := s.fd (Reg.queIrq q.val) 18 16
        match (s.queue q.val).words with
        | [] => s
        | w :: _ =>
          if s.queEn q.val && !s.queDir q.val && (s.queue q.val).armed && decide (age ≠ 0) && decide (0 < s.queVisible q.val)
              && decide (w.at_ + age * 1000 ≤ s.counter) then
            sendMsi q.val (s.setQueue q.val { s.queue q.val with armed := false })
          else s))

/-- The rows of the granary journal (R341 to R366): records submitted and drained, read through the window, scrubbed and recovered. -/
def Obligations.JournalRowsTakeEffect : Prop :=
  ∀ (s : State) (rec : Submission) (corrected : Nat),
    (s.supplied →
      exec (.recordSubmit rec) s = .next (submitAt s.counter rec s) ∧
      exec .stagingDrain s = .next (
        if s.jnlHalted ∨ (s.rd Reg.jnlHead : Int) ≤ s.v .drained + 1 then s
        else
          let k := s.n .drained + 1
          let s1 := s.setV .drained 0 k
          let s2 := if s1.partState 0 = 0 then s1.hw Reg.jnlPartA k else s1
          if s2.partState 1 = 0 then s2.hw Reg.jnlPartB k else s2)) ∧
    (s.settles →
      exec .recordsPending s = .next (
        let ms := s.fd Reg.jnlNotify 18 16
        let old := s.v .oldestAt
        let s1 := notifyCheck s
        if s1.v .notified = 0 ∧ ms ≠ 0 ∧ old ≠ 0 ∧ s1.rd Reg.jnlAck + 1 < s1.rd Reg.jnlHead ∧ old - 1 + (ms * 1000000 : Nat) ≤ s1.counter then
          (s1.evt 0xC00 16).setV .notified 0 1
        else s1) ∧
      exec (.scrubPass corrected) s = .next (
        let s1 := (s.inc Reg.jnlErrCnt 0 16 corrected).inc Reg.jnlErrCnt 16 16 1
        let s2 := submit (rec1 0xC 0 7 0xFFFF 0 [(4, corrected), (2, s1.fd Reg.jnlErrCnt 16 16)]) s1
        granaryRepaired (if corrected = 0 then s2 else s2.evt 0xC00 22)) ∧
      exec .granaryUncorrectable s = .next (fault 0x0C01 0 2 0 true (commonOnce 0xC 0 ((s.inc Reg.jnlErrCnt 32 16 1).setV .granaryBad 0 1))) ∧
      exec .granaryMismatch s = .next (selfRestart 0xC (granaryMismatch s)))

/-- The rows of supply loss and gleaning (R368 to R375). -/
def Obligations.SupplyLossRowsTakeEffect : Prop :=
  ∀ (s : State) (us mv : Nat) (complete : Bool) (meanMw : BitVec 16),
    (s.settles →
      exec (.pfwAsserted us) s = .next (
        if s.bit Reg.glnCfg 0 = false ∨ us < max 1 (s.fd Reg.glnCfg 8 8) ∨ s.v .gleaning = 1 then s
        else
          let s1 := if s.bit Reg.glnStat 0 then s else (s.hwb Reg.glnStat 0 true).evt 0x40C 16
          let t := s1.v .preCancelAt
          if s1.bit Reg.glnStat 1 ∨ (t ≠ 0 ∧ (s1.counter : Int) < t - 1 + 100000000) then s1
          else
            let s2 : State := { drainAll (s1.hwb Reg.glnStat 1 true) with capSet := [] }
            s2.setV .capAt 0 s2.nextCapture) ∧
      exec .preCaptureCancelled s = .next (
        if s.v .gleaning = 1 then s
        else
          let s1 := s.hwb Reg.glnStat 0 false
          if s1.bit Reg.glnStat 1 then
            (((s1.hwb Reg.glnStat 1 false).inc Reg.glnCnt 16 16 1).setV .preCancelAt 0 (s1.counter + 1)).evt 0x40C 17
          else s1)) ∧
    exec (.supplyLossCommit mv) s = .next (supplyCommit 1 mv 0xFF s) ∧
    exec .capture s = .next (if s.v .gleaning = 1 then captureDue s else s) ∧
    exec (.gleaningEnd complete meanMw) s = .next (
      if s.v .gleaning ≠ 1 then s
      else
        let us := (s.counter + 1 - s.n .glnAt) / 1000
        let s1 := if complete then captureNow (settleOpen (drainAll (pqFlush (pqCloseAll s)))) else s
        let s2 := (s1.wr Reg.glnLastRun (saturate 24 us + meanMw.toNat * 2 ^ 24)).wr Reg.glnUnconf s1.unconfirmed
        let s3 := if complete then s2.setV .rtcNs 0 (nanosOf s2.now) else s2.inc Reg.glnCnt 32 16 1
        let s4 : State := { s3.setV .capAt 0 0 with capSet := [] }
        (((s4.hwb Reg.glnStat 3 complete).setV .glnEnd 0 (if complete then 1 else 2)).setV .gleaning 0 0).setV .powerOff 0 1)

/-- The rows of billing (R384 to R404): tariffs, demand intervals, calendars, billing time, session records. -/
def Obligations.BillingRowsTakeEffect : Prop :=
  ∀ (s : State) (mp : Fin 64) (stall : Fin 32) (recNum : Nat) (signed_ : Bool) (m : Master) (dt : Nat),
    (s.supplied →
      exec (.demandIntervalEnd mp) s = .next (if s.bilIdle || !s.demOver mp.val then s else demCompose (demDue s)) ∧
      exec .calendarActivation s = .next (
        match s.calPend with
        | none => s
        | some c =>
          if s.bilIdle ∨ s.btSec < c.at_ then s
          else
            let i := s.btInstant c.at_
            calActivate (if s.n .calLoadAt ≤ i.counter then i else s.billNow) s) ∧
      exec .btHoldEnd s = .next (if s.bilIdle ∨ s.v .btMode ≠ 2 ∨ s.wall < s.v .bt then s else btFollow (holdEnd s)) ∧
      exec (.sessionClose stall) s = .next (
        if s.bilIdle ∨ s.jnlHalted ∨ s.endedSession stall.val = none then s
        else eachBelow 32 closeOne (demCompose (demDue s))) ∧
      exec (.recordRelease recNum signed_) s = .next (
        let signed_ := signed_ && !s.bit Reg.keyState 1
        match s.bilWait with
        | [] => s
        | r :: rest =>
          if s.bilIdle ∨ s.jnlHalted ∨ s.space 3 ∨ s.free < 14 ∨ recNum ≠ s.rd Reg.bilRecNum + 1 then s
          else
            let sig := if signed_ then s.draw 768 else 0
            let full := r.bytes % 2 ^ 64 + recNum % 2 ^ 48 * 2 ^ 64 + r.bytes / 2 ^ 112 * 2 ^ 112 + sig * 2 ^ 1920
            let s1 := if signed_ then s.drawn else unsignedRecord s
            let s2 := submit ⟨0xD, 6, r.kind, if r.kind = 1 then r.stall else field r.bytes 168 8, 0, 14, full⟩ s1
            let s3 : State := { s2 with bilWait := rest, bilStore := ((recNum, full) :: s2.bilStore).take 32768 }
            let s4 := (s3.hw Reg.bilRecNum recNum).evt 0xD00 21
            if r.kind = 1 then
              { s4 with sessions := s4.sessions.filter fun x => !(decide (x.stall = r.stall) && decide (x.seq = r.seq)) }.trigger r.stall
                .closed
            else s4)) ∧
    exec .tariffSwitch s = .next (
      if s.bilIdle then s
      else
        let s1 := calendarActivation s
        let x := (s1.calAct.map fun c => c.last s1.btSec).getD 0
        tariffAt (if x = 0 ∨ s1.v .btMode ≠ 1 then s1.billNow else s1.btInstant x) s1) ∧
    exec (.bilBtCapture m dt) s = .next (
      let t := { s with counter := s.counter + dt }
      let b := t.btNow
      let left := if s.bit Reg.bilStat 2 then secsOf (b - t.wall) else 0
      ((s.wrB m Reg.bilBtSec (secsOf b)).wrB m Reg.bilBtNs (nsOf b * 2 ^ 16 + fracOf b)).wrB m Reg.bilHoldLeft left)

/-- The rows of the key store (R418 to R430). -/
def Obligations.KeyStoreRowsTakeEffect : Prop :=
  ∀ (s : State) (req : KeyReq) (id src mv : Nat),
    (s.runs 14 →
      exec (.keyOperation req) s = .next (State.keyOperation req s) ∧
      exec (.keyOperationComplete id) s = .next (keyComplete id s)) ∧
    exec (.tamperEvent src) s = .next (
      if s.tamperWatched src = false then s
      else
        let off := decide (s.v .powerOff = 1)
        if off ∧ s.bit Reg.keyState 3 then s
        else
          let s1 := (tamperLog src off s).hwb Reg.keyState 2 true
          let s2 := if src < 4 then (s1.hwb Reg.keyTamperStat src true).hwb Reg.keyTamperStat (4 + src) true
            else if src = 4 then s1.hwb Reg.keyTamperStat 8 true
            else if src = 5 then s1.hwb Reg.keyTamperStat 9 true else s1
          if off then s2.setV .keyDormant 0 1
          else zeroise (if src = 6 then 2 else 1) src (s2.evt 0xE00 16)) ∧
    exec (.vbatLow mv) s = .next (
      let low := decide (mv < 2200)
      if s.v .powerOff = 1 then s.hwb Reg.keyState 3 low
      else
        let a := Reg.pwrVbat
        let was := s.bit a 16
        let s1 := ((s.hwf a 0 16 (saturate 16 mv)).hwb a 16 low).hwb a 17 (decide (mv < 1800))
        if low && !was then s1.evt 0x100 19 else s1)

/-- The rows of the contactless interface (R432 to R455). -/
def Obligations.ContactlessRowsTakeEffect : Prop :=
  ∀ (s : State) (dt : Nat) (reach : Bool) (c : Fin 2) (cards : List Card) (collisions : Nat) (antFault : Bool) (result : CardVerdict) (ok : Bool) (strength cla ins p1 p2 : Nat) (aid : List Byte) (off le : Nat) (bytes : List Byte) (len : Nat) (sigValid : Bool) (waitUs : Nat) (m : Master),
    (s.runs 15 →
      exec (.pageOperationBegin dt reach) s = .next (memBegin dt reach s)) ∧
    (s.serving →
      exec (.readerPoll c cards collisions antFault) s = .next (
        let cfg := Reg.ctlRdCfg c.val
        if s.running = false ∨ s.bit cfg 0 = false ∨ s.bit (Reg.ctlRdStat c.val) 1 ∨ s.ownerFault 0xF01 then s
        else
          let typeB := s.pollsB c.val
          let ok := cardSort (cards.filter fun x => decide (x.typeB = typeB) && (typeB || s.bit cfg 1))
          let l := ok.take 4
          let exceeds := decide (4 < ok.length)
          let multi := decide (1 < l.length)
          let s1 := ((readerOn c.val s).hwf (Reg.ctlRdStat c.val) 16 32 (s.fd (Reg.ctlRdStat c.val) 16 32 + 1)).hwb (Reg.ctlRdStat c.val) 5 exceeds
          let s2 : State := { s1.inc (Reg.ctlRdCnt c.val) 16 16 collisions with
            cards := s1.cards.map fun (p : Present) =>
              if p.channel = c.val ∧ p.card ∉ l then { p with missed := p.missed + 1 } else p }
          let s3 := each (s2.cards.filter fun p => decide (p.channel = c.val ∧ 3 ≤ p.missed)) cardGone s2
          antennaCheck c.val antFault (each l (cardSeen c.val multi exceeds) (s3.setV .pollB c.val (!typeB).toNat))) ∧
      exec (.cardAuth c result) s = .next (
        let r := if result = .ok ∧ s.cardKey c.val = false then .fail else result
        match s.cards.find? fun p => decide (p.channel = c.val) && p.wait with
        | none => s
        | some p =>
          if s.running = false then s
          else
            let q : Present := { p with auth := verdictCode r, wait := false }
            let s1 : State := { s with cards := s.cards.map fun (x : Present) => if x = p then q else x }
            cardReport q (if r = .fail then s1.inc (Reg.ctlRdCnt c.val) 32 16 1 else s1)) ∧
      exec (.antennaRetry c ok) s = .next (
        if s.running = false ∨ s.bit (Reg.ctlRdStat c.val) 1 = false ∨ (s.counter : Int) < s.v .antAt c.val + 10000000000 then s
        else if ok = false then s.setV .antAt c.val s.counter
        else fault 0x0F01 (1 + c.val) 0 0 false (readerOn c.val ((s.hwb (Reg.ctlRdStat c.val) 1 false).setV .antBad c.val 0)))) ∧
    exec (.fieldEntry strength) s = .next (
      let s1 := harvest strength s
      if s.bit Reg.ctlTagCfg 0 = false ∨ strength < 15 ∨ s.bit Reg.ctlTagStat 0 then s1
      else
        let s2 := (((s1.setV .fieldUid 0 (0x08 + 256 * s1.draw 24 : Nat)).drawn).setV .fieldLast 0 s.counter).hwb Reg.ctlTagStat 0 true
        if s.running then s2.evt 0xF00 16 else s2) ∧
    exec .fieldLoss s = .next (
      let s1 := fieldLogout 5 (harvest 0 s)
      s1.hwf Reg.ctlTagStat 0 3 0) ∧
    exec (.harvestSwitch strength) s = .next (
      let a := Reg.ctlTagStat
      let s1 := s.hwf a 8 8 (min strength 255)
      let on := s.bit Reg.ctlTagCfg 1 && (decide (30 ≤ strength) || (decide (25 ≤ strength) && s.bit a 3))
      s1.hwb a 3 on) ∧
    exec (.select cla ins p1 p2 aid) s = .next (
      if s.fieldUp = false then s
      else if cla = 0 ∧ ins = 0xA4 then
        if p1 ≠ 4 ∨ p2 ≠ 0 then fieldSay [] 0x6A86 s
        else if aid = tagAid then fieldSay (toBE 2 1) 0x9000 (s.hwb Reg.ctlTagStat 1 true)
        else fieldSay [] (s.draw 16) s.drawn
      else if cla = 0x80 ∧ ins ∈ [0xB0, 0xD6, 0x84, 0x88, 0x8A] then s
      else if s.fieldActive = false then fieldSay [] 0x6985 s
      else fieldSay [] (if cla = 0 ∨ cla = 0x80 then 0x6D00 else 0x6E00) s) ∧
    exec (.fieldRead off le) s = .next (
      if s.fieldUp = false then s
      else if s.fieldActive = false then fieldSay [] 0x6985 s
      else if le = 0 ∨ 256 < le then fieldSay [] 0x6700 s
      else if inArea off le = false then fieldSay [] 0x6B00 s
      else if s.areaRight (fieldArea off) false = false then fieldSay [] 0x6982 s
      else fieldSay (s.fmemRead off le) 0x9000 s) ∧
    exec (.fieldWrite off bytes) s = .next (
      let n := bytes.length
      if s.fieldUp = false then s
      else if s.fieldActive = false ∨ s.fieldModule = false then fieldSay [] 0x6985 s
      else if n = 0 ∨ 250 < n then fieldSay [] 0x6700 s
      else if inArea off n = false then fieldSay [] 0x6B00 s
      else if s.areaRight (fieldArea off) true = false then fieldSay [] 0x6982 s
      else fieldSay [] 0x9000 (((fmemWrite off bytes s).inc Reg.ctlTagCnt 0 16 1).evt 0xF00 18)) ∧
    exec (.getChallenge p1 p2 le) s = .next (
      if s.fieldUp = false then s
      else if s.fieldActive = false ∨ s.fieldModule = false then fieldSay [] 0x6985 s
      else if p1 ≠ 0 ∨ p2 ≠ 0 then fieldSay [] 0x6A86 s
      else if le ≠ 12 then fieldSay [] 0x6700 s
      else fieldSay (toBE 12 (s.draw 96)) 0x9000 ((s.setV .fieldChal 0 (s.v .free + 1)).drawn)) ∧
    exec (.authenticate p1 p2 len sigValid) s = .next (
      if s.fieldUp = false then s
      else if s.fieldActive = false ∨ s.fieldModule = false then fieldSay [] 0x6985 s
      else if p2 ≠ 0 then fieldSay [] 0x6A86 s
      else if len ≠ 96 then fieldSay [] 0x6700 s
      else
        let s1 := s.setV .fieldChal 0 0
        if (s.counter : Int) < s.v .loginBlockEnd 2 then
          fieldSay [] 0x6983 (fieldRec 4 p1 [(1, p1), (1, 2), (1, 4), (1, 0)] s1)
        else if s.bit Reg.ctlTagCfg 4 && decide (p1 = 2 ∨ p1 = 3) && decide (s.v .fieldChal ≠ 0) && sigValid
            && decide (s.slotAlg p1 ≠ 0) then
          let s2 := fieldRec 1 p1 [(1, p1), (1, 2)] ((s1.setV .loginFails 2 0).hwf Reg.ctlTagStat 4 3 p1)
          fieldSay [] 0x9000 (s2.evt 0xF00 17)
        else
          let n := s.n .loginFails 2 + 1
          let block := decide (3 ≤ n)
          let s2 := s1.setV .loginFails 2 (if block then 0 else n)
          let s3 := if block then s2.setV .loginBlockEnd 2 (s.counter + 60 * 10 ^ 9) else s2
          fieldSay [] 0x6982
            (fieldRec 4 p1 [(1, p1), (1, 2), (1, 2), (1, block.toNat)] (s3.inc Reg.ctlTagCnt 16 16 1))) ∧
    exec (.fieldLogout p1 p2 len) s = .next (
      if s.fieldUp = false then s
      else if s.fieldActive = false then fieldSay [] 0x6985 s
      else if p1 ≠ 0 ∨ p2 ≠ 0 then fieldSay [] 0x6A86 s
      else if len ≠ 0 then fieldSay [] 0x6700 s
      else fieldSay [] 0x9000 (fieldLogout 5 s)) ∧
    exec .sDeselect s = .next (if s.fieldUp = false then s else (fieldLogout 5 s).hwf Reg.ctlTagStat 1 2 0) ∧
    exec .fieldSessionTimeout s = .next (
      let r := s.fieldRole
      if r = 0 ∨ (s.counter : Int) < s.v .fieldLast + 300 * 10 ^ 9 then s
      else fieldRec 3 r [(1, r), (1, 2)] ((s.setV .fieldChal 0 0).hwf Reg.ctlTagStat 4 3 0)) ∧
    exec (.sWtx waitUs) s = .next (
      if s.fieldUp = false then s
      else
        let m := max 1 (min 59 ((waitUs + 603) / 604))
        ((s.inc Reg.ctlTagStat 32 16 (max 1 ((waitUs + 59 * 604 - 1) / (59 * 604)))).hwb Reg.ctlTagStat 2 true).setV .fieldWtxm 0 m) ∧
    exec .statusRefresh s = .next (
      if s.running = false ∨ s.bit Reg.ctlTagStat 2 then s
      else
        let modes := (List.range 32).foldl (fun a t => a + s.mode t * 16 ^ t) 0
        let b := toLE 6 (secsOf s.btNow) ++ toLE 1 (if s.commonSafe then 1 else 0) ++ [0#8] ++ toLE 16 modes
          ++ toLE 4 (s.rd Reg.safTripped) ++ toLE 4 (s.rd Reg.stlSumOos) ++ toLE 6 (s.rd Reg.jnlHead)
          ++ toLE 4 (ofLE (s.fmemRead 0x126 4) + 1)
        fmemWrite 0x100 (b ++ List.replicate (0xF00 - b.length) 0#8) s) ∧
    exec (.pageOperationTimeout m) s = .next (
      match s.memOps.find? fun o => decide (m ∈ opMasters o) with
      | none => s
      | some o => if s.running = false ∨ s.counter < o.at_ + 5000000 then s else memEnd o 3 500 s)

/-- The rows of firmware update (R456 to R474). -/
def Obligations.FirmwareUpdateRowsTakeEffect : Prop :=
  ∀ (s : State) (kind : Fin 6) (fetched : Nat) (ok : Bool) (bale : Bale) (chip : Fin 2) (frame : List Byte) (res : LoadResult) (stall : Fin 32) (port : Fin 2) (msg : List Byte) (down : Fin 4),
    (s.settles →
      exec (.fetchComplete kind fetched ok bale) s = .next (
        match s.fetches.find? fun f => decide (f.1 = (kindOf kind) ∧ f.2.1 = fetched) with
        | none => s
        | some f =>
          if s.updIdle then s
          else
            let s1 : State := { s with fetches := s.fetches.erase f }
            if ok then storeBale (kindOf kind) bale s1 else s1.inc (Reg.updKCnt (kindOf kind)) 32 16 1) ∧
      exec (.baleStored kind bale) s = .next (if s.updIdle then s else storeBale (kindOf kind) bale s) ∧
      exec (.norFault chip) s = .next (
        if s.updIdle then s
        else
          let s1 := fault 0x1001 chip.val 0 0 true ((s.hwb Reg.updStat chip.val false).evt 0x1000 16)
          updNext (eachBelow 4 (fun i t =>
            let k := i + 1
            let inForce := decide (t.fd (Reg.updKRunId k) 32 1 = chip.val)
            if t.updState k = 5 then (if inForce then confirm k t else fallback k 0x0E t)
            else if t.updState k = 4 ∧ !inForce then fallback k 0x0E t
            else if t.updState k = 6 then setOffer k 0 0 4 t
            else t) s1))) ∧
    (s.supplied →
      exec (.pieceFrame frame) s = .next (
        if s.v .powerOff = 1 then s
        else if s.updIdle then mgmtStatus 0x14 (countStatus .mgmt 0x14 0 (mgmtSeen s))
        else
          let s1 := mgmtSeen s
          let k := beAt frame 1 1
          if frame.length ≠ 1035 ∨ beAt frame 1033 2 ≠ crc16 (frame.take 1033) ∨ beAt frame 0 1 ≠ 0x42 then
            mgmtStatus 0x1A (countStatus .mgmt 0x1A 0 (s1.inc Reg.updStat 8 8 1))
          else if k = 0 ∨ 6 < k ∨ s.role .mgmt ∉ offerRoles k then mgmtStatus 0x12 (countStatus .mgmt 0x12 0 s1)
          else if s.updState k = 0 ∨ s.updSource k ≠ 1 then mgmtStatus 0x14 (countStatus .mgmt 0x14 0 s1)
          else mgmtStatus 0x00 (pieceTake k (beAt frame 2 2) (beAt frame 5 4) (beAt frame 4 1) (slice frame 9 1024) s1))) ∧
    (s.runs 16 →
      exec (.verifyComplete kind ok) s = .next (
        if s.updIdle ∨ s.updState (kindOf kind) ≠ 2 then s
        else if s.headerOk (kindOf kind) = false then updFail (kindOf kind) 1 s
        else if ok = false then updFail (kindOf kind) 3 s
        else if s.svnLower (kindOf kind) then updFail (kindOf kind) 4 s
        else relayStart (kindOf kind) (setOffer (kindOf kind) 3 0 4 s)) ∧
      exec (.activationComplete kind res) s = .next (
        if s.updIdle ∨ s.updState (kindOf kind) ≠ 4 then s
        else match res with
          | .ok =>
            if (kindOf kind) = 1 ∧ (s.v .updStep ≠ 0 ∨ s.partState 0 ≠ 0 ∨ s.partState 1 ≠ 0) then s
            else trialStart (kindOf kind) (if s.bit (Reg.updKCfg (kindOf kind)) 0 then relayStart (kindOf kind) s else s)
          | .badSignature => updNext (fallback (kindOf kind) 0x03 s)
          | .failed => updNext (fallback (kindOf kind) 0x0E s)) ∧
      exec (.deferredConfigApply stall) s = .next (
        if s.updIdle ∨ s.stallFree stall.val = false ∨ s.bit (Reg.updKDefer 5) stall.val = false then s
        else
          let s1 := each (s.cfgDefer.filter fun x => decide (x.1 = stall.val)) (fun x u => cfgTake x.2.1 x.2.2.toNat u) s
          { s1.hwb (Reg.updKDefer 5) stall.val false with cfgDefer := s1.cfgDefer.filter fun x => decide (x.1 ≠ stall.val) }) ∧
      exec (.trialExpiry kind) s = .next (
        let e := s.v .updTrialEnd (kindOf kind)
        if s.updIdle ∨ s.updState (kindOf kind) ≠ 5 ∨ s.bit (Reg.updKCfg (kindOf kind)) 1 = false ∨ e = 0 ∨ (s.counter : Int) < e - 1
            ∨ ((kindOf kind) = 5 ∧ s.sectionsDone = false) then s
        else confirm (kindOf kind) s) ∧
      exec (.trialFailure kind) s = .next (if s.updIdle ∨ 5 ≤ (kindOf kind) ∨ (s.updState (kindOf kind) ≠ 4 ∧ s.updState (kindOf kind) ≠ 5) then s else updNext (fallback (kindOf kind) 0x0E s)) ∧
      exec (.mirroringComplete kind) s = .next (if s.updIdle ∨ s.updState (kindOf kind) ≠ 6 then s else setOffer (kindOf kind) 0 0 4 (s.hwb (Reg.updKRunId (kindOf kind)) 33 true)) ∧
      exec (.offerExpiry kind) s = .next (
        let st := s.updState (kindOf kind)
        if s.updIdle ∨ st = 0 ∨ 3 < st ∨ s.btSecs < s.n .updExp (kindOf kind) then s
        else (offerEnd (kindOf kind) 0x0D 7 s).evt (kindPage (kindOf kind)) 20) ∧
      exec (.relayMessage port msg) s = .next (State.relayMessage port.val msg s) ∧
      exec (.relayOfferRepeat kind down) s = .next (
        let t := s.v .relayAt (4 * (kindOf kind) + down.val)
        if s.updIdle ∨ t = 0 ∨ (s.counter : Int) < t - 1 + 600000000000 then s else relayOffer (kindOf kind) down.val s))

/-- The rows of the Ethernet ports (R476 to R485) and of the mains link while its block runs (R486 to R505). -/
def Obligations.PortAndLinkRowsTakeEffect : Prop :=
  (∀ (s : State) (port : Fin 4) (speed : Fin 3) (full : Bool) (mac : Nat) (f : EthFrame),
     (s.settles →
       exec (.portLinkUp port speed full) s = .next (if full then netPost port.val (.up (speed.val + 1)) s else s) ∧
       exec (.addressAgeOut mac) s = .next (if s.netRuns then macsYoung s (fun x => decide (x ≠ mac)) else s)) ∧
     exec (.frameReceived port f) s = .next (
       if s.netRuns = false ∨ (s.portState port.val ≠ 2 ∧ s.portState port.val ≠ 3) then s
       else if f.len < 64 ∨ 1522 < f.len ∨ f.sound = false then portError port.val s
       else if s.portState port.val = 2 then s
       else
         let s1 := tally (Reg.netPRx port.val) 0 48 1 s
         if s.safetyPorts && decide (port.val < 2)
             && !takenByI f then
           tally (Reg.netPDrop port.val) 32 16 1 s1
         else
           let s2 := macLearn port.val f.src s1
           let out := match (if groupMac f.dst then none else s.macs.find? fun x => decide (x.1 = f.dst)) with
             | some x => (s.egressMask port.val).filter fun e => decide (e = x.2.1)
             | none => if f.dst = s.rd Reg.netMac then [] else s.egressMask port.val
           if f.ptp = some true then s2 else each out (fun e t => ethEnqueue e (ethQueue f) f.len t) s2) ∧
     exec (.portLinkDown port) s = .next (netPost port.val .down s) ∧
     exec (.portQualified port) s = .next (netPost port.val .qualified s)) ∧
  (∀ (s : State) (z : Fin 3) (port : Fin 2) (frame : List Byte) (dt attenDb lseq : Nat) (allOk : Bool) (e : Fin 16),
     (s.linkIdle = false →
       exec (.zxLost z) s = .next (
         let from_ := max (s.v .zxAt (4 * z.val) - 1) (s.v .zxFrom z.val)
         if s.linkIdle ∨ (s.counter : Int) < from_ + 40000000 ∨ s.zxLost z.val then s
         else
           let s1 := (s.hwb Reg.mlkStat z.val true).evt 0xA00 16
           linkFault 1 (linkFault 0 (if z.val = 0 then s1.hwf Reg.mlkStat 16 16 0 else s1))) ∧
       exec (.beaconDue port) s = .next (
         let z := s.refPhase port.val
         let at_ := s.v .zxAt (4 * z)
         let k (c : Int) : Int := secsOf (s.timeAt (c - 1).toNat) / s.fd Reg.mlkCfg 8 8 + 1
         let before := s.v .zxAt (4 * z + 1)
         if s.linkIdle ∨ s.bit Reg.mlkCfg 0 = false ∨ s.linkState port.val < 2 ∨ s.zxLost z ∨ at_ = 0 ∨ k at_ = s.v .bcnK port.val
             ∨ (before ≠ 0 ∧ k before = k at_) then s
         else { s.setV .bcnK port.val (k at_) with linkTx := s.linkTx ++ [LinkOut.mk port.val 3 linkAll 1 [] (at_ - 1).toNat false 0 0] }) ∧
       exec (.beaconAbandoned port) s = .next (
         match s.linkTx.find? fun f => decide (f.port = port.val ∧ f.ty = 1) && !f.sent with
         | none => s
         | some f =>
           if s.linkIdle ∨ s.counter < f.at_ + 20000000 then s
           else { s.inc (Reg.mlkPBcn port.val) 16 16 1 with linkTx := s.linkTx.erase f }) ∧
       exec (.linkFrameReceived port frame dt attenDb) s = .next (
         let r := linkFrame port.val frame dt attenDb s
         match r.2 with
         | none => r.1
         | some x => relayMessage port.val x r.1) ∧
       exec (.linkAck port lseq allOk) s = .next (
         match s.linkTx.find? fun f => decide (f.port = port.val ∧ f.lseq = lseq) && f.sent with
         | none => s
         | some f =>
           if s.linkIdle then s
           else
             let s1 : State := { s with linkTx := s.linkTx.erase f }
             if allOk then nbEnded port.val f.dst f.resends s1
             else if f.resends < 8 then
               { s.inc (Reg.mlkPErr port.val) 0 16 1 with
                 linkTx := s.linkTx.map fun (x : LinkOut) => if x = f then { f with resends := f.resends + 1 } else x }
             else nbEnded port.val f.dst 17 (s1.inc (Reg.mlkPErr port.val) 16 16 1)) ∧
       exec (.backoffEnd port) s = .next (State.backoffEnd port.val s) ∧
       exec (.noiseTimeout port) s = .next (if s.linkIdle ∨ s.linkState port.val < 2 then s else s.inc (Reg.mlkPErr port.val) 32 16 1) ∧
       exec (.driverOff port) s = .next (
         if s.linkIdle ∨ s.linkState port.val ≠ 2 then s
         else
           let a := Reg.mlkPStat port.val
           driverMoved port.val true ((((s.hwf a 0 2 3).hwb a 2 true).setV .mlkOffAt port.val s.counter).evt (0xA01 + port.val) 16)) ∧
       exec (.driverRetry port) s = .next (
         if s.linkIdle ∨ s.linkState port.val ≠ 3 ∨ (s.counter : Int) < s.v .mlkOffAt port.val + 10000000000 then s
         else
           let a := Reg.mlkPStat port.val
           driverMoved port.val false ((s.hwf a 0 2 2).hwb a 2 false)) ∧
       exec (.neighbourAgeOut port e) s = .next (
         if s.linkIdle ∨ s.rd (Reg.mlkNbId port.val e.val) = 0
             ∨ (s.counter : Int) < s.v .nbAt (16 * port.val + e.val) + s.fd Reg.mlkCfg 16 8 * 1000000000 then s
         else nbRemove port.val e.val s)) ∧
     exec (.zeroCrossing z dt) s = .next (
       if s.linkIdle then s
       else
         let c : Nat := s.counter + dt
         let last := s.v .zxAt (4 * z.val)
         let s1 := [3, 2, 1].foldl (fun t i => t.setV .zxAt (4 * z.val + i) (t.v .zxAt (4 * z.val + i - 1))) s
         let s2 := (s1.setV .zxAt (4 * z.val) (c + 1 : Nat)).hwb Reg.mlkStat z.val false
         let T := ((c : Int) + 1 - last).toNat
         let s3 := if z.val = 0 ∧ last ≠ 0 ∧ T ≠ 0 then s2.hwf Reg.mlkStat 16 16 (min 0xFFFF (10 ^ 12 / T)) else s2
         linkFault 1 (linkFault 0 s3)))

/-- The rows of supplies, clocks and resets (R521 to R540). -/
def Obligations.SupplyAndResetRowsTakeEffect : Prop :=
  ∀ (s : State) (rail : Fin 16) (code : Nat) (rtc : Option Nat) (lost : List Nat) (gen lanes mv : Nat),
    (s.supplied →
      exec (.railRecovered rail) s = .next (
        if 13 ≤ rail.val ∨ maskBit (s.n .railBad) rail.val = false then s
        else
          let bad := setField (s.n .railBad) rail.val 1 0
          let s1 := ((s.setV .railBad 0 (bad : Nat)).hwb Reg.pwrRail rail.val false).hwb Reg.pwrStat 2 (decide (bad ≠ 0))
          fault 0x0102 rail.val 2 0 false (if bad = 0 then s1.setV .railClear 0 (s1.counter + 1) else s1)) ∧
      exec (.restartComplete code) s = .next (
        if s.v .ownerFault code ≠ 1 ∨ (s.resetting ∧ code ∈ heldBlocks) then s
        else
          let s1 := s.setV .ownerFault code 2
          match code with
          | 0x4 => winRestart (((balBreak s1).hwb Reg.safState 5 false).setV .fastFrom 0 s1.counter)
          | 0xC => jnlBack s1
          | _ => s1)) ∧
    exec (.powerOn rtc lost) s = .next (
      if s.v .powerOff = 1 then powerUp (if s.v .offCause = 2 then 1 else 0) rtc lost s
      else if s.bit Reg.jnlStat 5 then powerUp 0 rtc lost s
      else s) ∧
    exec (.railOut rail) s = .next (
      if 13 ≤ rail.val ∨ s.v .gleaning = 1 ∨ s.v .powerOff = 1 ∨ maskBit (s.n .railBad) rail.val then s
      else
        let s1 := commonOnce 0xB rail.val ((s.setV .railBad 0 (setField (s.n .railBad) rail.val 1 1 : Nat)).setV .railClear 0 0)
        let s2 := if rail.val = 4 then channelLoss 0 false s1 else if rail.val = 5 then channelLoss 1 false s1 else s1
        let s3 := ((s2.hwb Reg.pwrRail rail.val true).hwb Reg.pwrRail (16 + rail.val) true).hwb Reg.pwrStat 2 true
        fault 0x0102 rail.val 2 0 true (s3.evt 0x100 16)) ∧
    exec (.brownOut rail) s = .next (if 13 ≤ rail.val then s else supplyCommit 2 (s.fd Reg.pwrVin 0 16) rail.val s) ∧
    exec .refclkLost s = .next (
      if s.v .refclkLost = 1 ∨ s.v .gleaning = 1 ∨ s.v .powerOff = 1 then s
      else
        let s1 := commonOnce 0xA 0 ((s.setV .refclkLost 0 1).setV .refclkOk 0 0)
        let s2 := ((s1.hwb Reg.pwrStat 3 false).hwb Reg.pwrStat 4 true).hwf Reg.pwrClk 0 2 0
        let s3 := fault 0x0101 0xFFFF 2 0 true ((s2.inc Reg.pwrClk 16 16 1).evt 0x100 18)
        eachBelow 256 (fun i t => t.setV .inFrom i 0) (setClock 0 0 5 (s3.setV .validEnd 0 s3.counter))) ∧
    exec .refclkReturn s = .next (
      if s.v .refclkLost = 0 then s
      else
        let s1 := (s.setV .refclkLost 0 0).setV .refclkOk 0 (s.counter + 1)
        if s.v .gleaning = 1 ∨ s.v .powerOff = 1 then s1
        else
          let s2 := ((s1.hwb Reg.pwrStat 3 true).hwb Reg.pwrStat 4 false).hwf Reg.pwrClk 0 2 3
          winRestart (fault 0x0101 0xFFFF 2 0 false s2)) ∧
    exec .resetNAssert s = .next (
      if s.v .resetNLow = 1 then s
      else
        let s1 := s.setV .resetNLow 0 1
        if s.v .gleaning = 1 ∨ s.v .powerOff = 1 then s1
        else
          let s2 := s1.hwb Reg.pwrStat 5 true
          if s2.v .devReset = 2 then (s2.setV .devReset 0 1).hwf Reg.pwrReset 0 4 3 else deviceReset 1 s2) ∧
    exec .resetNRelease s = .next (
      let s1 := s.setV .resetNLow 0 0
      if s.v .gleaning = 1 ∨ s.v .powerOff = 1 then s1
      else
        let s2 := s1.hwb Reg.pwrStat 5 false
        if s2.v .devReset = 1 then resetRelease s2 else s2) ∧
    exec (.blockSelfRestart code) s = .next (
      if restartable code && decide (s.v .ownerFault code = 0) && !s.resetting && decide (s.v .gleaning = 0 ∧ s.v .powerOff = 0) then
        blockRestart code 1 s
      else s) ∧
    exec (.hostLinkUp gen lanes) s = .next (
      if s.resetting ∨ s.v .gleaning = 1 ∨ s.v .powerOff = 1 ∨ s.bit Reg.sysMstLink 0 then s
      else
        let s1 := s.hwf Reg.sysMstLink 0 6 (1 + 2 * (gen % 8) + 16 * (lanes % 4))
        milestone Reg.pwrStart1 24 (fault 0x0001 0xFFFF 0 0 false s1)) ∧
    exec (.vinLow mv) s = .next (
      if s.v .gleaning = 1 ∨ s.v .powerOff = 1 then s
      else
        let a := Reg.pwrVin
        let v := saturate 16 mv
        let lo := s.fd a 32 16
        let s1 := ((s.hwf a 0 16 v).hwf a 16 16 (max (s.fd a 16 16) v)).hwf a 32 16 (if lo = 0 then v else min lo v)
        let low := decide (mv < 11400)
        let was := s.bit Reg.pwrStat 0
        let s2 := (s1.hwb Reg.pwrStat 0 low).hwb Reg.pwrStat 1 (decide (13200 < mv))
        let s3 := if low && !was then s2.evt 0x100 17 else s2
        fault 0x0103 0xFFFF 0 0 low s3) ∧
    exec (.vinHigh mv) s = .next (
      if s.v .gleaning = 1 ∨ s.v .powerOff = 1 then s
      else
        let a := Reg.pwrVin
        let v := saturate 16 mv
        let lo := s.fd a 32 16
        let s1 := ((s.hwf a 0 16 v).hwf a 16 16 (max (s.fd a 16 16) v)).hwf a 32 16 (if lo = 0 then v else min lo v)
        let low := decide (mv < 11400)
        let was := s.bit Reg.pwrStat 0
        let s2 := (s1.hwb Reg.pwrStat 0 low).hwb Reg.pwrStat 1 (decide (13200 < mv))
        let s3 := if low && !was then s2.evt 0x100 17 else s2
        fault 0x0103 0xFFFF 0 0 low s3) ∧
    exec .rtcLost s = .next ((s.setV .rtcDead 0 1).hwb Reg.pwrClk 4 false)

/-! Power and safety. -/

/-- The grants of an instant (R167): together they never exceed the available power, no stall gets more than it wants, and a stall that
the class loop drops, HELD, gets none. -/
def Obligations.GrantsNeverExceedAvailablePower : Prop :=
  ∀ (i : AlcIn) (a : Nat),
    (alcGrants i a).1.length = 32 ∧ (alcGrants i a).1.sum ≤ a ∧
      ∀ t : Nat, (alcGrants i a).1.getD t 0 ≤ i.want t ∧ (t ∈ (alcGrants i a).2 → (alcGrants i a).1.getD t 0 = 0)

/-- The headroom of an instant (R168), for what the allocator uses of it, whose classes are 0 to 7: the increases over the grants in force
together never exceed it, no stall gets more than it was to get or less than its previous grant where it was to get more, and a decrease
applies at once. -/
def Obligations.IncreasesStayWithinHeadroom : Prop :=
  (∀ (s : State) (i : AlcIn) (room : Nat) (x held : List Nat), (∀ t : Nat, (i.stall t).cls ≤ 7) →
    (((List.range 32).map fun t => (alcHeadroom i room x held s).1.getD t 0 - s.fd (Reg.alcGrant t) 0 24).sum ≤ room) ∧
      ∀ t : Nat, (alcHeadroom i room x held s).1.getD t 0 ≤ x.getD t 0 ∧
        min (x.getD t 0) (s.fd (Reg.alcGrant t) 0 24) ≤ (alcHeadroom i room x held s).1.getD t 0 ∧
        (x.getD t 0 ≤ s.fd (Reg.alcGrant t) 0 24 → (alcHeadroom i room x held s).1.getD t 0 = x.getD t 0)) ∧
  ∀ (s : State) (k t : Nat), ((s.alcGather k).stall t).cls ≤ 7

/-- A trip of a stall (R297, R303): it is tripped, its enables are withdrawn, both channels have left every output of its contactors, the
code and detail are the first ones, and STL gets the signal for SAFE. A further code on a tripped stall replaces nothing. -/
def Obligations.TripWithdrawsTheEnables : Prop :=
  ∀ (s : State) (n : Fin 32) (code detail cause : Nat),
    (s.tripped n = false →
      let t := tripRaw n code detail cause s
      t.tripped n = true ∧ t.enabled n = false ∧ t.rd (Reg.safStCause n) % 2 ^ 16 = code % 256 + detail % 256 * 256 ∧
        (∀ o ∈ s.outsOf n, o < 64 → t.bit (Reg.drvOutStat o) 4 = false ∧ t.bit (Reg.drvOutStat o) 5 = false ∧
          t.bit (Reg.drvOutStat o) 3 = false) ∧ ((n : Nat), Trig.safe cause) ∈ t.trig) ∧
    (s.tripped n = true → (tripRaw n code detail cause s).slots = s.slots ∧ (tripRaw n code detail cause s).trig = s.trig)

/-! Frames. -/

/-- The frame of the rows whose effect is on registers, hidden counters and triggers alone (R26, R54, R65, R70, R79, R90, R205, R209, R210,
R214, R235, R261, R264): no record, no fault, no trip, no session, no queue, no energy, no field memory, no token and nothing of the
published set changes; what a trigger does waits for the boundary (R201). -/
def Obligations.RegisterRowsLeaveAllElse : Prop :=
  ∀ (s t : State) (m : Master) (n : Fin 32) (o : Fin 64) (p : Partition) (l : Fin 2) (g : Origin) (lo : Int) (k dt : Nat) (b : Bool),
    ∀ i ∈ [Instr.rateSave, .rtcWrite, .rtcLost, .timNowCapture m dt, .ppsOutPulse dt b, .loginBlockEnd g,
        .pilotInvalidTimeout n, .diodeFault n lo, .pilotDutyApply n, .safeCauseCleared n, .cableCheckStarted p n,
        .powerDeliveryStarted p n, .sdpRequest n b, .tcpTimeout n k, .sequenceTimeout n, .retriesRestore o, .pullInEnd o,
        .noiseTimeout l],
      exec i s = .next t → t.besideRegisters = s.besideRegisters

/-- The registers these rows write (R43, R65, R70, R79, R90, R205, R210, R214, R232, R235, R261, R491): every other register slot, every
other master's copy and every other page's PAGE_EVT reads as before. -/
def Obligations.RowsWriteTheirOwnRegisters : Prop :=
  ∀ (s t : State) (m : Master) (n : Fin 32) (o : Fin 64) (p : Partition) (l : Fin 2) (k : Nat) (lo : Int) (b : Bool),
    ∀ x ∈ [(Instr.rateSave, []), (.rtcWrite, []), (.ppsOutPulse k b, []), (.powerDeliveryStarted p n, []),
        (.tcpTimeout n k, [Reg.vhsErrCnt n]), (.sequenceTimeout n, []), (.safeCauseCleared n, []), (.rtcLost, [Reg.pwrClk]),
        (.timNowCapture m k, [bankKey m Reg.timNowSec, bankKey m Reg.timNowNs, bankKey m Reg.timNowCntLo, bankKey m Reg.timNowCntHi]),
        (.diodeFault n lo, [Reg.stlPilot n]), (.pilotDutyApply n, [Reg.stlPilot n]), (.cableCheckStarted p n, [Reg.stlIns n]),
        (.sdpRequest n b, [Reg.vhsSess n]), (.retriesRestore o, [Reg.drvOutStat o]),
        (.noiseTimeout l, [Reg.mlkPErr l])],
      exec x.1 s = .next t → ∀ a : Nat, a ∉ x.2 → t.rd a = s.rd a
end

