-- ==== Sys2Proof/Laws/Accept.lean ====
section
/-! SUPPORT. What the boundary does with a lone write: it settles as `settledAs` says, and a command row answers the boundary of that. -/
namespace Sys2Proof.Machine

theorem through_zero {α : Type} (stl : Nat → α → α) (a : Nat) (x : α) : through stl a 0 x = x := rfl

theorem through_fst {α β : Type} (stl : Nat → α → α) (a n : Nat) (x : α) (y : β) :
    through (fun r (z : α × β) => (stl r z.1, z.2)) a n (x, y) = (through stl a n x, y) := by
  unfold through
  induction (List.range n) generalizing x with
  | nil => rfl
  | cons k l ih => simpa using ih _

/-- Every stall command acts at a step from 3 to 6. -/
theorem State.stlCmdRank_range (k : Nat) : stlCmdRank k = 3 ∨ stlCmdRank k = 4 ∨ stlCmdRank k = 5 ∨ stlCmdRank k = 6 := by
  unfold stlCmdRank; split <;> simp

namespace State

/-- The sweep over one candidate: the steps before its turn, the candidate, the others. -/
theorem sweep_lone {α : Type} (f : Cand → α → α) (stl : Nat → α → α) (c : Cand) (x : α) :
    sweep f stl [c] x = through stl c.turn (7 - c.turn) (f c (through stl 0 c.turn x)) := by
  unfold sweep Cand.turn
  by_cases h : isStallCmd c = true
  · have hb : ¬ 0x700000 ≤ c.addr := by
      simp only [isStallCmd, Bool.and_eq_true, decide_eq_true_eq] at h; omega
    simp only [List.filter_cons, List.filter_nil, h, hb]
    rcases stlCmdRank_range (codeOf c.value) with e | e | e | e <;>
      simp [e, through, List.range_succ, List.filter_cons]
  · by_cases hb : c.addr < 0x700000
    · have hb' : ¬ 0x700000 ≤ c.addr := by omega
      simp [h, hb, hb', through, List.range_succ]
    · have hb' : 0x700000 ≤ c.addr := by omega
      simp [h, hb, hb', through, List.range_succ]

/-- A lone candidate wins, and loses to none. -/
theorem arbitrate_lone (c : Cand) (x : Master × Nat × Nat) (h : c.ms = [x]) : arbitrate [c] = ([c], []) := by
  have h1 : replaced c [c] = false := by simp [replaced, h]
  have h2 : contest c [c] = 0 ∨ byHost c = false := by
    by_cases hb : byHost c = true
    · left; simp [contest, hb]
    · right; simpa using hb
  unfold arbitrate
  rcases h2 with h2 | h2
  · by_cases hb : byHost c = true <;> simp [h1, h2, hb]
  · simp [h1, h2]

/-- What a check makes of the first write of a cycle that passes it. -/
theorem checkWrite_passes {w : Write} {s : State} (ht : isParam (targetOf w.addr) = false) (hw : w.width = 8)
    (hb : bankedTakes w (targetOf w.addr)
      (if targetOf w.addr = .at .cmd then s.setV .tokenFresh (bankKey w.m (w.addr - 8)) 0 else s) = none)
    (hk : checkStatus w ⟨s, [], [], [], []⟩ = 0) :
    checkWrite 0 w ⟨s, [], [], [], []⟩ =
      ⟨if targetOf w.addr = .at .cmd then s.setV .tokenFresh (bankKey w.m (w.addr - 8)) 0 else s,
        [⟨[(w.m, s.rdB w.m (w.addr - 8), 0)], w.addr, w.value, w.guard, w.verdict, decide (targetOf w.addr = .at .cmd)⟩], [], [],
        if targetOf w.addr = .at .cmd then [(w.m, w.addr)] else []⟩ := by
  unfold checkWrite
  rw [hk, hw]
  generalize hT : targetOf w.addr = T at *
  by_cases hc : T = .at .cmd
  · subst hc
    simp only [if_true] at hb
    simp [hb]
  · simp only [hc, if_false] at hb
    rcases T with _ | _ | _ | _ | _ | _ | a
    case neg.at =>
      cases a with
      | param f => exact absurd ht (by simp [isParam])
      | cmd => exact absurd rfl hc
      | _ => simp [hb]
    all_goals simp [hb]

/-- What the checks make of a lone write that passes them. -/
theorem checkAll_lone {w : Write} {o : State} (h : Taken w o) :
    checkAll o = ⟨checked w o, [lone w o], [], [], if targetOf w.addr = .at .cmd then [(w.m, w.addr)] else []⟩ := by
  have hws : (o.cycle.filter (fun x => decide (x.m = Master.host)) ++ o.cycle.filter fun x => decide (x.m = Master.mgmt)) = [w] := by
    rw [h.cycle]; cases hm : w.m <;> simp [hm]
  have e : checkAll o = checkWrite 0 w ⟨{ o with cycle := [] }, [], [], [], []⟩ := by
    simp only [checkAll, hws]; rfl
  rw [e]
  exact checkWrite_passes h.target h.whole.2 (Option.isNone_iff_eq_none.mp h.bank) h.checks

/-- The statuses of a lone candidate: what its owner and the granary answer in its turn. -/
theorem statuses_lone (c : Cand) (s : State) : statuses [c] s = [(c, answer c 0 (through stlRun 0 c.turn s))] := by
  unfold statuses
  rw [sweep_lone, through_fst, through_fst]
  rfl

/-- A lone accepted candidate is numbered where its write is journalled, and its token remembered where it is a command. -/
theorem numberAll_lone {c : Cand} {m : Master} {tok i : Nat} (s : State) (hm : c.ms = [(m, tok, i)]) :
    numberAll [(c, 0x01)] [c] s =
      if journalled c.addr then
        ((if c.cmd then remember m tok (s.rd Reg.jnlHead) (submit (candRec c s) s) else submit (candRec c s) s),
          [(c, s.rd Reg.jnlHead)])
      else (s, []) := by
  have hs : statusOf [(c, 0x01)] c = 0x01 := by simp [statusOf]
  unfold numberAll
  simp only [List.foldl_cons, List.foldl_nil, hs, true_and, List.nil_append, hm, each]

/-- A lone write that is taken settles as `settledAs` says. -/
theorem settle_lone {w : Write} {o : State} (h : Taken w o) :
    settle o = settledAs w (fun seq => takeEffect (lone w o) seq) o := by
  have hr : replaced (lone w o) [lone w o] = false := by simp [replaced, lone]
  have hz : ∀ l : List Write, l = [w] → ((l.zip (List.range [w].length)).filterMap fun x => if x.1.frame then some x.2 else none) = [] := by
    intro l hl; subst hl; simp [h.whole.1]
  have hws : (o.cycle.filter (fun x => decide (x.m = Master.host)) ++ o.cycle.filter fun x => decide (x.m = Master.mgmt)) = [w] := by
    rw [h.cycle]; cases hm : w.m <;> simp [hm]
  have hfr : ((o.cycle.filter (fun w => decide (w.m = .host)) ++ o.cycle.filter fun w => decide (w.m = .mgmt)).zip
      (List.range o.cycle.length)).filterMap (fun x => if x.1.frame then some x.2 else none) = [] := by
    rw [hws, h.cycle]; exact hz _ rfl
  have ha := arbitrate_lone (lone w o) _ rfl
  have hs : candSort [lone w o] = [lone w o] := rfl
  have hst := statuses_lone (lone w o) (checked w o)
  rw [h.answer] at hst
  have hso : statusOf [(lone w o, 0x01)] (lone w o) = 0x01 := by simp [statusOf]
  have hn := numberAll_lone (c := lone w o) (checked w o) rfl
  unfold settle
  rw [hfr, checkAll_lone h]
  simp only [ha, hs, hst, hso, hn, List.filter_cons, hr, List.filter_nil, List.flatMap_nil, List.flatMap_cons, List.append_nil,
    List.nil_append, Bool.false_eq_true, if_false, if_true, sweep_lone]
  unfold settledAs
  have haddr : (lone w o).addr = w.addr := rfl
  by_cases hj : journalled w.addr = true <;> by_cases hcmd : (lone w o).cmd = true <;>
    simp [haddr, hj, hcmd, outcomes, each] <;> rfl

/-- A boundary whose cycle holds one write, which is taken. -/
theorem boundary_lone {w : Write} {s : State} (hs : s.settles) (h : Taken w (opened w s)) :
    boundary 0 (post w s) = closing s.counter (settledAs w (fun seq => takeEffect (lone w (opened w s)) seq) (opened w s)) := by
  have hp : post w s = { s with cycle := s.cycle ++ [w] } := by simp [post, hs.1, hs.2]
  have hc : (post w s).counter = s.counter := by rw [hp]
  have h1 : (post w s).v .powerOff = 0 := by rw [hp]; exact hs.1
  have h2 : (post w s).v .gleaning = 0 := by rw [hp]; exact hs.2
  unfold boundary
  rw [if_neg (by rw [h1]; decide), if_neg (by rw [h2]; decide), hc]
  exact congrArg (closing s.counter) (settle_lone h)

/-- A lone command that is taken, by the effect that its owner gives it. -/
theorem boundary_ran {w : Write} {s : State} {eff : Nat → State → State} (hs : s.settles) (h : Taken w (opened w s))
    (ht : targetOf w.addr = .at .cmd)
    (he : ∀ seq t, cmdEffect w.addr w.value w.m false w.verdict seq t = eff seq t) :
    boundary 0 (post w s) = ran w eff s := by
  rw [boundary_lone hs h]
  have : ∀ o, (fun seq => takeEffect (lone w o) seq) = fun seq t => eff seq ((t.wr w.addr w.value).touch (w.addr / 0x1000)) := by
    intro o; funext seq t
    simp [takeEffect, lone, candMaster, ht, he]
  rw [this]; rfl

/-- A lone write to another slot that is taken, by what it does. -/
theorem boundary_written {w : Write} {s : State} {eff : State → State} (hs : s.settles) (h : Taken w (opened w s))
    (ht : targetOf w.addr ≠ .at .cmd) (he : ∀ t, slotEffect w.addr w.value w.m w.verdict t = eff t) :
    boundary 0 (post w s) = written w eff s := by
  rw [boundary_lone hs h]
  have : ∀ o, (fun seq => takeEffect (lone w o) seq) = fun _ t => eff t := by
    intro o; funext seq t
    simp [takeEffect, lone, candMaster, ht, he]
  rw [this]; rfl

/-! The rows under their guards. -/

theorem powered_of {f : State → State} {s : State} (h : s.supplied) : powered f s = f s := by
  simp [powered, show s.v .powerOff = 0 from h]

theorem awake_of {f : State → State} {s : State} (h : s.settles) : awake f s = f s := by simp [awake, h.1, h.2]

theorem blockRuns_of {c : Nat} {f : State → State} {s : State} (h : s.runs c) : blockRuns c f s = f s := by
  simp [blockRuns, h.1, h.2]

theorem engine_of {f : State → State} {s : State} (h : s.sessionsRun) : engine f s = f s := by
  simp [engine, h.1.1, h.1.2, h.2]

theorem inService_of {f : State → State} {s : State} (h : s.serving) : inService f s = f s := by
  simp [inService, h.1.1, h.1.2, h.2]

theorem clockEvent_of {f : State → State} {s : State} (h : s.supplied) : clockEvent f s = btUpdate (f s) := by
  simp [clockEvent, show s.v .powerOff = 0 from h]

end State

/-- A row that is a command. -/
theorem commands_of {i : Instr} {m : Master} {a : Nat} {g : BitVec 16} {code : Nat} {arg : BitVec 40} {ok : Bool}
    {eff : Nat → State → State}
    (hx : ∀ s, exec i s = .next (State.command m a g.toNat code arg.toNat ok s))
    (ht : targetOf a = .at .cmd)
    (he : ∀ seq t, State.cmdEffect a (code * 2 ^ 40 + arg.toNat % 2 ^ 40) m false ok seq t = eff seq t) :
    Commands i (State.cmdWrite m a g code arg ok) eff := by
  intro s h
  rw [hx]
  exact congrArg _ (State.boundary_ran (w := State.cmdWrite m a g code arg ok) h.1 h.2 ht he)

/-- A row that is a write of another kind. -/
theorem writes_of {i : Instr} {m : Master} {a g v : Nat} {ok : Bool} {eff : State → State}
    (hx : ∀ s, exec i s = .next (State.writeNow m a g v ok s)) (ht : targetOf a ≠ .at .cmd)
    (he : ∀ t, State.slotEffect a v m ok t = eff t) : Writes i (State.slotWrite m a g v ok) eff := by
  intro s h
  rw [hx]
  exact congrArg _ (State.boundary_written (w := State.slotWrite m a g v ok) h.1 h.2 ht he)

namespace State

/-- A command slot's CODE field (R38). -/
theorem codeOf_cmd (k : Nat) (arg : BitVec 40) (h : k < 256) : codeOf (k * 2 ^ 40 + arg.toNat % 2 ^ 40) = k := by
  unfold codeOf field
  have := arg.isLt
  omega

/-- A command slot's ARGUMENT field (R38). -/
theorem argOf_cmd (k : Nat) (arg : BitVec 40) : argOf (k * 2 ^ 40 + arg.toNat % 2 ^ 40) = arg.toNat := by
  unfold argOf field
  have := arg.isLt
  omega

/-- The mains link's events act while its block runs. -/
theorem linkEvent_of {f : State → State} {s : State} (h : s.linkIdle = false) : linkEvent f s = f s := by simp [linkEvent, h]

end State

end Sys2Proof.Machine
end

