-- ==== Sys2Proof/Laws/State.lean ====
section
/-! SUPPORT. What each elementary update of the state leaves as it was, field by field. -/
namespace Sys2Proof.Machine.State

variable (s : State)

/-! setV writes vars only. -/

@[simp] theorem setV_pending (x : Var) (i : Nat) (k : Int) : (s.setV x i k).pending = s.pending := rfl
@[simp] theorem setV_counter (x : Var) (i : Nat) (k : Int) : (s.setV x i k).counter = s.counter := rfl
@[simp] theorem setV_clockSets (x : Var) (i : Nat) (k : Int) : (s.setV x i k).clockSets = s.clockSets := rfl
@[simp] theorem setV_clockQ (x : Var) (i : Nat) (k : Int) : (s.setV x i k).clockQ = s.clockQ := rfl
@[simp] theorem setV_announces (x : Var) (i : Nat) (k : Int) : (s.setV x i k).announces = s.announces := rfl
@[simp] theorem setV_ptpOut (x : Var) (i : Nat) (k : Int) : (s.setV x i k).ptpOut = s.ptpOut := rfl
@[simp] theorem setV_tcOut (x : Var) (i : Nat) (k : Int) : (s.setV x i k).tcOut = s.tcOut := rfl
@[simp] theorem setV_slots (x : Var) (i : Nat) (k : Int) : (s.setV x i k).slots = s.slots := rfl
@[simp] theorem setV_pub (x : Var) (i : Nat) (k : Int) : (s.setV x i k).pub = s.pub := rfl
@[simp] theorem setV_cycle (x : Var) (i : Nat) (k : Int) : (s.setV x i k).cycle = s.cycle := rfl
@[simp] theorem setV_dirty (x : Var) (i : Nat) (k : Int) : (s.setV x i k).dirty = s.dirty := rfl
@[simp] theorem setV_commits (x : Var) (i : Nat) (k : Int) : (s.setV x i k).commits = s.commits := rfl
@[simp] theorem setV_reads (x : Var) (i : Nat) (k : Int) : (s.setV x i k).reads = s.reads := rfl
@[simp] theorem setV_hostReply (x : Var) (i : Nat) (k : Int) : (s.setV x i k).hostReply = s.hostReply := rfl
@[simp] theorem setV_mgmtReply (x : Var) (i : Nat) (k : Int) : (s.setV x i k).mgmtReply = s.mgmtReply := rfl
@[simp] theorem setV_msix (x : Var) (i : Nat) (k : Int) : (s.setV x i k).msix = s.msix := rfl
@[simp] theorem setV_snapH (x : Var) (i : Nat) (k : Int) : (s.setV x i k).snapH = s.snapH := rfl
@[simp] theorem setV_snapM (x : Var) (i : Nat) (k : Int) : (s.setV x i k).snapM = s.snapM := rfl
@[simp] theorem setV_records (x : Var) (i : Nat) (k : Int) : (s.setV x i k).records = s.records := rfl
@[simp] theorem setV_waiting (x : Var) (i : Nat) (k : Int) : (s.setV x i k).waiting = s.waiting := rfl
@[simp] theorem setV_tokH (x : Var) (i : Nat) (k : Int) : (s.setV x i k).tokH = s.tokH := rfl
@[simp] theorem setV_tokM (x : Var) (i : Nat) (k : Int) : (s.setV x i k).tokM = s.tokM := rfl
@[simp] theorem setV_safeSet (x : Var) (i : Nat) (k : Int) : (s.setV x i k).safeSet = s.safeSet := rfl
@[simp] theorem setV_trips (x : Var) (i : Nat) (k : Int) : (s.setV x i k).trips = s.trips := rfl
@[simp] theorem setV_commons (x : Var) (i : Nat) (k : Int) : (s.setV x i k).commons = s.commons := rfl
@[simp] theorem setV_trig (x : Var) (i : Nat) (k : Int) : (s.setV x i k).trig = s.trig := rfl
@[simp] theorem setV_active (x : Var) (i : Nat) (k : Int) : (s.setV x i k).active = s.active := rfl
@[simp] theorem setV_faultQ (x : Var) (i : Nat) (k : Int) : (s.setV x i k).faultQ = s.faultQ := rfl
@[simp] theorem setV_log (x : Var) (i : Nat) (k : Int) : (s.setV x i k).log = s.log := rfl
@[simp] theorem setV_queues (x : Var) (i : Nat) (k : Int) : (s.setV x i k).queues = s.queues := rfl
@[simp] theorem setV_sessions (x : Var) (i : Nat) (k : Int) : (s.setV x i k).sessions = s.sessions := rfl
@[simp] theorem setV_vehs (x : Var) (i : Nat) (k : Int) : (s.setV x i k).vehs = s.vehs := rfl
@[simp] theorem setV_clamps (x : Var) (i : Nat) (k : Int) : (s.setV x i k).clamps = s.clamps := rfl
@[simp] theorem setV_tinChanges (x : Var) (i : Nat) (k : Int) : (s.setV x i k).tinChanges = s.tinChanges := rfl
@[simp] theorem setV_slCopies (x : Var) (i : Nat) (k : Int) : (s.setV x i k).slCopies = s.slCopies := rfl
@[simp] theorem setV_slSent (x : Var) (i : Nat) (k : Int) : (s.setV x i k).slSent = s.slSent := rfl
@[simp] theorem setV_mps (x : Var) (i : Nat) (k : Int) : (s.setV x i k).mps = s.mps := rfl
@[simp] theorem setV_mpCap (x : Var) (i : Nat) (k : Int) : (s.setV x i k).mpCap = s.mpCap := rfl
@[simp] theorem setV_copies (x : Var) (i : Nat) (k : Int) : (s.setV x i k).copies = s.copies := rfl
@[simp] theorem setV_saving (x : Var) (i : Nat) (k : Int) : (s.setV x i k).saving = s.saving := rfl
@[simp] theorem setV_saveSet (x : Var) (i : Nat) (k : Int) : (s.setV x i k).saveSet = s.saveSet := rfl
@[simp] theorem setV_harmDue (x : Var) (i : Nat) (k : Int) : (s.setV x i k).harmDue = s.harmDue := rfl
@[simp] theorem setV_pqDue (x : Var) (i : Nat) (k : Int) : (s.setV x i k).pqDue = s.pqDue := rfl
@[simp] theorem setV_inFaults (x : Var) (i : Nat) (k : Int) : (s.setV x i k).inFaults = s.inFaults := rfl
@[simp] theorem setV_pqOpens (x : Var) (i : Nat) (k : Int) : (s.setV x i k).pqOpens = s.pqOpens := rfl
@[simp] theorem setV_bals (x : Var) (i : Nat) (k : Int) : (s.setV x i k).bals = s.bals := rfl
@[simp] theorem setV_balSent (x : Var) (i : Nat) (k : Int) : (s.setV x i k).balSent = s.balSent := rfl
@[simp] theorem setV_balCfgs (x : Var) (i : Nat) (k : Int) : (s.setV x i k).balCfgs = s.balCfgs := rfl
@[simp] theorem setV_alcIn (x : Var) (i : Nat) (k : Int) : (s.setV x i k).alcIn = s.alcIn := rfl
@[simp] theorem setV_calAct (x : Var) (i : Nat) (k : Int) : (s.setV x i k).calAct = s.calAct := rfl
@[simp] theorem setV_calPend (x : Var) (i : Nat) (k : Int) : (s.setV x i k).calPend = s.calPend := rfl
@[simp] theorem setV_dems (x : Var) (i : Nat) (k : Int) : (s.setV x i k).dems = s.dems := rfl
@[simp] theorem setV_demEnds (x : Var) (i : Nat) (k : Int) : (s.setV x i k).demEnds = s.demEnds := rfl
@[simp] theorem setV_rdgs (x : Var) (i : Nat) (k : Int) : (s.setV x i k).rdgs = s.rdgs := rfl
@[simp] theorem setV_bilWait (x : Var) (i : Nat) (k : Int) : (s.setV x i k).bilWait = s.bilWait := rfl
@[simp] theorem setV_bilStore (x : Var) (i : Nat) (k : Int) : (s.setV x i k).bilStore = s.bilStore := rfl
@[simp] theorem setV_dkeys (x : Var) (i : Nat) (k : Int) : (s.setV x i k).dkeys = s.dkeys := rfl
@[simp] theorem setV_keyOps (x : Var) (i : Nat) (k : Int) : (s.setV x i k).keyOps = s.keyOps := rfl
@[simp] theorem setV_keyDone (x : Var) (i : Nat) (k : Int) : (s.setV x i k).keyDone = s.keyDone := rfl
@[simp] theorem setV_fmem (x : Var) (i : Nat) (k : Int) : (s.setV x i k).fmem = s.fmem := rfl
@[simp] theorem setV_fieldReply (x : Var) (i : Nat) (k : Int) : (s.setV x i k).fieldReply = s.fieldReply := rfl
@[simp] theorem setV_memOps (x : Var) (i : Nat) (k : Int) : (s.setV x i k).memOps = s.memOps := rfl
@[simp] theorem setV_cards (x : Var) (i : Nat) (k : Int) : (s.setV x i k).cards = s.cards := rfl
@[simp] theorem setV_linkTx (x : Var) (i : Nat) (k : Int) : (s.setV x i k).linkTx = s.linkTx := rfl
@[simp] theorem setV_linkSent (x : Var) (i : Nat) (k : Int) : (s.setV x i k).linkSent = s.linkSent := rfl
@[simp] theorem setV_linkHist (x : Var) (i : Nat) (k : Int) : (s.setV x i k).linkHist = s.linkHist := rfl
@[simp] theorem setV_linkRx (x : Var) (i : Nat) (k : Int) : (s.setV x i k).linkRx = s.linkRx := rfl
@[simp] theorem setV_ethQ (x : Var) (i : Nat) (k : Int) : (s.setV x i k).ethQ = s.ethQ := rfl
@[simp] theorem setV_macs (x : Var) (i : Nat) (k : Int) : (s.setV x i k).macs = s.macs := rfl
@[simp] theorem setV_netErrs (x : Var) (i : Nat) (k : Int) : (s.setV x i k).netErrs = s.netErrs := rfl
@[simp] theorem setV_netFlaps (x : Var) (i : Nat) (k : Int) : (s.setV x i k).netFlaps = s.netFlaps := rfl
@[simp] theorem setV_netTrig (x : Var) (i : Nat) (k : Int) : (s.setV x i k).netTrig = s.netTrig := rfl
@[simp] theorem setV_bales (x : Var) (i : Nat) (k : Int) : (s.setV x i k).bales = s.bales := rfl
@[simp] theorem setV_pieces (x : Var) (i : Nat) (k : Int) : (s.setV x i k).pieces = s.pieces := rfl
@[simp] theorem setV_fetches (x : Var) (i : Nat) (k : Int) : (s.setV x i k).fetches = s.fetches := rfl
@[simp] theorem setV_capSet (x : Var) (i : Nat) (k : Int) : (s.setV x i k).capSet = s.capSet := rfl
@[simp] theorem setV_roCfg (x : Var) (i : Nat) (k : Int) : (s.setV x i k).roCfg = s.roCfg := rfl
@[simp] theorem setV_fastX (x : Var) (i : Nat) (k : Int) : (s.setV x i k).fastX = s.fastX := rfl
@[simp] theorem setV_fastY (x : Var) (i : Nat) (k : Int) : (s.setV x i k).fastY = s.fastY := rfl
@[simp] theorem setV_cfgOld (x : Var) (i : Nat) (k : Int) : (s.setV x i k).cfgOld = s.cfgOld := rfl
@[simp] theorem setV_cfgDefer (x : Var) (i : Nat) (k : Int) : (s.setV x i k).cfgDefer = s.cfgDefer := rfl

/-! wr writes slots only. -/

@[simp] theorem wr_pending (a v : Nat) : (s.wr a v).pending = s.pending := rfl
@[simp] theorem wr_counter (a v : Nat) : (s.wr a v).counter = s.counter := rfl
@[simp] theorem wr_clockSets (a v : Nat) : (s.wr a v).clockSets = s.clockSets := rfl
@[simp] theorem wr_clockQ (a v : Nat) : (s.wr a v).clockQ = s.clockQ := rfl
@[simp] theorem wr_announces (a v : Nat) : (s.wr a v).announces = s.announces := rfl
@[simp] theorem wr_ptpOut (a v : Nat) : (s.wr a v).ptpOut = s.ptpOut := rfl
@[simp] theorem wr_tcOut (a v : Nat) : (s.wr a v).tcOut = s.tcOut := rfl
@[simp] theorem wr_pub (a v : Nat) : (s.wr a v).pub = s.pub := rfl
@[simp] theorem wr_vars (a v : Nat) : (s.wr a v).vars = s.vars := rfl
@[simp] theorem wr_cycle (a v : Nat) : (s.wr a v).cycle = s.cycle := rfl
@[simp] theorem wr_dirty (a v : Nat) : (s.wr a v).dirty = s.dirty := rfl
@[simp] theorem wr_commits (a v : Nat) : (s.wr a v).commits = s.commits := rfl
@[simp] theorem wr_reads (a v : Nat) : (s.wr a v).reads = s.reads := rfl
@[simp] theorem wr_hostReply (a v : Nat) : (s.wr a v).hostReply = s.hostReply := rfl
@[simp] theorem wr_mgmtReply (a v : Nat) : (s.wr a v).mgmtReply = s.mgmtReply := rfl
@[simp] theorem wr_msix (a v : Nat) : (s.wr a v).msix = s.msix := rfl
@[simp] theorem wr_snapH (a v : Nat) : (s.wr a v).snapH = s.snapH := rfl
@[simp] theorem wr_snapM (a v : Nat) : (s.wr a v).snapM = s.snapM := rfl
@[simp] theorem wr_records (a v : Nat) : (s.wr a v).records = s.records := rfl
@[simp] theorem wr_waiting (a v : Nat) : (s.wr a v).waiting = s.waiting := rfl
@[simp] theorem wr_tokH (a v : Nat) : (s.wr a v).tokH = s.tokH := rfl
@[simp] theorem wr_tokM (a v : Nat) : (s.wr a v).tokM = s.tokM := rfl
@[simp] theorem wr_safeSet (a v : Nat) : (s.wr a v).safeSet = s.safeSet := rfl
@[simp] theorem wr_trips (a v : Nat) : (s.wr a v).trips = s.trips := rfl
@[simp] theorem wr_commons (a v : Nat) : (s.wr a v).commons = s.commons := rfl
@[simp] theorem wr_trig (a v : Nat) : (s.wr a v).trig = s.trig := rfl
@[simp] theorem wr_active (a v : Nat) : (s.wr a v).active = s.active := rfl
@[simp] theorem wr_faultQ (a v : Nat) : (s.wr a v).faultQ = s.faultQ := rfl
@[simp] theorem wr_log (a v : Nat) : (s.wr a v).log = s.log := rfl
@[simp] theorem wr_queues (a v : Nat) : (s.wr a v).queues = s.queues := rfl
@[simp] theorem wr_sessions (a v : Nat) : (s.wr a v).sessions = s.sessions := rfl
@[simp] theorem wr_vehs (a v : Nat) : (s.wr a v).vehs = s.vehs := rfl
@[simp] theorem wr_clamps (a v : Nat) : (s.wr a v).clamps = s.clamps := rfl
@[simp] theorem wr_tinChanges (a v : Nat) : (s.wr a v).tinChanges = s.tinChanges := rfl
@[simp] theorem wr_slCopies (a v : Nat) : (s.wr a v).slCopies = s.slCopies := rfl
@[simp] theorem wr_slSent (a v : Nat) : (s.wr a v).slSent = s.slSent := rfl
@[simp] theorem wr_mps (a v : Nat) : (s.wr a v).mps = s.mps := rfl
@[simp] theorem wr_mpCap (a v : Nat) : (s.wr a v).mpCap = s.mpCap := rfl
@[simp] theorem wr_copies (a v : Nat) : (s.wr a v).copies = s.copies := rfl
@[simp] theorem wr_saving (a v : Nat) : (s.wr a v).saving = s.saving := rfl
@[simp] theorem wr_saveSet (a v : Nat) : (s.wr a v).saveSet = s.saveSet := rfl
@[simp] theorem wr_harmDue (a v : Nat) : (s.wr a v).harmDue = s.harmDue := rfl
@[simp] theorem wr_pqDue (a v : Nat) : (s.wr a v).pqDue = s.pqDue := rfl
@[simp] theorem wr_inFaults (a v : Nat) : (s.wr a v).inFaults = s.inFaults := rfl
@[simp] theorem wr_pqOpens (a v : Nat) : (s.wr a v).pqOpens = s.pqOpens := rfl
@[simp] theorem wr_bals (a v : Nat) : (s.wr a v).bals = s.bals := rfl
@[simp] theorem wr_balSent (a v : Nat) : (s.wr a v).balSent = s.balSent := rfl
@[simp] theorem wr_balCfgs (a v : Nat) : (s.wr a v).balCfgs = s.balCfgs := rfl
@[simp] theorem wr_alcIn (a v : Nat) : (s.wr a v).alcIn = s.alcIn := rfl
@[simp] theorem wr_calAct (a v : Nat) : (s.wr a v).calAct = s.calAct := rfl
@[simp] theorem wr_calPend (a v : Nat) : (s.wr a v).calPend = s.calPend := rfl
@[simp] theorem wr_dems (a v : Nat) : (s.wr a v).dems = s.dems := rfl
@[simp] theorem wr_demEnds (a v : Nat) : (s.wr a v).demEnds = s.demEnds := rfl
@[simp] theorem wr_rdgs (a v : Nat) : (s.wr a v).rdgs = s.rdgs := rfl
@[simp] theorem wr_bilWait (a v : Nat) : (s.wr a v).bilWait = s.bilWait := rfl
@[simp] theorem wr_bilStore (a v : Nat) : (s.wr a v).bilStore = s.bilStore := rfl
@[simp] theorem wr_dkeys (a v : Nat) : (s.wr a v).dkeys = s.dkeys := rfl
@[simp] theorem wr_keyOps (a v : Nat) : (s.wr a v).keyOps = s.keyOps := rfl
@[simp] theorem wr_keyDone (a v : Nat) : (s.wr a v).keyDone = s.keyDone := rfl
@[simp] theorem wr_fmem (a v : Nat) : (s.wr a v).fmem = s.fmem := rfl
@[simp] theorem wr_fieldReply (a v : Nat) : (s.wr a v).fieldReply = s.fieldReply := rfl
@[simp] theorem wr_memOps (a v : Nat) : (s.wr a v).memOps = s.memOps := rfl
@[simp] theorem wr_cards (a v : Nat) : (s.wr a v).cards = s.cards := rfl
@[simp] theorem wr_linkTx (a v : Nat) : (s.wr a v).linkTx = s.linkTx := rfl
@[simp] theorem wr_linkSent (a v : Nat) : (s.wr a v).linkSent = s.linkSent := rfl
@[simp] theorem wr_linkHist (a v : Nat) : (s.wr a v).linkHist = s.linkHist := rfl
@[simp] theorem wr_linkRx (a v : Nat) : (s.wr a v).linkRx = s.linkRx := rfl
@[simp] theorem wr_ethQ (a v : Nat) : (s.wr a v).ethQ = s.ethQ := rfl
@[simp] theorem wr_macs (a v : Nat) : (s.wr a v).macs = s.macs := rfl
@[simp] theorem wr_netErrs (a v : Nat) : (s.wr a v).netErrs = s.netErrs := rfl
@[simp] theorem wr_netFlaps (a v : Nat) : (s.wr a v).netFlaps = s.netFlaps := rfl
@[simp] theorem wr_netTrig (a v : Nat) : (s.wr a v).netTrig = s.netTrig := rfl
@[simp] theorem wr_bales (a v : Nat) : (s.wr a v).bales = s.bales := rfl
@[simp] theorem wr_pieces (a v : Nat) : (s.wr a v).pieces = s.pieces := rfl
@[simp] theorem wr_fetches (a v : Nat) : (s.wr a v).fetches = s.fetches := rfl
@[simp] theorem wr_capSet (a v : Nat) : (s.wr a v).capSet = s.capSet := rfl
@[simp] theorem wr_roCfg (a v : Nat) : (s.wr a v).roCfg = s.roCfg := rfl
@[simp] theorem wr_fastX (a v : Nat) : (s.wr a v).fastX = s.fastX := rfl
@[simp] theorem wr_fastY (a v : Nat) : (s.wr a v).fastY = s.fastY := rfl
@[simp] theorem wr_cfgOld (a v : Nat) : (s.wr a v).cfgOld = s.cfgOld := rfl
@[simp] theorem wr_cfgDefer (a v : Nat) : (s.wr a v).cfgDefer = s.cfgDefer := rfl

/-! touch writes dirty only. -/

@[simp] theorem touch_pending (p : Nat) : (s.touch p).pending = s.pending := by unfold touch; split <;> rfl
@[simp] theorem touch_counter (p : Nat) : (s.touch p).counter = s.counter := by unfold touch; split <;> rfl
@[simp] theorem touch_clockSets (p : Nat) : (s.touch p).clockSets = s.clockSets := by unfold touch; split <;> rfl
@[simp] theorem touch_clockQ (p : Nat) : (s.touch p).clockQ = s.clockQ := by unfold touch; split <;> rfl
@[simp] theorem touch_announces (p : Nat) : (s.touch p).announces = s.announces := by unfold touch; split <;> rfl
@[simp] theorem touch_ptpOut (p : Nat) : (s.touch p).ptpOut = s.ptpOut := by unfold touch; split <;> rfl
@[simp] theorem touch_tcOut (p : Nat) : (s.touch p).tcOut = s.tcOut := by unfold touch; split <;> rfl
@[simp] theorem touch_slots (p : Nat) : (s.touch p).slots = s.slots := by unfold touch; split <;> rfl
@[simp] theorem touch_pub (p : Nat) : (s.touch p).pub = s.pub := by unfold touch; split <;> rfl
@[simp] theorem touch_vars (p : Nat) : (s.touch p).vars = s.vars := by unfold touch; split <;> rfl
@[simp] theorem touch_cycle (p : Nat) : (s.touch p).cycle = s.cycle := by unfold touch; split <;> rfl
@[simp] theorem touch_commits (p : Nat) : (s.touch p).commits = s.commits := by unfold touch; split <;> rfl
@[simp] theorem touch_reads (p : Nat) : (s.touch p).reads = s.reads := by unfold touch; split <;> rfl
@[simp] theorem touch_hostReply (p : Nat) : (s.touch p).hostReply = s.hostReply := by unfold touch; split <;> rfl
@[simp] theorem touch_mgmtReply (p : Nat) : (s.touch p).mgmtReply = s.mgmtReply := by unfold touch; split <;> rfl
@[simp] theorem touch_msix (p : Nat) : (s.touch p).msix = s.msix := by unfold touch; split <;> rfl
@[simp] theorem touch_snapH (p : Nat) : (s.touch p).snapH = s.snapH := by unfold touch; split <;> rfl
@[simp] theorem touch_snapM (p : Nat) : (s.touch p).snapM = s.snapM := by unfold touch; split <;> rfl
@[simp] theorem touch_records (p : Nat) : (s.touch p).records = s.records := by unfold touch; split <;> rfl
@[simp] theorem touch_waiting (p : Nat) : (s.touch p).waiting = s.waiting := by unfold touch; split <;> rfl
@[simp] theorem touch_tokH (p : Nat) : (s.touch p).tokH = s.tokH := by unfold touch; split <;> rfl
@[simp] theorem touch_tokM (p : Nat) : (s.touch p).tokM = s.tokM := by unfold touch; split <;> rfl
@[simp] theorem touch_safeSet (p : Nat) : (s.touch p).safeSet = s.safeSet := by unfold touch; split <;> rfl
@[simp] theorem touch_trips (p : Nat) : (s.touch p).trips = s.trips := by unfold touch; split <;> rfl
@[simp] theorem touch_commons (p : Nat) : (s.touch p).commons = s.commons := by unfold touch; split <;> rfl
@[simp] theorem touch_trig (p : Nat) : (s.touch p).trig = s.trig := by unfold touch; split <;> rfl
@[simp] theorem touch_active (p : Nat) : (s.touch p).active = s.active := by unfold touch; split <;> rfl
@[simp] theorem touch_faultQ (p : Nat) : (s.touch p).faultQ = s.faultQ := by unfold touch; split <;> rfl
@[simp] theorem touch_log (p : Nat) : (s.touch p).log = s.log := by unfold touch; split <;> rfl
@[simp] theorem touch_queues (p : Nat) : (s.touch p).queues = s.queues := by unfold touch; split <;> rfl
@[simp] theorem touch_sessions (p : Nat) : (s.touch p).sessions = s.sessions := by unfold touch; split <;> rfl
@[simp] theorem touch_vehs (p : Nat) : (s.touch p).vehs = s.vehs := by unfold touch; split <;> rfl
@[simp] theorem touch_clamps (p : Nat) : (s.touch p).clamps = s.clamps := by unfold touch; split <;> rfl
@[simp] theorem touch_tinChanges (p : Nat) : (s.touch p).tinChanges = s.tinChanges := by unfold touch; split <;> rfl
@[simp] theorem touch_slCopies (p : Nat) : (s.touch p).slCopies = s.slCopies := by unfold touch; split <;> rfl
@[simp] theorem touch_slSent (p : Nat) : (s.touch p).slSent = s.slSent := by unfold touch; split <;> rfl
@[simp] theorem touch_mps (p : Nat) : (s.touch p).mps = s.mps := by unfold touch; split <;> rfl
@[simp] theorem touch_mpCap (p : Nat) : (s.touch p).mpCap = s.mpCap := by unfold touch; split <;> rfl
@[simp] theorem touch_copies (p : Nat) : (s.touch p).copies = s.copies := by unfold touch; split <;> rfl
@[simp] theorem touch_saving (p : Nat) : (s.touch p).saving = s.saving := by unfold touch; split <;> rfl
@[simp] theorem touch_saveSet (p : Nat) : (s.touch p).saveSet = s.saveSet := by unfold touch; split <;> rfl
@[simp] theorem touch_harmDue (p : Nat) : (s.touch p).harmDue = s.harmDue := by unfold touch; split <;> rfl
@[simp] theorem touch_pqDue (p : Nat) : (s.touch p).pqDue = s.pqDue := by unfold touch; split <;> rfl
@[simp] theorem touch_inFaults (p : Nat) : (s.touch p).inFaults = s.inFaults := by unfold touch; split <;> rfl
@[simp] theorem touch_pqOpens (p : Nat) : (s.touch p).pqOpens = s.pqOpens := by unfold touch; split <;> rfl
@[simp] theorem touch_bals (p : Nat) : (s.touch p).bals = s.bals := by unfold touch; split <;> rfl
@[simp] theorem touch_balSent (p : Nat) : (s.touch p).balSent = s.balSent := by unfold touch; split <;> rfl
@[simp] theorem touch_balCfgs (p : Nat) : (s.touch p).balCfgs = s.balCfgs := by unfold touch; split <;> rfl
@[simp] theorem touch_alcIn (p : Nat) : (s.touch p).alcIn = s.alcIn := by unfold touch; split <;> rfl
@[simp] theorem touch_calAct (p : Nat) : (s.touch p).calAct = s.calAct := by unfold touch; split <;> rfl
@[simp] theorem touch_calPend (p : Nat) : (s.touch p).calPend = s.calPend := by unfold touch; split <;> rfl
@[simp] theorem touch_dems (p : Nat) : (s.touch p).dems = s.dems := by unfold touch; split <;> rfl
@[simp] theorem touch_demEnds (p : Nat) : (s.touch p).demEnds = s.demEnds := by unfold touch; split <;> rfl
@[simp] theorem touch_rdgs (p : Nat) : (s.touch p).rdgs = s.rdgs := by unfold touch; split <;> rfl
@[simp] theorem touch_bilWait (p : Nat) : (s.touch p).bilWait = s.bilWait := by unfold touch; split <;> rfl
@[simp] theorem touch_bilStore (p : Nat) : (s.touch p).bilStore = s.bilStore := by unfold touch; split <;> rfl
@[simp] theorem touch_dkeys (p : Nat) : (s.touch p).dkeys = s.dkeys := by unfold touch; split <;> rfl
@[simp] theorem touch_keyOps (p : Nat) : (s.touch p).keyOps = s.keyOps := by unfold touch; split <;> rfl
@[simp] theorem touch_keyDone (p : Nat) : (s.touch p).keyDone = s.keyDone := by unfold touch; split <;> rfl
@[simp] theorem touch_fmem (p : Nat) : (s.touch p).fmem = s.fmem := by unfold touch; split <;> rfl
@[simp] theorem touch_fieldReply (p : Nat) : (s.touch p).fieldReply = s.fieldReply := by unfold touch; split <;> rfl
@[simp] theorem touch_memOps (p : Nat) : (s.touch p).memOps = s.memOps := by unfold touch; split <;> rfl
@[simp] theorem touch_cards (p : Nat) : (s.touch p).cards = s.cards := by unfold touch; split <;> rfl
@[simp] theorem touch_linkTx (p : Nat) : (s.touch p).linkTx = s.linkTx := by unfold touch; split <;> rfl
@[simp] theorem touch_linkSent (p : Nat) : (s.touch p).linkSent = s.linkSent := by unfold touch; split <;> rfl
@[simp] theorem touch_linkHist (p : Nat) : (s.touch p).linkHist = s.linkHist := by unfold touch; split <;> rfl
@[simp] theorem touch_linkRx (p : Nat) : (s.touch p).linkRx = s.linkRx := by unfold touch; split <;> rfl
@[simp] theorem touch_ethQ (p : Nat) : (s.touch p).ethQ = s.ethQ := by unfold touch; split <;> rfl
@[simp] theorem touch_macs (p : Nat) : (s.touch p).macs = s.macs := by unfold touch; split <;> rfl
@[simp] theorem touch_netErrs (p : Nat) : (s.touch p).netErrs = s.netErrs := by unfold touch; split <;> rfl
@[simp] theorem touch_netFlaps (p : Nat) : (s.touch p).netFlaps = s.netFlaps := by unfold touch; split <;> rfl
@[simp] theorem touch_netTrig (p : Nat) : (s.touch p).netTrig = s.netTrig := by unfold touch; split <;> rfl
@[simp] theorem touch_bales (p : Nat) : (s.touch p).bales = s.bales := by unfold touch; split <;> rfl
@[simp] theorem touch_pieces (p : Nat) : (s.touch p).pieces = s.pieces := by unfold touch; split <;> rfl
@[simp] theorem touch_fetches (p : Nat) : (s.touch p).fetches = s.fetches := by unfold touch; split <;> rfl
@[simp] theorem touch_capSet (p : Nat) : (s.touch p).capSet = s.capSet := by unfold touch; split <;> rfl
@[simp] theorem touch_roCfg (p : Nat) : (s.touch p).roCfg = s.roCfg := by unfold touch; split <;> rfl
@[simp] theorem touch_fastX (p : Nat) : (s.touch p).fastX = s.fastX := by unfold touch; split <;> rfl
@[simp] theorem touch_fastY (p : Nat) : (s.touch p).fastY = s.fastY := by unfold touch; split <;> rfl
@[simp] theorem touch_cfgOld (p : Nat) : (s.touch p).cfgOld = s.cfgOld := by unfold touch; split <;> rfl
@[simp] theorem touch_cfgDefer (p : Nat) : (s.touch p).cfgDefer = s.cfgDefer := by unfold touch; split <;> rfl

/-! hw writes slots and dirty only. -/

@[simp] theorem hw_pending (a v : Nat) : (s.hw a v).pending = s.pending := by unfold hw; split <;> simp
@[simp] theorem hw_counter (a v : Nat) : (s.hw a v).counter = s.counter := by unfold hw; split <;> simp
@[simp] theorem hw_clockSets (a v : Nat) : (s.hw a v).clockSets = s.clockSets := by unfold hw; split <;> simp
@[simp] theorem hw_clockQ (a v : Nat) : (s.hw a v).clockQ = s.clockQ := by unfold hw; split <;> simp
@[simp] theorem hw_announces (a v : Nat) : (s.hw a v).announces = s.announces := by unfold hw; split <;> simp
@[simp] theorem hw_ptpOut (a v : Nat) : (s.hw a v).ptpOut = s.ptpOut := by unfold hw; split <;> simp
@[simp] theorem hw_tcOut (a v : Nat) : (s.hw a v).tcOut = s.tcOut := by unfold hw; split <;> simp
@[simp] theorem hw_pub (a v : Nat) : (s.hw a v).pub = s.pub := by unfold hw; split <;> simp
@[simp] theorem hw_vars (a v : Nat) : (s.hw a v).vars = s.vars := by unfold hw; split <;> simp
@[simp] theorem hw_cycle (a v : Nat) : (s.hw a v).cycle = s.cycle := by unfold hw; split <;> simp
@[simp] theorem hw_commits (a v : Nat) : (s.hw a v).commits = s.commits := by unfold hw; split <;> simp
@[simp] theorem hw_reads (a v : Nat) : (s.hw a v).reads = s.reads := by unfold hw; split <;> simp
@[simp] theorem hw_hostReply (a v : Nat) : (s.hw a v).hostReply = s.hostReply := by unfold hw; split <;> simp
@[simp] theorem hw_mgmtReply (a v : Nat) : (s.hw a v).mgmtReply = s.mgmtReply := by unfold hw; split <;> simp
@[simp] theorem hw_msix (a v : Nat) : (s.hw a v).msix = s.msix := by unfold hw; split <;> simp
@[simp] theorem hw_snapH (a v : Nat) : (s.hw a v).snapH = s.snapH := by unfold hw; split <;> simp
@[simp] theorem hw_snapM (a v : Nat) : (s.hw a v).snapM = s.snapM := by unfold hw; split <;> simp
@[simp] theorem hw_records (a v : Nat) : (s.hw a v).records = s.records := by unfold hw; split <;> simp
@[simp] theorem hw_waiting (a v : Nat) : (s.hw a v).waiting = s.waiting := by unfold hw; split <;> simp
@[simp] theorem hw_tokH (a v : Nat) : (s.hw a v).tokH = s.tokH := by unfold hw; split <;> simp
@[simp] theorem hw_tokM (a v : Nat) : (s.hw a v).tokM = s.tokM := by unfold hw; split <;> simp
@[simp] theorem hw_safeSet (a v : Nat) : (s.hw a v).safeSet = s.safeSet := by unfold hw; split <;> simp
@[simp] theorem hw_trips (a v : Nat) : (s.hw a v).trips = s.trips := by unfold hw; split <;> simp
@[simp] theorem hw_commons (a v : Nat) : (s.hw a v).commons = s.commons := by unfold hw; split <;> simp
@[simp] theorem hw_trig (a v : Nat) : (s.hw a v).trig = s.trig := by unfold hw; split <;> simp
@[simp] theorem hw_active (a v : Nat) : (s.hw a v).active = s.active := by unfold hw; split <;> simp
@[simp] theorem hw_faultQ (a v : Nat) : (s.hw a v).faultQ = s.faultQ := by unfold hw; split <;> simp
@[simp] theorem hw_log (a v : Nat) : (s.hw a v).log = s.log := by unfold hw; split <;> simp
@[simp] theorem hw_queues (a v : Nat) : (s.hw a v).queues = s.queues := by unfold hw; split <;> simp
@[simp] theorem hw_sessions (a v : Nat) : (s.hw a v).sessions = s.sessions := by unfold hw; split <;> simp
@[simp] theorem hw_vehs (a v : Nat) : (s.hw a v).vehs = s.vehs := by unfold hw; split <;> simp
@[simp] theorem hw_clamps (a v : Nat) : (s.hw a v).clamps = s.clamps := by unfold hw; split <;> simp
@[simp] theorem hw_tinChanges (a v : Nat) : (s.hw a v).tinChanges = s.tinChanges := by unfold hw; split <;> simp
@[simp] theorem hw_slCopies (a v : Nat) : (s.hw a v).slCopies = s.slCopies := by unfold hw; split <;> simp
@[simp] theorem hw_slSent (a v : Nat) : (s.hw a v).slSent = s.slSent := by unfold hw; split <;> simp
@[simp] theorem hw_mps (a v : Nat) : (s.hw a v).mps = s.mps := by unfold hw; split <;> simp
@[simp] theorem hw_mpCap (a v : Nat) : (s.hw a v).mpCap = s.mpCap := by unfold hw; split <;> simp
@[simp] theorem hw_copies (a v : Nat) : (s.hw a v).copies = s.copies := by unfold hw; split <;> simp
@[simp] theorem hw_saving (a v : Nat) : (s.hw a v).saving = s.saving := by unfold hw; split <;> simp
@[simp] theorem hw_saveSet (a v : Nat) : (s.hw a v).saveSet = s.saveSet := by unfold hw; split <;> simp
@[simp] theorem hw_harmDue (a v : Nat) : (s.hw a v).harmDue = s.harmDue := by unfold hw; split <;> simp
@[simp] theorem hw_pqDue (a v : Nat) : (s.hw a v).pqDue = s.pqDue := by unfold hw; split <;> simp
@[simp] theorem hw_inFaults (a v : Nat) : (s.hw a v).inFaults = s.inFaults := by unfold hw; split <;> simp
@[simp] theorem hw_pqOpens (a v : Nat) : (s.hw a v).pqOpens = s.pqOpens := by unfold hw; split <;> simp
@[simp] theorem hw_bals (a v : Nat) : (s.hw a v).bals = s.bals := by unfold hw; split <;> simp
@[simp] theorem hw_balSent (a v : Nat) : (s.hw a v).balSent = s.balSent := by unfold hw; split <;> simp
@[simp] theorem hw_balCfgs (a v : Nat) : (s.hw a v).balCfgs = s.balCfgs := by unfold hw; split <;> simp
@[simp] theorem hw_alcIn (a v : Nat) : (s.hw a v).alcIn = s.alcIn := by unfold hw; split <;> simp
@[simp] theorem hw_calAct (a v : Nat) : (s.hw a v).calAct = s.calAct := by unfold hw; split <;> simp
@[simp] theorem hw_calPend (a v : Nat) : (s.hw a v).calPend = s.calPend := by unfold hw; split <;> simp
@[simp] theorem hw_dems (a v : Nat) : (s.hw a v).dems = s.dems := by unfold hw; split <;> simp
@[simp] theorem hw_demEnds (a v : Nat) : (s.hw a v).demEnds = s.demEnds := by unfold hw; split <;> simp
@[simp] theorem hw_rdgs (a v : Nat) : (s.hw a v).rdgs = s.rdgs := by unfold hw; split <;> simp
@[simp] theorem hw_bilWait (a v : Nat) : (s.hw a v).bilWait = s.bilWait := by unfold hw; split <;> simp
@[simp] theorem hw_bilStore (a v : Nat) : (s.hw a v).bilStore = s.bilStore := by unfold hw; split <;> simp
@[simp] theorem hw_dkeys (a v : Nat) : (s.hw a v).dkeys = s.dkeys := by unfold hw; split <;> simp
@[simp] theorem hw_keyOps (a v : Nat) : (s.hw a v).keyOps = s.keyOps := by unfold hw; split <;> simp
@[simp] theorem hw_keyDone (a v : Nat) : (s.hw a v).keyDone = s.keyDone := by unfold hw; split <;> simp
@[simp] theorem hw_fmem (a v : Nat) : (s.hw a v).fmem = s.fmem := by unfold hw; split <;> simp
@[simp] theorem hw_fieldReply (a v : Nat) : (s.hw a v).fieldReply = s.fieldReply := by unfold hw; split <;> simp
@[simp] theorem hw_memOps (a v : Nat) : (s.hw a v).memOps = s.memOps := by unfold hw; split <;> simp
@[simp] theorem hw_cards (a v : Nat) : (s.hw a v).cards = s.cards := by unfold hw; split <;> simp
@[simp] theorem hw_linkTx (a v : Nat) : (s.hw a v).linkTx = s.linkTx := by unfold hw; split <;> simp
@[simp] theorem hw_linkSent (a v : Nat) : (s.hw a v).linkSent = s.linkSent := by unfold hw; split <;> simp
@[simp] theorem hw_linkHist (a v : Nat) : (s.hw a v).linkHist = s.linkHist := by unfold hw; split <;> simp
@[simp] theorem hw_linkRx (a v : Nat) : (s.hw a v).linkRx = s.linkRx := by unfold hw; split <;> simp
@[simp] theorem hw_ethQ (a v : Nat) : (s.hw a v).ethQ = s.ethQ := by unfold hw; split <;> simp
@[simp] theorem hw_macs (a v : Nat) : (s.hw a v).macs = s.macs := by unfold hw; split <;> simp
@[simp] theorem hw_netErrs (a v : Nat) : (s.hw a v).netErrs = s.netErrs := by unfold hw; split <;> simp
@[simp] theorem hw_netFlaps (a v : Nat) : (s.hw a v).netFlaps = s.netFlaps := by unfold hw; split <;> simp
@[simp] theorem hw_netTrig (a v : Nat) : (s.hw a v).netTrig = s.netTrig := by unfold hw; split <;> simp
@[simp] theorem hw_bales (a v : Nat) : (s.hw a v).bales = s.bales := by unfold hw; split <;> simp
@[simp] theorem hw_pieces (a v : Nat) : (s.hw a v).pieces = s.pieces := by unfold hw; split <;> simp
@[simp] theorem hw_fetches (a v : Nat) : (s.hw a v).fetches = s.fetches := by unfold hw; split <;> simp
@[simp] theorem hw_capSet (a v : Nat) : (s.hw a v).capSet = s.capSet := by unfold hw; split <;> simp
@[simp] theorem hw_roCfg (a v : Nat) : (s.hw a v).roCfg = s.roCfg := by unfold hw; split <;> simp
@[simp] theorem hw_fastX (a v : Nat) : (s.hw a v).fastX = s.fastX := by unfold hw; split <;> simp
@[simp] theorem hw_fastY (a v : Nat) : (s.hw a v).fastY = s.fastY := by unfold hw; split <;> simp
@[simp] theorem hw_cfgOld (a v : Nat) : (s.hw a v).cfgOld = s.cfgOld := by unfold hw; split <;> simp
@[simp] theorem hw_cfgDefer (a v : Nat) : (s.hw a v).cfgDefer = s.cfgDefer := by unfold hw; split <;> simp

/-! hwf writes slots and dirty only. -/

@[simp] theorem hwf_pending (a lo w v : Nat) : (s.hwf a lo w v).pending = s.pending := by simp [hwf]
@[simp] theorem hwf_counter (a lo w v : Nat) : (s.hwf a lo w v).counter = s.counter := by simp [hwf]
@[simp] theorem hwf_clockSets (a lo w v : Nat) : (s.hwf a lo w v).clockSets = s.clockSets := by simp [hwf]
@[simp] theorem hwf_clockQ (a lo w v : Nat) : (s.hwf a lo w v).clockQ = s.clockQ := by simp [hwf]
@[simp] theorem hwf_announces (a lo w v : Nat) : (s.hwf a lo w v).announces = s.announces := by simp [hwf]
@[simp] theorem hwf_ptpOut (a lo w v : Nat) : (s.hwf a lo w v).ptpOut = s.ptpOut := by simp [hwf]
@[simp] theorem hwf_tcOut (a lo w v : Nat) : (s.hwf a lo w v).tcOut = s.tcOut := by simp [hwf]
@[simp] theorem hwf_pub (a lo w v : Nat) : (s.hwf a lo w v).pub = s.pub := by simp [hwf]
@[simp] theorem hwf_vars (a lo w v : Nat) : (s.hwf a lo w v).vars = s.vars := by simp [hwf]
@[simp] theorem hwf_cycle (a lo w v : Nat) : (s.hwf a lo w v).cycle = s.cycle := by simp [hwf]
@[simp] theorem hwf_commits (a lo w v : Nat) : (s.hwf a lo w v).commits = s.commits := by simp [hwf]
@[simp] theorem hwf_reads (a lo w v : Nat) : (s.hwf a lo w v).reads = s.reads := by simp [hwf]
@[simp] theorem hwf_hostReply (a lo w v : Nat) : (s.hwf a lo w v).hostReply = s.hostReply := by simp [hwf]
@[simp] theorem hwf_mgmtReply (a lo w v : Nat) : (s.hwf a lo w v).mgmtReply = s.mgmtReply := by simp [hwf]
@[simp] theorem hwf_msix (a lo w v : Nat) : (s.hwf a lo w v).msix = s.msix := by simp [hwf]
@[simp] theorem hwf_snapH (a lo w v : Nat) : (s.hwf a lo w v).snapH = s.snapH := by simp [hwf]
@[simp] theorem hwf_snapM (a lo w v : Nat) : (s.hwf a lo w v).snapM = s.snapM := by simp [hwf]
@[simp] theorem hwf_records (a lo w v : Nat) : (s.hwf a lo w v).records = s.records := by simp [hwf]
@[simp] theorem hwf_waiting (a lo w v : Nat) : (s.hwf a lo w v).waiting = s.waiting := by simp [hwf]
@[simp] theorem hwf_tokH (a lo w v : Nat) : (s.hwf a lo w v).tokH = s.tokH := by simp [hwf]
@[simp] theorem hwf_tokM (a lo w v : Nat) : (s.hwf a lo w v).tokM = s.tokM := by simp [hwf]
@[simp] theorem hwf_safeSet (a lo w v : Nat) : (s.hwf a lo w v).safeSet = s.safeSet := by simp [hwf]
@[simp] theorem hwf_trips (a lo w v : Nat) : (s.hwf a lo w v).trips = s.trips := by simp [hwf]
@[simp] theorem hwf_commons (a lo w v : Nat) : (s.hwf a lo w v).commons = s.commons := by simp [hwf]
@[simp] theorem hwf_trig (a lo w v : Nat) : (s.hwf a lo w v).trig = s.trig := by simp [hwf]
@[simp] theorem hwf_active (a lo w v : Nat) : (s.hwf a lo w v).active = s.active := by simp [hwf]
@[simp] theorem hwf_faultQ (a lo w v : Nat) : (s.hwf a lo w v).faultQ = s.faultQ := by simp [hwf]
@[simp] theorem hwf_log (a lo w v : Nat) : (s.hwf a lo w v).log = s.log := by simp [hwf]
@[simp] theorem hwf_queues (a lo w v : Nat) : (s.hwf a lo w v).queues = s.queues := by simp [hwf]
@[simp] theorem hwf_sessions (a lo w v : Nat) : (s.hwf a lo w v).sessions = s.sessions := by simp [hwf]
@[simp] theorem hwf_vehs (a lo w v : Nat) : (s.hwf a lo w v).vehs = s.vehs := by simp [hwf]
@[simp] theorem hwf_clamps (a lo w v : Nat) : (s.hwf a lo w v).clamps = s.clamps := by simp [hwf]
@[simp] theorem hwf_tinChanges (a lo w v : Nat) : (s.hwf a lo w v).tinChanges = s.tinChanges := by simp [hwf]
@[simp] theorem hwf_slCopies (a lo w v : Nat) : (s.hwf a lo w v).slCopies = s.slCopies := by simp [hwf]
@[simp] theorem hwf_slSent (a lo w v : Nat) : (s.hwf a lo w v).slSent = s.slSent := by simp [hwf]
@[simp] theorem hwf_mps (a lo w v : Nat) : (s.hwf a lo w v).mps = s.mps := by simp [hwf]
@[simp] theorem hwf_mpCap (a lo w v : Nat) : (s.hwf a lo w v).mpCap = s.mpCap := by simp [hwf]
@[simp] theorem hwf_copies (a lo w v : Nat) : (s.hwf a lo w v).copies = s.copies := by simp [hwf]
@[simp] theorem hwf_saving (a lo w v : Nat) : (s.hwf a lo w v).saving = s.saving := by simp [hwf]
@[simp] theorem hwf_saveSet (a lo w v : Nat) : (s.hwf a lo w v).saveSet = s.saveSet := by simp [hwf]
@[simp] theorem hwf_harmDue (a lo w v : Nat) : (s.hwf a lo w v).harmDue = s.harmDue := by simp [hwf]
@[simp] theorem hwf_pqDue (a lo w v : Nat) : (s.hwf a lo w v).pqDue = s.pqDue := by simp [hwf]
@[simp] theorem hwf_inFaults (a lo w v : Nat) : (s.hwf a lo w v).inFaults = s.inFaults := by simp [hwf]
@[simp] theorem hwf_pqOpens (a lo w v : Nat) : (s.hwf a lo w v).pqOpens = s.pqOpens := by simp [hwf]
@[simp] theorem hwf_bals (a lo w v : Nat) : (s.hwf a lo w v).bals = s.bals := by simp [hwf]
@[simp] theorem hwf_balSent (a lo w v : Nat) : (s.hwf a lo w v).balSent = s.balSent := by simp [hwf]
@[simp] theorem hwf_balCfgs (a lo w v : Nat) : (s.hwf a lo w v).balCfgs = s.balCfgs := by simp [hwf]
@[simp] theorem hwf_alcIn (a lo w v : Nat) : (s.hwf a lo w v).alcIn = s.alcIn := by simp [hwf]
@[simp] theorem hwf_calAct (a lo w v : Nat) : (s.hwf a lo w v).calAct = s.calAct := by simp [hwf]
@[simp] theorem hwf_calPend (a lo w v : Nat) : (s.hwf a lo w v).calPend = s.calPend := by simp [hwf]
@[simp] theorem hwf_dems (a lo w v : Nat) : (s.hwf a lo w v).dems = s.dems := by simp [hwf]
@[simp] theorem hwf_demEnds (a lo w v : Nat) : (s.hwf a lo w v).demEnds = s.demEnds := by simp [hwf]
@[simp] theorem hwf_rdgs (a lo w v : Nat) : (s.hwf a lo w v).rdgs = s.rdgs := by simp [hwf]
@[simp] theorem hwf_bilWait (a lo w v : Nat) : (s.hwf a lo w v).bilWait = s.bilWait := by simp [hwf]
@[simp] theorem hwf_bilStore (a lo w v : Nat) : (s.hwf a lo w v).bilStore = s.bilStore := by simp [hwf]
@[simp] theorem hwf_dkeys (a lo w v : Nat) : (s.hwf a lo w v).dkeys = s.dkeys := by simp [hwf]
@[simp] theorem hwf_keyOps (a lo w v : Nat) : (s.hwf a lo w v).keyOps = s.keyOps := by simp [hwf]
@[simp] theorem hwf_keyDone (a lo w v : Nat) : (s.hwf a lo w v).keyDone = s.keyDone := by simp [hwf]
@[simp] theorem hwf_fmem (a lo w v : Nat) : (s.hwf a lo w v).fmem = s.fmem := by simp [hwf]
@[simp] theorem hwf_fieldReply (a lo w v : Nat) : (s.hwf a lo w v).fieldReply = s.fieldReply := by simp [hwf]
@[simp] theorem hwf_memOps (a lo w v : Nat) : (s.hwf a lo w v).memOps = s.memOps := by simp [hwf]
@[simp] theorem hwf_cards (a lo w v : Nat) : (s.hwf a lo w v).cards = s.cards := by simp [hwf]
@[simp] theorem hwf_linkTx (a lo w v : Nat) : (s.hwf a lo w v).linkTx = s.linkTx := by simp [hwf]
@[simp] theorem hwf_linkSent (a lo w v : Nat) : (s.hwf a lo w v).linkSent = s.linkSent := by simp [hwf]
@[simp] theorem hwf_linkHist (a lo w v : Nat) : (s.hwf a lo w v).linkHist = s.linkHist := by simp [hwf]
@[simp] theorem hwf_linkRx (a lo w v : Nat) : (s.hwf a lo w v).linkRx = s.linkRx := by simp [hwf]
@[simp] theorem hwf_ethQ (a lo w v : Nat) : (s.hwf a lo w v).ethQ = s.ethQ := by simp [hwf]
@[simp] theorem hwf_macs (a lo w v : Nat) : (s.hwf a lo w v).macs = s.macs := by simp [hwf]
@[simp] theorem hwf_netErrs (a lo w v : Nat) : (s.hwf a lo w v).netErrs = s.netErrs := by simp [hwf]
@[simp] theorem hwf_netFlaps (a lo w v : Nat) : (s.hwf a lo w v).netFlaps = s.netFlaps := by simp [hwf]
@[simp] theorem hwf_netTrig (a lo w v : Nat) : (s.hwf a lo w v).netTrig = s.netTrig := by simp [hwf]
@[simp] theorem hwf_bales (a lo w v : Nat) : (s.hwf a lo w v).bales = s.bales := by simp [hwf]
@[simp] theorem hwf_pieces (a lo w v : Nat) : (s.hwf a lo w v).pieces = s.pieces := by simp [hwf]
@[simp] theorem hwf_fetches (a lo w v : Nat) : (s.hwf a lo w v).fetches = s.fetches := by simp [hwf]
@[simp] theorem hwf_capSet (a lo w v : Nat) : (s.hwf a lo w v).capSet = s.capSet := by simp [hwf]
@[simp] theorem hwf_roCfg (a lo w v : Nat) : (s.hwf a lo w v).roCfg = s.roCfg := by simp [hwf]
@[simp] theorem hwf_fastX (a lo w v : Nat) : (s.hwf a lo w v).fastX = s.fastX := by simp [hwf]
@[simp] theorem hwf_fastY (a lo w v : Nat) : (s.hwf a lo w v).fastY = s.fastY := by simp [hwf]
@[simp] theorem hwf_cfgOld (a lo w v : Nat) : (s.hwf a lo w v).cfgOld = s.cfgOld := by simp [hwf]
@[simp] theorem hwf_cfgDefer (a lo w v : Nat) : (s.hwf a lo w v).cfgDefer = s.cfgDefer := by simp [hwf]

/-! hwb writes slots and dirty only. -/

@[simp] theorem hwb_pending (a i : Nat) (b : Bool) : (s.hwb a i b).pending = s.pending := by simp [hwb]
@[simp] theorem hwb_counter (a i : Nat) (b : Bool) : (s.hwb a i b).counter = s.counter := by simp [hwb]
@[simp] theorem hwb_clockSets (a i : Nat) (b : Bool) : (s.hwb a i b).clockSets = s.clockSets := by simp [hwb]
@[simp] theorem hwb_clockQ (a i : Nat) (b : Bool) : (s.hwb a i b).clockQ = s.clockQ := by simp [hwb]
@[simp] theorem hwb_announces (a i : Nat) (b : Bool) : (s.hwb a i b).announces = s.announces := by simp [hwb]
@[simp] theorem hwb_ptpOut (a i : Nat) (b : Bool) : (s.hwb a i b).ptpOut = s.ptpOut := by simp [hwb]
@[simp] theorem hwb_tcOut (a i : Nat) (b : Bool) : (s.hwb a i b).tcOut = s.tcOut := by simp [hwb]
@[simp] theorem hwb_pub (a i : Nat) (b : Bool) : (s.hwb a i b).pub = s.pub := by simp [hwb]
@[simp] theorem hwb_vars (a i : Nat) (b : Bool) : (s.hwb a i b).vars = s.vars := by simp [hwb]
@[simp] theorem hwb_cycle (a i : Nat) (b : Bool) : (s.hwb a i b).cycle = s.cycle := by simp [hwb]
@[simp] theorem hwb_commits (a i : Nat) (b : Bool) : (s.hwb a i b).commits = s.commits := by simp [hwb]
@[simp] theorem hwb_reads (a i : Nat) (b : Bool) : (s.hwb a i b).reads = s.reads := by simp [hwb]
@[simp] theorem hwb_hostReply (a i : Nat) (b : Bool) : (s.hwb a i b).hostReply = s.hostReply := by simp [hwb]
@[simp] theorem hwb_mgmtReply (a i : Nat) (b : Bool) : (s.hwb a i b).mgmtReply = s.mgmtReply := by simp [hwb]
@[simp] theorem hwb_msix (a i : Nat) (b : Bool) : (s.hwb a i b).msix = s.msix := by simp [hwb]
@[simp] theorem hwb_snapH (a i : Nat) (b : Bool) : (s.hwb a i b).snapH = s.snapH := by simp [hwb]
@[simp] theorem hwb_snapM (a i : Nat) (b : Bool) : (s.hwb a i b).snapM = s.snapM := by simp [hwb]
@[simp] theorem hwb_records (a i : Nat) (b : Bool) : (s.hwb a i b).records = s.records := by simp [hwb]
@[simp] theorem hwb_waiting (a i : Nat) (b : Bool) : (s.hwb a i b).waiting = s.waiting := by simp [hwb]
@[simp] theorem hwb_tokH (a i : Nat) (b : Bool) : (s.hwb a i b).tokH = s.tokH := by simp [hwb]
@[simp] theorem hwb_tokM (a i : Nat) (b : Bool) : (s.hwb a i b).tokM = s.tokM := by simp [hwb]
@[simp] theorem hwb_safeSet (a i : Nat) (b : Bool) : (s.hwb a i b).safeSet = s.safeSet := by simp [hwb]
@[simp] theorem hwb_trips (a i : Nat) (b : Bool) : (s.hwb a i b).trips = s.trips := by simp [hwb]
@[simp] theorem hwb_commons (a i : Nat) (b : Bool) : (s.hwb a i b).commons = s.commons := by simp [hwb]
@[simp] theorem hwb_trig (a i : Nat) (b : Bool) : (s.hwb a i b).trig = s.trig := by simp [hwb]
@[simp] theorem hwb_active (a i : Nat) (b : Bool) : (s.hwb a i b).active = s.active := by simp [hwb]
@[simp] theorem hwb_faultQ (a i : Nat) (b : Bool) : (s.hwb a i b).faultQ = s.faultQ := by simp [hwb]
@[simp] theorem hwb_log (a i : Nat) (b : Bool) : (s.hwb a i b).log = s.log := by simp [hwb]
@[simp] theorem hwb_queues (a i : Nat) (b : Bool) : (s.hwb a i b).queues = s.queues := by simp [hwb]
@[simp] theorem hwb_sessions (a i : Nat) (b : Bool) : (s.hwb a i b).sessions = s.sessions := by simp [hwb]
@[simp] theorem hwb_vehs (a i : Nat) (b : Bool) : (s.hwb a i b).vehs = s.vehs := by simp [hwb]
@[simp] theorem hwb_clamps (a i : Nat) (b : Bool) : (s.hwb a i b).clamps = s.clamps := by simp [hwb]
@[simp] theorem hwb_tinChanges (a i : Nat) (b : Bool) : (s.hwb a i b).tinChanges = s.tinChanges := by simp [hwb]
@[simp] theorem hwb_slCopies (a i : Nat) (b : Bool) : (s.hwb a i b).slCopies = s.slCopies := by simp [hwb]
@[simp] theorem hwb_slSent (a i : Nat) (b : Bool) : (s.hwb a i b).slSent = s.slSent := by simp [hwb]
@[simp] theorem hwb_mps (a i : Nat) (b : Bool) : (s.hwb a i b).mps = s.mps := by simp [hwb]
@[simp] theorem hwb_mpCap (a i : Nat) (b : Bool) : (s.hwb a i b).mpCap = s.mpCap := by simp [hwb]
@[simp] theorem hwb_copies (a i : Nat) (b : Bool) : (s.hwb a i b).copies = s.copies := by simp [hwb]
@[simp] theorem hwb_saving (a i : Nat) (b : Bool) : (s.hwb a i b).saving = s.saving := by simp [hwb]
@[simp] theorem hwb_saveSet (a i : Nat) (b : Bool) : (s.hwb a i b).saveSet = s.saveSet := by simp [hwb]
@[simp] theorem hwb_harmDue (a i : Nat) (b : Bool) : (s.hwb a i b).harmDue = s.harmDue := by simp [hwb]
@[simp] theorem hwb_pqDue (a i : Nat) (b : Bool) : (s.hwb a i b).pqDue = s.pqDue := by simp [hwb]
@[simp] theorem hwb_inFaults (a i : Nat) (b : Bool) : (s.hwb a i b).inFaults = s.inFaults := by simp [hwb]
@[simp] theorem hwb_pqOpens (a i : Nat) (b : Bool) : (s.hwb a i b).pqOpens = s.pqOpens := by simp [hwb]
@[simp] theorem hwb_bals (a i : Nat) (b : Bool) : (s.hwb a i b).bals = s.bals := by simp [hwb]
@[simp] theorem hwb_balSent (a i : Nat) (b : Bool) : (s.hwb a i b).balSent = s.balSent := by simp [hwb]
@[simp] theorem hwb_balCfgs (a i : Nat) (b : Bool) : (s.hwb a i b).balCfgs = s.balCfgs := by simp [hwb]
@[simp] theorem hwb_alcIn (a i : Nat) (b : Bool) : (s.hwb a i b).alcIn = s.alcIn := by simp [hwb]
@[simp] theorem hwb_calAct (a i : Nat) (b : Bool) : (s.hwb a i b).calAct = s.calAct := by simp [hwb]
@[simp] theorem hwb_calPend (a i : Nat) (b : Bool) : (s.hwb a i b).calPend = s.calPend := by simp [hwb]
@[simp] theorem hwb_dems (a i : Nat) (b : Bool) : (s.hwb a i b).dems = s.dems := by simp [hwb]
@[simp] theorem hwb_demEnds (a i : Nat) (b : Bool) : (s.hwb a i b).demEnds = s.demEnds := by simp [hwb]
@[simp] theorem hwb_rdgs (a i : Nat) (b : Bool) : (s.hwb a i b).rdgs = s.rdgs := by simp [hwb]
@[simp] theorem hwb_bilWait (a i : Nat) (b : Bool) : (s.hwb a i b).bilWait = s.bilWait := by simp [hwb]
@[simp] theorem hwb_bilStore (a i : Nat) (b : Bool) : (s.hwb a i b).bilStore = s.bilStore := by simp [hwb]
@[simp] theorem hwb_dkeys (a i : Nat) (b : Bool) : (s.hwb a i b).dkeys = s.dkeys := by simp [hwb]
@[simp] theorem hwb_keyOps (a i : Nat) (b : Bool) : (s.hwb a i b).keyOps = s.keyOps := by simp [hwb]
@[simp] theorem hwb_keyDone (a i : Nat) (b : Bool) : (s.hwb a i b).keyDone = s.keyDone := by simp [hwb]
@[simp] theorem hwb_fmem (a i : Nat) (b : Bool) : (s.hwb a i b).fmem = s.fmem := by simp [hwb]
@[simp] theorem hwb_fieldReply (a i : Nat) (b : Bool) : (s.hwb a i b).fieldReply = s.fieldReply := by simp [hwb]
@[simp] theorem hwb_memOps (a i : Nat) (b : Bool) : (s.hwb a i b).memOps = s.memOps := by simp [hwb]
@[simp] theorem hwb_cards (a i : Nat) (b : Bool) : (s.hwb a i b).cards = s.cards := by simp [hwb]
@[simp] theorem hwb_linkTx (a i : Nat) (b : Bool) : (s.hwb a i b).linkTx = s.linkTx := by simp [hwb]
@[simp] theorem hwb_linkSent (a i : Nat) (b : Bool) : (s.hwb a i b).linkSent = s.linkSent := by simp [hwb]
@[simp] theorem hwb_linkHist (a i : Nat) (b : Bool) : (s.hwb a i b).linkHist = s.linkHist := by simp [hwb]
@[simp] theorem hwb_linkRx (a i : Nat) (b : Bool) : (s.hwb a i b).linkRx = s.linkRx := by simp [hwb]
@[simp] theorem hwb_ethQ (a i : Nat) (b : Bool) : (s.hwb a i b).ethQ = s.ethQ := by simp [hwb]
@[simp] theorem hwb_macs (a i : Nat) (b : Bool) : (s.hwb a i b).macs = s.macs := by simp [hwb]
@[simp] theorem hwb_netErrs (a i : Nat) (b : Bool) : (s.hwb a i b).netErrs = s.netErrs := by simp [hwb]
@[simp] theorem hwb_netFlaps (a i : Nat) (b : Bool) : (s.hwb a i b).netFlaps = s.netFlaps := by simp [hwb]
@[simp] theorem hwb_netTrig (a i : Nat) (b : Bool) : (s.hwb a i b).netTrig = s.netTrig := by simp [hwb]
@[simp] theorem hwb_bales (a i : Nat) (b : Bool) : (s.hwb a i b).bales = s.bales := by simp [hwb]
@[simp] theorem hwb_pieces (a i : Nat) (b : Bool) : (s.hwb a i b).pieces = s.pieces := by simp [hwb]
@[simp] theorem hwb_fetches (a i : Nat) (b : Bool) : (s.hwb a i b).fetches = s.fetches := by simp [hwb]
@[simp] theorem hwb_capSet (a i : Nat) (b : Bool) : (s.hwb a i b).capSet = s.capSet := by simp [hwb]
@[simp] theorem hwb_roCfg (a i : Nat) (b : Bool) : (s.hwb a i b).roCfg = s.roCfg := by simp [hwb]
@[simp] theorem hwb_fastX (a i : Nat) (b : Bool) : (s.hwb a i b).fastX = s.fastX := by simp [hwb]
@[simp] theorem hwb_fastY (a i : Nat) (b : Bool) : (s.hwb a i b).fastY = s.fastY := by simp [hwb]
@[simp] theorem hwb_cfgOld (a i : Nat) (b : Bool) : (s.hwb a i b).cfgOld = s.cfgOld := by simp [hwb]
@[simp] theorem hwb_cfgDefer (a i : Nat) (b : Bool) : (s.hwb a i b).cfgDefer = s.cfgDefer := by simp [hwb]

/-! inc writes slots and dirty only. -/

@[simp] theorem inc_pending (a lo w n : Nat) : (s.inc a lo w n).pending = s.pending := by simp [inc]
@[simp] theorem inc_counter (a lo w n : Nat) : (s.inc a lo w n).counter = s.counter := by simp [inc]
@[simp] theorem inc_clockSets (a lo w n : Nat) : (s.inc a lo w n).clockSets = s.clockSets := by simp [inc]
@[simp] theorem inc_clockQ (a lo w n : Nat) : (s.inc a lo w n).clockQ = s.clockQ := by simp [inc]
@[simp] theorem inc_announces (a lo w n : Nat) : (s.inc a lo w n).announces = s.announces := by simp [inc]
@[simp] theorem inc_ptpOut (a lo w n : Nat) : (s.inc a lo w n).ptpOut = s.ptpOut := by simp [inc]
@[simp] theorem inc_tcOut (a lo w n : Nat) : (s.inc a lo w n).tcOut = s.tcOut := by simp [inc]
@[simp] theorem inc_pub (a lo w n : Nat) : (s.inc a lo w n).pub = s.pub := by simp [inc]
@[simp] theorem inc_vars (a lo w n : Nat) : (s.inc a lo w n).vars = s.vars := by simp [inc]
@[simp] theorem inc_cycle (a lo w n : Nat) : (s.inc a lo w n).cycle = s.cycle := by simp [inc]
@[simp] theorem inc_commits (a lo w n : Nat) : (s.inc a lo w n).commits = s.commits := by simp [inc]
@[simp] theorem inc_reads (a lo w n : Nat) : (s.inc a lo w n).reads = s.reads := by simp [inc]
@[simp] theorem inc_hostReply (a lo w n : Nat) : (s.inc a lo w n).hostReply = s.hostReply := by simp [inc]
@[simp] theorem inc_mgmtReply (a lo w n : Nat) : (s.inc a lo w n).mgmtReply = s.mgmtReply := by simp [inc]
@[simp] theorem inc_msix (a lo w n : Nat) : (s.inc a lo w n).msix = s.msix := by simp [inc]
@[simp] theorem inc_snapH (a lo w n : Nat) : (s.inc a lo w n).snapH = s.snapH := by simp [inc]
@[simp] theorem inc_snapM (a lo w n : Nat) : (s.inc a lo w n).snapM = s.snapM := by simp [inc]
@[simp] theorem inc_records (a lo w n : Nat) : (s.inc a lo w n).records = s.records := by simp [inc]
@[simp] theorem inc_waiting (a lo w n : Nat) : (s.inc a lo w n).waiting = s.waiting := by simp [inc]
@[simp] theorem inc_tokH (a lo w n : Nat) : (s.inc a lo w n).tokH = s.tokH := by simp [inc]
@[simp] theorem inc_tokM (a lo w n : Nat) : (s.inc a lo w n).tokM = s.tokM := by simp [inc]
@[simp] theorem inc_safeSet (a lo w n : Nat) : (s.inc a lo w n).safeSet = s.safeSet := by simp [inc]
@[simp] theorem inc_trips (a lo w n : Nat) : (s.inc a lo w n).trips = s.trips := by simp [inc]
@[simp] theorem inc_commons (a lo w n : Nat) : (s.inc a lo w n).commons = s.commons := by simp [inc]
@[simp] theorem inc_trig (a lo w n : Nat) : (s.inc a lo w n).trig = s.trig := by simp [inc]
@[simp] theorem inc_active (a lo w n : Nat) : (s.inc a lo w n).active = s.active := by simp [inc]
@[simp] theorem inc_faultQ (a lo w n : Nat) : (s.inc a lo w n).faultQ = s.faultQ := by simp [inc]
@[simp] theorem inc_log (a lo w n : Nat) : (s.inc a lo w n).log = s.log := by simp [inc]
@[simp] theorem inc_queues (a lo w n : Nat) : (s.inc a lo w n).queues = s.queues := by simp [inc]
@[simp] theorem inc_sessions (a lo w n : Nat) : (s.inc a lo w n).sessions = s.sessions := by simp [inc]
@[simp] theorem inc_vehs (a lo w n : Nat) : (s.inc a lo w n).vehs = s.vehs := by simp [inc]
@[simp] theorem inc_clamps (a lo w n : Nat) : (s.inc a lo w n).clamps = s.clamps := by simp [inc]
@[simp] theorem inc_tinChanges (a lo w n : Nat) : (s.inc a lo w n).tinChanges = s.tinChanges := by simp [inc]
@[simp] theorem inc_slCopies (a lo w n : Nat) : (s.inc a lo w n).slCopies = s.slCopies := by simp [inc]
@[simp] theorem inc_slSent (a lo w n : Nat) : (s.inc a lo w n).slSent = s.slSent := by simp [inc]
@[simp] theorem inc_mps (a lo w n : Nat) : (s.inc a lo w n).mps = s.mps := by simp [inc]
@[simp] theorem inc_mpCap (a lo w n : Nat) : (s.inc a lo w n).mpCap = s.mpCap := by simp [inc]
@[simp] theorem inc_copies (a lo w n : Nat) : (s.inc a lo w n).copies = s.copies := by simp [inc]
@[simp] theorem inc_saving (a lo w n : Nat) : (s.inc a lo w n).saving = s.saving := by simp [inc]
@[simp] theorem inc_saveSet (a lo w n : Nat) : (s.inc a lo w n).saveSet = s.saveSet := by simp [inc]
@[simp] theorem inc_harmDue (a lo w n : Nat) : (s.inc a lo w n).harmDue = s.harmDue := by simp [inc]
@[simp] theorem inc_pqDue (a lo w n : Nat) : (s.inc a lo w n).pqDue = s.pqDue := by simp [inc]
@[simp] theorem inc_inFaults (a lo w n : Nat) : (s.inc a lo w n).inFaults = s.inFaults := by simp [inc]
@[simp] theorem inc_pqOpens (a lo w n : Nat) : (s.inc a lo w n).pqOpens = s.pqOpens := by simp [inc]
@[simp] theorem inc_bals (a lo w n : Nat) : (s.inc a lo w n).bals = s.bals := by simp [inc]
@[simp] theorem inc_balSent (a lo w n : Nat) : (s.inc a lo w n).balSent = s.balSent := by simp [inc]
@[simp] theorem inc_balCfgs (a lo w n : Nat) : (s.inc a lo w n).balCfgs = s.balCfgs := by simp [inc]
@[simp] theorem inc_alcIn (a lo w n : Nat) : (s.inc a lo w n).alcIn = s.alcIn := by simp [inc]
@[simp] theorem inc_calAct (a lo w n : Nat) : (s.inc a lo w n).calAct = s.calAct := by simp [inc]
@[simp] theorem inc_calPend (a lo w n : Nat) : (s.inc a lo w n).calPend = s.calPend := by simp [inc]
@[simp] theorem inc_dems (a lo w n : Nat) : (s.inc a lo w n).dems = s.dems := by simp [inc]
@[simp] theorem inc_demEnds (a lo w n : Nat) : (s.inc a lo w n).demEnds = s.demEnds := by simp [inc]
@[simp] theorem inc_rdgs (a lo w n : Nat) : (s.inc a lo w n).rdgs = s.rdgs := by simp [inc]
@[simp] theorem inc_bilWait (a lo w n : Nat) : (s.inc a lo w n).bilWait = s.bilWait := by simp [inc]
@[simp] theorem inc_bilStore (a lo w n : Nat) : (s.inc a lo w n).bilStore = s.bilStore := by simp [inc]
@[simp] theorem inc_dkeys (a lo w n : Nat) : (s.inc a lo w n).dkeys = s.dkeys := by simp [inc]
@[simp] theorem inc_keyOps (a lo w n : Nat) : (s.inc a lo w n).keyOps = s.keyOps := by simp [inc]
@[simp] theorem inc_keyDone (a lo w n : Nat) : (s.inc a lo w n).keyDone = s.keyDone := by simp [inc]
@[simp] theorem inc_fmem (a lo w n : Nat) : (s.inc a lo w n).fmem = s.fmem := by simp [inc]
@[simp] theorem inc_fieldReply (a lo w n : Nat) : (s.inc a lo w n).fieldReply = s.fieldReply := by simp [inc]
@[simp] theorem inc_memOps (a lo w n : Nat) : (s.inc a lo w n).memOps = s.memOps := by simp [inc]
@[simp] theorem inc_cards (a lo w n : Nat) : (s.inc a lo w n).cards = s.cards := by simp [inc]
@[simp] theorem inc_linkTx (a lo w n : Nat) : (s.inc a lo w n).linkTx = s.linkTx := by simp [inc]
@[simp] theorem inc_linkSent (a lo w n : Nat) : (s.inc a lo w n).linkSent = s.linkSent := by simp [inc]
@[simp] theorem inc_linkHist (a lo w n : Nat) : (s.inc a lo w n).linkHist = s.linkHist := by simp [inc]
@[simp] theorem inc_linkRx (a lo w n : Nat) : (s.inc a lo w n).linkRx = s.linkRx := by simp [inc]
@[simp] theorem inc_ethQ (a lo w n : Nat) : (s.inc a lo w n).ethQ = s.ethQ := by simp [inc]
@[simp] theorem inc_macs (a lo w n : Nat) : (s.inc a lo w n).macs = s.macs := by simp [inc]
@[simp] theorem inc_netErrs (a lo w n : Nat) : (s.inc a lo w n).netErrs = s.netErrs := by simp [inc]
@[simp] theorem inc_netFlaps (a lo w n : Nat) : (s.inc a lo w n).netFlaps = s.netFlaps := by simp [inc]
@[simp] theorem inc_netTrig (a lo w n : Nat) : (s.inc a lo w n).netTrig = s.netTrig := by simp [inc]
@[simp] theorem inc_bales (a lo w n : Nat) : (s.inc a lo w n).bales = s.bales := by simp [inc]
@[simp] theorem inc_pieces (a lo w n : Nat) : (s.inc a lo w n).pieces = s.pieces := by simp [inc]
@[simp] theorem inc_fetches (a lo w n : Nat) : (s.inc a lo w n).fetches = s.fetches := by simp [inc]
@[simp] theorem inc_capSet (a lo w n : Nat) : (s.inc a lo w n).capSet = s.capSet := by simp [inc]
@[simp] theorem inc_roCfg (a lo w n : Nat) : (s.inc a lo w n).roCfg = s.roCfg := by simp [inc]
@[simp] theorem inc_fastX (a lo w n : Nat) : (s.inc a lo w n).fastX = s.fastX := by simp [inc]
@[simp] theorem inc_fastY (a lo w n : Nat) : (s.inc a lo w n).fastY = s.fastY := by simp [inc]
@[simp] theorem inc_cfgOld (a lo w n : Nat) : (s.inc a lo w n).cfgOld = s.cfgOld := by simp [inc]
@[simp] theorem inc_cfgDefer (a lo w n : Nat) : (s.inc a lo w n).cfgDefer = s.cfgDefer := by simp [inc]

/-! wrf writes slots only. -/

@[simp] theorem wrf_pending (a lo w v : Nat) : (s.wrf a lo w v).pending = s.pending := by simp [wrf]
@[simp] theorem wrf_counter (a lo w v : Nat) : (s.wrf a lo w v).counter = s.counter := by simp [wrf]
@[simp] theorem wrf_clockSets (a lo w v : Nat) : (s.wrf a lo w v).clockSets = s.clockSets := by simp [wrf]
@[simp] theorem wrf_clockQ (a lo w v : Nat) : (s.wrf a lo w v).clockQ = s.clockQ := by simp [wrf]
@[simp] theorem wrf_announces (a lo w v : Nat) : (s.wrf a lo w v).announces = s.announces := by simp [wrf]
@[simp] theorem wrf_ptpOut (a lo w v : Nat) : (s.wrf a lo w v).ptpOut = s.ptpOut := by simp [wrf]
@[simp] theorem wrf_tcOut (a lo w v : Nat) : (s.wrf a lo w v).tcOut = s.tcOut := by simp [wrf]
@[simp] theorem wrf_pub (a lo w v : Nat) : (s.wrf a lo w v).pub = s.pub := by simp [wrf]
@[simp] theorem wrf_vars (a lo w v : Nat) : (s.wrf a lo w v).vars = s.vars := by simp [wrf]
@[simp] theorem wrf_cycle (a lo w v : Nat) : (s.wrf a lo w v).cycle = s.cycle := by simp [wrf]
@[simp] theorem wrf_dirty (a lo w v : Nat) : (s.wrf a lo w v).dirty = s.dirty := by simp [wrf]
@[simp] theorem wrf_commits (a lo w v : Nat) : (s.wrf a lo w v).commits = s.commits := by simp [wrf]
@[simp] theorem wrf_reads (a lo w v : Nat) : (s.wrf a lo w v).reads = s.reads := by simp [wrf]
@[simp] theorem wrf_hostReply (a lo w v : Nat) : (s.wrf a lo w v).hostReply = s.hostReply := by simp [wrf]
@[simp] theorem wrf_mgmtReply (a lo w v : Nat) : (s.wrf a lo w v).mgmtReply = s.mgmtReply := by simp [wrf]
@[simp] theorem wrf_msix (a lo w v : Nat) : (s.wrf a lo w v).msix = s.msix := by simp [wrf]
@[simp] theorem wrf_snapH (a lo w v : Nat) : (s.wrf a lo w v).snapH = s.snapH := by simp [wrf]
@[simp] theorem wrf_snapM (a lo w v : Nat) : (s.wrf a lo w v).snapM = s.snapM := by simp [wrf]
@[simp] theorem wrf_records (a lo w v : Nat) : (s.wrf a lo w v).records = s.records := by simp [wrf]
@[simp] theorem wrf_waiting (a lo w v : Nat) : (s.wrf a lo w v).waiting = s.waiting := by simp [wrf]
@[simp] theorem wrf_tokH (a lo w v : Nat) : (s.wrf a lo w v).tokH = s.tokH := by simp [wrf]
@[simp] theorem wrf_tokM (a lo w v : Nat) : (s.wrf a lo w v).tokM = s.tokM := by simp [wrf]
@[simp] theorem wrf_safeSet (a lo w v : Nat) : (s.wrf a lo w v).safeSet = s.safeSet := by simp [wrf]
@[simp] theorem wrf_trips (a lo w v : Nat) : (s.wrf a lo w v).trips = s.trips := by simp [wrf]
@[simp] theorem wrf_commons (a lo w v : Nat) : (s.wrf a lo w v).commons = s.commons := by simp [wrf]
@[simp] theorem wrf_trig (a lo w v : Nat) : (s.wrf a lo w v).trig = s.trig := by simp [wrf]
@[simp] theorem wrf_active (a lo w v : Nat) : (s.wrf a lo w v).active = s.active := by simp [wrf]
@[simp] theorem wrf_faultQ (a lo w v : Nat) : (s.wrf a lo w v).faultQ = s.faultQ := by simp [wrf]
@[simp] theorem wrf_log (a lo w v : Nat) : (s.wrf a lo w v).log = s.log := by simp [wrf]
@[simp] theorem wrf_queues (a lo w v : Nat) : (s.wrf a lo w v).queues = s.queues := by simp [wrf]
@[simp] theorem wrf_sessions (a lo w v : Nat) : (s.wrf a lo w v).sessions = s.sessions := by simp [wrf]
@[simp] theorem wrf_vehs (a lo w v : Nat) : (s.wrf a lo w v).vehs = s.vehs := by simp [wrf]
@[simp] theorem wrf_clamps (a lo w v : Nat) : (s.wrf a lo w v).clamps = s.clamps := by simp [wrf]
@[simp] theorem wrf_tinChanges (a lo w v : Nat) : (s.wrf a lo w v).tinChanges = s.tinChanges := by simp [wrf]
@[simp] theorem wrf_slCopies (a lo w v : Nat) : (s.wrf a lo w v).slCopies = s.slCopies := by simp [wrf]
@[simp] theorem wrf_slSent (a lo w v : Nat) : (s.wrf a lo w v).slSent = s.slSent := by simp [wrf]
@[simp] theorem wrf_mps (a lo w v : Nat) : (s.wrf a lo w v).mps = s.mps := by simp [wrf]
@[simp] theorem wrf_mpCap (a lo w v : Nat) : (s.wrf a lo w v).mpCap = s.mpCap := by simp [wrf]
@[simp] theorem wrf_copies (a lo w v : Nat) : (s.wrf a lo w v).copies = s.copies := by simp [wrf]
@[simp] theorem wrf_saving (a lo w v : Nat) : (s.wrf a lo w v).saving = s.saving := by simp [wrf]
@[simp] theorem wrf_saveSet (a lo w v : Nat) : (s.wrf a lo w v).saveSet = s.saveSet := by simp [wrf]
@[simp] theorem wrf_harmDue (a lo w v : Nat) : (s.wrf a lo w v).harmDue = s.harmDue := by simp [wrf]
@[simp] theorem wrf_pqDue (a lo w v : Nat) : (s.wrf a lo w v).pqDue = s.pqDue := by simp [wrf]
@[simp] theorem wrf_inFaults (a lo w v : Nat) : (s.wrf a lo w v).inFaults = s.inFaults := by simp [wrf]
@[simp] theorem wrf_pqOpens (a lo w v : Nat) : (s.wrf a lo w v).pqOpens = s.pqOpens := by simp [wrf]
@[simp] theorem wrf_bals (a lo w v : Nat) : (s.wrf a lo w v).bals = s.bals := by simp [wrf]
@[simp] theorem wrf_balSent (a lo w v : Nat) : (s.wrf a lo w v).balSent = s.balSent := by simp [wrf]
@[simp] theorem wrf_balCfgs (a lo w v : Nat) : (s.wrf a lo w v).balCfgs = s.balCfgs := by simp [wrf]
@[simp] theorem wrf_alcIn (a lo w v : Nat) : (s.wrf a lo w v).alcIn = s.alcIn := by simp [wrf]
@[simp] theorem wrf_calAct (a lo w v : Nat) : (s.wrf a lo w v).calAct = s.calAct := by simp [wrf]
@[simp] theorem wrf_calPend (a lo w v : Nat) : (s.wrf a lo w v).calPend = s.calPend := by simp [wrf]
@[simp] theorem wrf_dems (a lo w v : Nat) : (s.wrf a lo w v).dems = s.dems := by simp [wrf]
@[simp] theorem wrf_demEnds (a lo w v : Nat) : (s.wrf a lo w v).demEnds = s.demEnds := by simp [wrf]
@[simp] theorem wrf_rdgs (a lo w v : Nat) : (s.wrf a lo w v).rdgs = s.rdgs := by simp [wrf]
@[simp] theorem wrf_bilWait (a lo w v : Nat) : (s.wrf a lo w v).bilWait = s.bilWait := by simp [wrf]
@[simp] theorem wrf_bilStore (a lo w v : Nat) : (s.wrf a lo w v).bilStore = s.bilStore := by simp [wrf]
@[simp] theorem wrf_dkeys (a lo w v : Nat) : (s.wrf a lo w v).dkeys = s.dkeys := by simp [wrf]
@[simp] theorem wrf_keyOps (a lo w v : Nat) : (s.wrf a lo w v).keyOps = s.keyOps := by simp [wrf]
@[simp] theorem wrf_keyDone (a lo w v : Nat) : (s.wrf a lo w v).keyDone = s.keyDone := by simp [wrf]
@[simp] theorem wrf_fmem (a lo w v : Nat) : (s.wrf a lo w v).fmem = s.fmem := by simp [wrf]
@[simp] theorem wrf_fieldReply (a lo w v : Nat) : (s.wrf a lo w v).fieldReply = s.fieldReply := by simp [wrf]
@[simp] theorem wrf_memOps (a lo w v : Nat) : (s.wrf a lo w v).memOps = s.memOps := by simp [wrf]
@[simp] theorem wrf_cards (a lo w v : Nat) : (s.wrf a lo w v).cards = s.cards := by simp [wrf]
@[simp] theorem wrf_linkTx (a lo w v : Nat) : (s.wrf a lo w v).linkTx = s.linkTx := by simp [wrf]
@[simp] theorem wrf_linkSent (a lo w v : Nat) : (s.wrf a lo w v).linkSent = s.linkSent := by simp [wrf]
@[simp] theorem wrf_linkHist (a lo w v : Nat) : (s.wrf a lo w v).linkHist = s.linkHist := by simp [wrf]
@[simp] theorem wrf_linkRx (a lo w v : Nat) : (s.wrf a lo w v).linkRx = s.linkRx := by simp [wrf]
@[simp] theorem wrf_ethQ (a lo w v : Nat) : (s.wrf a lo w v).ethQ = s.ethQ := by simp [wrf]
@[simp] theorem wrf_macs (a lo w v : Nat) : (s.wrf a lo w v).macs = s.macs := by simp [wrf]
@[simp] theorem wrf_netErrs (a lo w v : Nat) : (s.wrf a lo w v).netErrs = s.netErrs := by simp [wrf]
@[simp] theorem wrf_netFlaps (a lo w v : Nat) : (s.wrf a lo w v).netFlaps = s.netFlaps := by simp [wrf]
@[simp] theorem wrf_netTrig (a lo w v : Nat) : (s.wrf a lo w v).netTrig = s.netTrig := by simp [wrf]
@[simp] theorem wrf_bales (a lo w v : Nat) : (s.wrf a lo w v).bales = s.bales := by simp [wrf]
@[simp] theorem wrf_pieces (a lo w v : Nat) : (s.wrf a lo w v).pieces = s.pieces := by simp [wrf]
@[simp] theorem wrf_fetches (a lo w v : Nat) : (s.wrf a lo w v).fetches = s.fetches := by simp [wrf]
@[simp] theorem wrf_capSet (a lo w v : Nat) : (s.wrf a lo w v).capSet = s.capSet := by simp [wrf]
@[simp] theorem wrf_roCfg (a lo w v : Nat) : (s.wrf a lo w v).roCfg = s.roCfg := by simp [wrf]
@[simp] theorem wrf_fastX (a lo w v : Nat) : (s.wrf a lo w v).fastX = s.fastX := by simp [wrf]
@[simp] theorem wrf_fastY (a lo w v : Nat) : (s.wrf a lo w v).fastY = s.fastY := by simp [wrf]
@[simp] theorem wrf_cfgOld (a lo w v : Nat) : (s.wrf a lo w v).cfgOld = s.cfgOld := by simp [wrf]
@[simp] theorem wrf_cfgDefer (a lo w v : Nat) : (s.wrf a lo w v).cfgDefer = s.cfgDefer := by simp [wrf]

end Sys2Proof.Machine.State
end

