-- ==== Sys2Proof/Laws/Tab.lean ====
section
/-! SUPPORT. Laws of sparse tables: a read after a write, and the canonical form that every write keeps. -/
namespace Sys2Proof.Machine.Tab

section Reads
variable {κ : Type} [DecidableEq κ] {α : Type} (lt : κ → κ → Bool) (d : κ → α)

theorem get_erase_same (t : List (κ × α)) (k : κ) : get d (erase k t) k = d k := by
  induction t with
  | nil => rfl
  | cons e t ih =>
    simp only [erase]
    split
    · exact ih
    · next h => simpa [get, h] using ih

theorem get_erase_ne (t : List (κ × α)) {k j : κ} (h : j ≠ k) : get d (erase k t) j = get d t j := by
  induction t with
  | nil => rfl
  | cons e t ih =>
    simp only [erase]
    split
    · next hk => rw [ih]; simp [get, hk, Ne.symm h]
    · simp [get, ih]

theorem get_insert_same (t : List (κ × α)) (k : κ) (v : α) (h : ∀ e ∈ t, e.1 ≠ k) : get d (insert lt k v t) k = v := by
  induction t with
  | nil => simp [insert, get]
  | cons e t ih =>
    simp only [insert]
    split
    · simp [get]
    · simp only [get, h e (by simp), if_false]
      exact ih fun x hx => h x (by simp [hx])

theorem get_insert_ne (t : List (κ × α)) {k j : κ} (v : α) (h : j ≠ k) : get d (insert lt k v t) j = get d t j := by
  induction t with
  | nil => simp [insert, get, Ne.symm h]
  | cons e t ih =>
    simp only [insert]
    split
    · simp [get, Ne.symm h]
    · simp only [get, ih]

theorem ne_of_mem_erase {t : List (κ × α)} {k : κ} {e : κ × α} (h : e ∈ erase k t) : e.1 ≠ k := by
  induction t with
  | nil => simp [erase] at h
  | cons x t ih =>
    simp only [erase] at h
    split at h
    · exact ih h
    · next hx =>
      rcases List.mem_cons.mp h with rfl | h'
      · exact hx
      · exact ih h'

/-- A read of the key written gives the value written. -/
@[simp] theorem get_put_same [DecidableEq α] (t : List (κ × α)) (k : κ) (v : α) : get d (put lt d t k v) k = v := by
  simp only [put]
  split
  · next h => rw [get_erase_same, h]
  · exact get_insert_same lt d _ k v fun _ he => ne_of_mem_erase he

/-- A write leaves every other key alone. -/
theorem get_put_ne [DecidableEq α] (t : List (κ × α)) {k j : κ} (v : α) (h : j ≠ k) : get d (put lt d t k v) j = get d t j := by
  simp only [put]
  split
  · exact get_erase_ne d t h
  · rw [get_insert_ne lt d _ v h, get_erase_ne d t h]

end Reads

section Canonical
variable {α : Type} (d : Nat → α)

/-- The canonical form in terms of the whole list. -/
theorem wf_iff [DecidableEq α] (t : List (Nat × α)) :
    wf d t = true ↔ t.Pairwise (fun e f => e.1 < f.1) ∧ ∀ e ∈ t, e.2 ≠ d e.1 := by
  induction t with
  | nil => simp [wf]
  | cons e t ih =>
    cases t with
    | nil => simp [wf]
    | cons f t =>
      simp only [wf, Bool.and_eq_true, decide_eq_true_eq, ih, List.pairwise_cons, List.forall_mem_cons]
      constructor
      · rintro ⟨⟨h1, h2⟩, ⟨h3, h4⟩, h5, h6⟩
        exact ⟨⟨⟨h1, fun x hx => lt_trans h1 (h3 x hx)⟩, h3, h4⟩, h2, h5, h6⟩
      · rintro ⟨⟨⟨h1, _⟩, h3, h4⟩, h2, h5, h6⟩
        exact ⟨⟨h1, h2⟩, ⟨h3, h4⟩, h5, h6⟩

theorem mem_of_mem_erase {t : List (Nat × α)} {k : Nat} {e : Nat × α} (h : e ∈ erase k t) : e ∈ t := by
  induction t with
  | nil => simp [erase] at h
  | cons x t ih =>
    simp only [erase] at h
    split at h
    · exact List.mem_cons_of_mem _ (ih h)
    · rcases List.mem_cons.mp h with rfl | h'
      · simp
      · exact List.mem_cons_of_mem _ (ih h')

theorem pairwise_erase {t : List (Nat × α)} {k : Nat} (h : t.Pairwise (fun e f => e.1 < f.1)) :
    (erase k t).Pairwise (fun e f => e.1 < f.1) := by
  induction t with
  | nil => simp [erase]
  | cons x t ih =>
    rw [List.pairwise_cons] at h
    simp only [erase]
    split
    · exact ih h.2
    · exact List.pairwise_cons.mpr ⟨fun y hy => h.1 y (mem_of_mem_erase hy), ih h.2⟩

theorem mem_insert {t : List (Nat × α)} {k : Nat} {v : α} {e : Nat × α} (h : e ∈ insert natLt k v t) : e = (k, v) ∨ e ∈ t := by
  induction t with
  | nil => simpa [insert] using h
  | cons x t ih =>
    simp only [insert] at h
    split at h
    · simpa using h
    · rcases List.mem_cons.mp h with rfl | h'
      · simp
      · rcases ih h' with h'' | h''
        · exact Or.inl h''
        · exact Or.inr (List.mem_cons_of_mem _ h'')

theorem pairwise_insert {t : List (Nat × α)} {k : Nat} {v : α} (h : t.Pairwise (fun e f => e.1 < f.1))
    (hk : ∀ e ∈ t, e.1 ≠ k) : (insert natLt k v t).Pairwise (fun e f => e.1 < f.1) := by
  induction t with
  | nil => simp [insert]
  | cons x t ih =>
    rw [List.pairwise_cons] at h
    by_cases hlt : k < x.1
    · simp only [insert, natLt, hlt, decide_true, if_true]
      refine List.pairwise_cons.mpr ⟨fun y hy => ?_, List.pairwise_cons.mpr h⟩
      rcases List.mem_cons.mp hy with rfl | hy'
      · exact hlt
      · exact lt_trans hlt (h.1 y hy')
    · simp only [insert, natLt, hlt, decide_false, Bool.false_eq_true, if_false]
      have hx : x.1 < k := by
        have h2 := hk x (by simp)
        omega
      refine List.pairwise_cons.mpr ⟨fun y hy => ?_, ih h.2 fun e he => hk e (by simp [he])⟩
      rcases mem_insert hy with rfl | hy'
      · exact hx
      · exact h.1 y hy'

/-- Every write keeps the canonical form. -/
theorem wf_put [DecidableEq α] {t : List (Nat × α)} (k : Nat) (v : α) (h : wf d t = true) : wf d (put natLt d t k v) = true := by
  rw [wf_iff] at h ⊢
  simp only [put]
  split
  · exact ⟨pairwise_erase h.1, fun e he => h.2 e (mem_of_mem_erase he)⟩
  · next hv =>
    refine ⟨pairwise_insert (pairwise_erase h.1) fun e he => ne_of_mem_erase he, fun e he => ?_⟩
    rcases mem_insert he with rfl | he'
    · exact hv
    · exact h.2 e (mem_of_mem_erase he')

/-- Taking entries away keeps the canonical form. -/
theorem wf_filter [DecidableEq α] {t : List (Nat × α)} (p : Nat × α → Bool) (h : wf d t = true) : wf d (t.filter p) = true := by
  rw [wf_iff] at h ⊢
  exact ⟨h.1.filter p, fun e he => h.2 e (List.mem_of_mem_filter he)⟩

/-- Two canonical tables one after the other, the keys of the first below those of the second. -/
theorem wf_append [DecidableEq α] {t u : List (Nat × α)} (k : Nat) (ht : wf d t = true) (hu : wf d u = true)
    (h1 : ∀ e ∈ t, e.1 < k) (h2 : ∀ e ∈ u, k ≤ e.1) : wf d (t ++ u) = true := by
  rw [wf_iff] at ht hu ⊢
  refine ⟨List.pairwise_append.mpr ⟨ht.1, hu.1, fun e he f hf => lt_of_lt_of_le (h1 e he) (h2 f hf)⟩, fun e he => ?_⟩
  exact (List.mem_append.mp he).elim (ht.2 e) (hu.2 e)

/-- The entries of a table after a write are its old ones and the one written. -/
theorem mem_put [DecidableEq α] {t : List (Nat × α)} {k : Nat} {v : α} {e : Nat × α} (h : e ∈ put natLt d t k v) : e = (k, v) ∨ e ∈ t := by
  simp only [put] at h
  split at h
  · exact .inr (mem_of_mem_erase h)
  · exact (mem_insert h).imp_right mem_of_mem_erase

end Canonical
end Sys2Proof.Machine.Tab
end

