-- ==== Sys2Proof/Laws/Slots.lean ====
section
/-! SUPPORT. What a read gives after an update: fields of numbers, slots, banked slots and hidden counters. -/
namespace Sys2Proof

/-! Fields of a number. -/

theorem field_lt (x lo w : Nat) : field x lo w < 2 ^ w := Nat.mod_lt _ (Nat.two_pow_pos w)

/-- The field just set reads as the value set. -/
@[simp] theorem field_setField_same (x lo w v : Nat) : field (setField x lo w v) lo w = v % 2 ^ w := by
  unfold field setField
  have h : (x % 2 ^ lo + v % 2 ^ w * 2 ^ lo + x / 2 ^ (lo + w) * 2 ^ (lo + w)) / 2 ^ lo = v % 2 ^ w + x / 2 ^ (lo + w) * 2 ^ w := by
    have e : x % 2 ^ lo + v % 2 ^ w * 2 ^ lo + x / 2 ^ (lo + w) * 2 ^ (lo + w)
        = x % 2 ^ lo + (v % 2 ^ w + x / 2 ^ (lo + w) * 2 ^ w) * 2 ^ lo := by rw [pow_add]; ring
    rw [e, Nat.add_mul_div_right _ _ (Nat.two_pow_pos lo), Nat.div_eq_of_lt (Nat.mod_lt _ (Nat.two_pow_pos lo))]
    omega
  rw [h, Nat.add_mul_mod_self_right, Nat.mod_mod]

/-- A field below the one set is left alone. -/
theorem field_setField_below (x lo w v : Nat) {l k : Nat} (h : l + k ≤ lo) : field (setField x lo w v) l k = field x l k := by
  unfold field setField
  apply Nat.eq_of_testBit_eq
  intro i
  simp only [Nat.testBit_mod_two_pow, Nat.testBit_div_two_pow]
  by_cases hi : i < k
  · simp only [hi, decide_true, Bool.true_and]
    have e : x % 2 ^ lo + v % 2 ^ w * 2 ^ lo + x / 2 ^ (lo + w) * 2 ^ (lo + w)
        = 2 ^ lo * (v % 2 ^ w + x / 2 ^ (lo + w) * 2 ^ w) + x % 2 ^ lo := by rw [pow_add]; ring
    simp [e, Nat.testBit_two_pow_mul_add _ (Nat.mod_lt _ (Nat.two_pow_pos lo)), Nat.testBit_mod_two_pow, show i + l < lo by omega]
  · simp [hi]

/-- A field above the one set is left alone. -/
theorem field_setField_above (x lo w v : Nat) {l k : Nat} (h : lo + w ≤ l) : field (setField x lo w v) l k = field x l k := by
  obtain ⟨d, rfl⟩ := Nat.exists_eq_add_of_le h
  unfold field setField
  have e : (x % 2 ^ lo + v % 2 ^ w * 2 ^ lo + x / 2 ^ (lo + w) * 2 ^ (lo + w)) / 2 ^ (lo + w) = x / 2 ^ (lo + w) := by
    rw [Nat.add_mul_div_right _ _ (Nat.two_pow_pos _), Nat.div_eq_of_lt, Nat.zero_add]
    rw [pow_add]
    have h1 := Nat.mod_lt x (Nat.two_pow_pos lo)
    have h2 := Nat.mod_lt v (Nat.two_pow_pos w)
    nlinarith [Nat.two_pow_pos lo, Nat.two_pow_pos w]
  rw [pow_add 2 (lo + w) d, ← Nat.div_div_eq_div_mul, e, Nat.div_div_eq_div_mul]

/-- A slot value with a field replaced stays within 48 bits. -/
theorem setField_lt {x lo w v : Nat} (hx : x < 2 ^ 48) (h : lo + w ≤ 48) : setField x lo w v < 2 ^ 48 := by
  unfold setField
  have h1 := Nat.mod_lt x (Nat.two_pow_pos lo)
  have h2 := Nat.mod_lt v (Nat.two_pow_pos w)
  have h3 : x / 2 ^ (lo + w) < 2 ^ (48 - (lo + w)) := by
    rw [Nat.div_lt_iff_lt_mul (Nat.two_pow_pos _), ← pow_add]
    simpa [Nat.sub_add_cancel h] using hx
  have h4 : x % 2 ^ lo + v % 2 ^ w * 2 ^ lo < 2 ^ (lo + w) := by
    rw [pow_add]; nlinarith [Nat.two_pow_pos lo, Nat.two_pow_pos w]
  have h5 : x / 2 ^ (lo + w) * 2 ^ (lo + w) + 2 ^ (lo + w) ≤ 2 ^ 48 := by
    have := Nat.mul_le_mul_right (2 ^ (lo + w)) (Nat.succ_le_of_lt h3)
    rw [← pow_add, Nat.sub_add_cancel h] at this
    linarith [Nat.succ_mul (x / 2 ^ (lo + w)) (2 ^ (lo + w))]
  omega

namespace Machine.State

variable (s : State)

/-! Slots. -/

theorem rd_lt (a : Nat) : s.rd a < 2 ^ 48 := (Tab.get resetVal s.slots a).isLt

/-- The slot written reads as the value, 48 bits of it. -/
@[simp] theorem rd_wr_same (a v : Nat) : (s.wr a v).rd a = v % 2 ^ 48 := by simp [rd, wr]

/-- Another slot is left alone. -/
theorem rd_wr_ne {a b : Nat} (v : Nat) (h : b ≠ a) : (s.wr a v).rd b = s.rd b := by
  simp [rd, wr, Tab.get_put_ne _ _ _ _ h]

@[simp] theorem rd_setV (x : Var) (i : Nat) (k : Int) (a : Nat) : (s.setV x i k).rd a = s.rd a := by simp [rd]

@[simp] theorem rd_touch (p a : Nat) : (s.touch p).rd a = s.rd a := by simp [rd]

@[simp] theorem rd_hw_same (a v : Nat) : (s.hw a v).rd a = v % 2 ^ 48 := by
  unfold hw; split
  · assumption
  · simp

theorem rd_hw_ne {a b : Nat} (v : Nat) (h : b ≠ a) : (s.hw a v).rd b = s.rd b := by
  unfold hw; split
  · rfl
  · simp [rd_wr_ne _ _ h]

theorem rd_hwf_ne {a b : Nat} (lo w v : Nat) (h : b ≠ a) : (s.hwf a lo w v).rd b = s.rd b := rd_hw_ne s _ h

theorem rd_hwb_ne {a b : Nat} (i : Nat) (x : Bool) (h : b ≠ a) : (s.hwb a i x).rd b = s.rd b := rd_hw_ne s _ h

theorem rd_inc_ne {a b : Nat} (lo w n : Nat) (h : b ≠ a) : (s.inc a lo w n).rd b = s.rd b := rd_hw_ne s _ h

theorem rd_wrf_ne {a b : Nat} (lo w v : Nat) (h : b ≠ a) : (s.wrf a lo w v).rd b = s.rd b := rd_wr_ne s _ h

/-- A slot after a field update: that field replaced. -/
theorem rd_hwf_same {a lo w : Nat} (v : Nat) (h : lo + w ≤ 48) : (s.hwf a lo w v).rd a = setField (s.rd a) lo w v := by
  rw [hwf, rd_hw_same, Nat.mod_eq_of_lt (setField_lt (s.rd_lt a) h)]

theorem rd_wrf_same {a lo w : Nat} (v : Nat) (h : lo + w ≤ 48) : (s.wrf a lo w v).rd a = setField (s.rd a) lo w v := by
  rw [wrf, rd_wr_same, Nat.mod_eq_of_lt (setField_lt (s.rd_lt a) h)]

/-- The field updated reads as the value. -/
theorem fd_hwf_same {a lo w : Nat} (v : Nat) (h : lo + w ≤ 48) : (s.hwf a lo w v).fd a lo w = v % 2 ^ w := by
  rw [fd, rd_hwf_same s v h, field_setField_same]

theorem fd_wrf_same {a lo w : Nat} (v : Nat) (h : lo + w ≤ 48) : (s.wrf a lo w v).fd a lo w = v % 2 ^ w := by
  rw [fd, rd_wrf_same s v h, field_setField_same]

/-- A field that does not overlap the one updated is left alone. -/
theorem fd_hwf_apart {a lo w l k : Nat} (v : Nat) (h : lo + w ≤ 48) (d : l + k ≤ lo ∨ lo + w ≤ l) :
    (s.hwf a lo w v).fd a l k = s.fd a l k := by
  rw [fd, rd_hwf_same s v h]
  rcases d with d | d
  · exact field_setField_below _ _ _ _ d
  · exact field_setField_above _ _ _ _ d

theorem fd_hwf_ne {a b : Nat} (lo w v l k : Nat) (h : b ≠ a) : (s.hwf a lo w v).fd b l k = s.fd b l k := by
  rw [fd, rd_hwf_ne s _ _ _ h]; rfl

/-- The bit updated reads as the value. -/
theorem bit_hwb_same {a i : Nat} (b : Bool) (h : i < 48) : (s.hwb a i b).bit a i = b := by
  unfold bit hwb
  rw [fd_hwf_same s _ (by omega)]
  cases b <;> simp

/-- Another bit of the slot is left alone. -/
theorem bit_hwb_apart {a i j : Nat} (b : Bool) (h : i < 48) (d : j ≠ i) : (s.hwb a i b).bit a j = s.bit a j := by
  unfold bit hwb
  rw [fd_hwf_apart s _ (by omega) (by omega)]

theorem bit_hwb_ne {a c : Nat} (i j : Nat) (b : Bool) (h : c ≠ a) : (s.hwb a i b).bit c j = s.bit c j := by
  unfold bit hwb
  rw [fd_hwf_ne s _ _ _ _ _ h]

@[simp] theorem fd_setV (x : Var) (i : Nat) (k : Int) (a lo w : Nat) : (s.setV x i k).fd a lo w = s.fd a lo w := by simp [fd]

@[simp] theorem bit_setV (x : Var) (i : Nat) (k : Int) (a j : Nat) : (s.setV x i k).bit a j = s.bit a j := by simp [bit]

/-! Hidden counters. -/

@[simp] theorem v_setV_same (x : Var) (i : Nat) (k : Int) : (s.setV x i k).v x i = k := by simp [v, setV]

theorem v_setV_ne {x y : Var} {i j : Nat} (k : Int) (h : (y, j) ≠ (x, i)) : (s.setV x i k).v y j = s.v y j := by
  simp [v, setV, Tab.get_put_ne _ _ _ _ h]

@[simp] theorem v_wr (a v : Nat) (x : Var) (i : Nat) : (s.wr a v).v x i = s.v x i := rfl

@[simp] theorem v_hw (a v : Nat) (x : Var) (i : Nat) : (s.hw a v).v x i = s.v x i := by simp [State.v]

@[simp] theorem v_hwf (a lo w v : Nat) (x : Var) (i : Nat) : (s.hwf a lo w v).v x i = s.v x i := by simp [State.v]

@[simp] theorem v_hwb (a i : Nat) (b : Bool) (x : Var) (j : Nat) : (s.hwb a i b).v x j = s.v x j := by simp [State.v]

@[simp] theorem v_inc (a lo w n : Nat) (x : Var) (j : Nat) : (s.inc a lo w n).v x j = s.v x j := by simp [State.v]

/-! Banked slots. -/

@[simp] theorem rdB_wrB_same (m : Master) (a v : Nat) : (s.wrB m a v).rdB m a = v % 2 ^ 48 := by simp [rdB, wrB]

theorem bankKey_inj {m n : Master} {a b : Nat} (ha : a < bankSpan) (hb : b < bankSpan) (h : bankKey m a = bankKey n b) :
    m = n ∧ a = b := by
  unfold bankKey at h
  cases m <;> cases n <;> simp only [Master.ix, bankSpan] at h ha hb <;> first | exact ⟨rfl, by omega⟩ | (exfalso; omega)

theorem rdB_wrB_ne {m n : Master} {a b : Nat} (v : Nat) (ha : a < bankSpan) (hb : b < bankSpan) (h : (n, b) ≠ (m, a)) :
    (s.wrB m a v).rdB n b = s.rdB n b := by
  refine rd_wr_ne s v fun e => h ?_
  obtain ⟨rfl, rfl⟩ := bankKey_inj hb ha e
  rfl

/-- A banked write leaves every shared slot alone. -/
theorem rd_wrB_shared {m : Master} {a b : Nat} (v : Nat) (hb : b < bankSpan) : (s.wrB m a v).rd b = s.rd b := by
  refine rd_wr_ne s v fun e => ?_
  unfold bankKey at e
  cases m <;> simp only [Master.ix, bankSpan] at e hb <;> omega

end Machine.State
end Sys2Proof
end

