-- ==== Sys2Proof/Laws/KeepsBase.lean ====
section
/-! SUPPORT. What every effect keeps: the queue of waiting commands is not touched, and registers, published set, safety set and
field memory stay in canonical form, and metered energy stays even. Here for the elementary updates and the loops. -/
namespace Sys2Proof.Machine

/-- `t` has the queue of `r`, its tables are canonical where those of `r` are, and its energy is even where that of `r` is. -/
structure Keeps (r t : State) : Prop where
  pending : t.pending = r.pending
  canonical : r.canonical = true → t.canonical = true
  even : r.even = true → t.even = true

namespace Keeps

variable {r s t : State}

theorem refl (r : State) : Keeps r r := ⟨rfl, id, id⟩

theorem trans (h : Keeps r s) (k : Keeps s t) : Keeps r t := 
  ⟨k.pending.trans h.pending, fun c => k.canonical (h.canonical c), fun c => k.even (h.even c)⟩

/-- An update of other fields. -/
theorem of_eq (h : Keeps r s) (hp : t.pending = s.pending) (h1 : t.slots = s.slots) (h2 : t.pub = s.pub)
    (h3 : t.safeSet = s.safeSet) (h4 : t.fmem = s.fmem) (h5 : t.mps = s.mps) (h6 : t.held = s.held)
    (h7 : t.copies = s.copies) (h8 : t.saving = s.saving) : Keeps r t :=
  ⟨hp.trans h.pending, fun c => by
    have := h.canonical c
    simpa [State.canonical, h1, h2, h3, h4] using this, fun c => by
    have := h.even c
    simpa [State.even, h5, h6, h7, h8] using this⟩

/-- An update of fields other than the queue, the tables and the metering points. -/
theorem upd {x0 : Nat} {x1 : List ClockSet} {x2 : List ClockChange} {x3 : List Foreign} {x4 : List PtpOut} {x5 : Option TcOut} {x6 :
    List ((Var × Nat) × Int)} {x7 : List Write} {x8 : List Nat} {x9 : List Nat} {x10 : List ReadReq} {x11 : List Nat} {x12 :
    List Byte} {x13 : List Nat} {x14 : Option Snapshot} {x15 : Option Snapshot} {x16 : List Record} {x17 : List Waiting}
    {x18 : List (Nat × Nat)} {x19 : List (Nat × Nat)} {x20 : List Trip} {x21 : List Common} {x22 : List (Nat × Trig)} {x23 :
    List ActiveFault} {x24 : List FaultEvent} {x25 : List LogEntry} {x26 : List (Nat × Queue)} {x27 : List Sess} {x28 : List
    (Nat × Veh)} {x29 : List (Nat × Nat × Nat)} {x30 : List (Nat × Nat)} {x31 : List SlCopy} {x32 : List EthTx} {x33 : List
    HarmSet} {x34 : List PqRec} {x35 : List (Nat × Nat)} {x36 : List (Nat × Nat)} {x37 : List (Nat × List BalPeriod)} {x38 :
    List EthTx} {x39 : List (Nat × List (Nat × Word))} {x40 : AlcIn} {x41 : Option Cal} {x42 : Option Cal} {x43 : List (Nat
    × Dem)} {x44 : List DemEnd} {x45 : List (Nat × Rdg)} {x46 : List SRec} {x47 : List (Nat × Nat)} {x48 : List DKey} {x49 :
    List KeyOp} {x50 : List (Nat × Nat × Nat)} {x51 : List Byte} {x52 : List MemOp} {x53 : List Present} {x54 : List
    LinkOut} {x55 : List (Nat × List Byte)} {x56 : List (Nat × List (Nat × Nat))} {x57 : List (Nat × Nat)} {x58 : List
    EthOut} {x59 : List (Nat × Nat × Nat)} {x60 : List (Nat × Nat)} {x61 : List (Nat × Nat)} {x62 : List (Nat × NetTrig)}
    {x63 : List Stored} {x64 : List Piece} {x65 : List (Nat × Nat × Nat)} {x66 : List (Nat × Word)} {x67 : List (Nat ×
    Word)} {x68 : List (Nat × Word)} {x69 : List (Nat × Word)} {x70 : List (Nat × Nat × Word)}
    (h : Keeps r s) : Keeps r { s with
      counter := x0, clockSets := x1, clockQ := x2, announces := x3, ptpOut := x4, tcOut := x5, vars := x6, cycle := x7,
      dirty := x8, commits := x9, reads := x10, hostReply := x11, mgmtReply := x12, msix := x13, snapH := x14, snapM := x15,
      records := x16, waiting := x17, tokH := x18, tokM := x19, trips := x20, commons := x21, trig := x22, active := x23,
      faultQ := x24, log := x25, queues := x26, sessions := x27, vehs := x28, clamps := x29, tinChanges := x30, slCopies :=
      x31, slSent := x32, harmDue := x33, pqDue := x34, inFaults := x35, pqOpens := x36, bals := x37, balSent := x38,
      balCfgs := x39, alcIn := x40, calAct := x41, calPend := x42, dems := x43, demEnds := x44, rdgs := x45, bilWait := x46,
      bilStore := x47, dkeys := x48, keyOps := x49, keyDone := x50, fieldReply := x51, memOps := x52, cards := x53, linkTx
      := x54, linkSent := x55, linkHist := x56, linkRx := x57, ethQ := x58, macs := x59, netErrs := x60, netFlaps := x61,
      netTrig := x62, bales := x63, pieces := x64, fetches := x65, roCfg := x66, fastX := x67, fastY := x68, cfgOld := x69,
      cfgDefer := x70 } :=
  h.of_eq rfl rfl rfl rfl rfl rfl rfl rfl rfl

/-- An update of the metering points that keeps them even. -/
theorem met (h : Keeps r s) (hm : s.even = true → t.even = true) (hp : t.pending = s.pending := by exact rfl)
    (hc : s.canonical = true → t.canonical = true := by exact id) : Keeps r t :=
  ⟨hp.trans h.pending, fun c => hc (h.canonical c), fun e => hm (h.even e)⟩

/-- An update of the tables that keeps each canonical. -/
theorem of_wf (h : Keeps r s) (hp : t.pending = s.pending)
    (h1 : Tab.wf resetVal s.slots = true → Tab.wf resetVal t.slots = true)
    (h2 : Tab.wf resetVal s.slots = true → Tab.wf resetVal s.pub = true → Tab.wf resetVal t.pub = true)
    (h3 : Tab.wf resetVal s.safeSet = true → Tab.wf resetVal t.safeSet = true)
    (h4 : Tab.wf (fun _ => (0#8 : Byte)) s.fmem = true → Tab.wf (fun _ => (0#8 : Byte)) t.fmem = true)
    (h5 : s.even = true → t.even = true := by exact id) : Keeps r t :=
  ⟨hp.trans h.pending, fun c => by
    have := h.canonical c
    simp only [State.canonical, Bool.and_eq_true] at this ⊢
    exact ⟨⟨⟨h1 this.1.1.1, h2 this.1.1.1 this.1.1.2⟩, h3 this.1.2⟩, h4 this.2⟩, fun c => h5 (h.even c)⟩

theorem ite {c : Prop} [Decidable c] (h : Keeps r s) (k : Keeps r t) : Keeps r (if c then s else t) := by
  split
  · exact h
  · exact k

/-- A loop whose body keeps. -/
theorem foldl {α β : Type} (p : β → State) {f : β → α → β} {l : List α} {b : β}
    (hf : ∀ b x, Keeps r (p b) → Keeps r (p (f b x))) (h : Keeps r (p b)) : Keeps r (p (l.foldl f b)) := by
  induction l generalizing b with
  | nil => exact h
  | cons x l ih => exact ih (hf b x h)

end Keeps

variable {r s : State}

theorem each_keeps {α : Type} (l : List α) {f : α → State → State} (hf : ∀ x t, Keeps r t → Keeps r (f x t)) (h : Keeps r s) :
    Keeps r (each l f s) := by
  unfold each
  induction l generalizing s with
  | nil => exact h
  | cons x l ih => exact ih (hf x s h)

theorem foldl_keeps {α : Type} {f : State → α → State} {l : List α} (hf : ∀ t x, Keeps r t → Keeps r (f t x)) (h : Keeps r s) :
    Keeps r (l.foldl f s) := by
  induction l generalizing s with
  | nil => exact h
  | cons x l ih => exact ih (hf s x h)

theorem foldl_fst_keeps {α β : Type} {f : State × β → α → State × β} {l : List α} {p : State × β}
    (hf : ∀ t x, Keeps r t.1 → Keeps r (f t x).1) (h : Keeps r p.1) : Keeps r (l.foldl f p).1 := by
  induction l generalizing p with
  | nil => exact h
  | cons x l ih => exact ih (hf p x h)

theorem eachBelow_keeps (k : Nat) {f : Nat → State → State} (hf : ∀ x t, Keeps r t → Keeps r (f x t)) (h : Keeps r s) :
    Keeps r (eachBelow k f s) := each_keeps (List.range k) hf h

namespace State

theorem setV_keeps (x : Var) (i : Nat) (k : Int) (h : Keeps r s) : Keeps r (s.setV x i k) :=
  h.of_eq rfl rfl rfl rfl rfl rfl rfl rfl rfl

theorem wr_keeps (a v : Nat) (h : Keeps r s) : Keeps r (s.wr a v) :=
  h.of_wf rfl (Tab.wf_put _ _ _) (fun _ => id) id id

theorem touch_keeps (p : Nat) (h : Keeps r s) : Keeps r (s.touch p) := by
  unfold touch; exact Keeps.ite h (h.of_eq rfl rfl rfl rfl rfl rfl rfl rfl rfl)

theorem hw_keeps (a v : Nat) (h : Keeps r s) : Keeps r (s.hw a v) := by
  unfold hw; exact Keeps.ite h (touch_keeps _ (wr_keeps _ _ h))

theorem powered_keeps {f : State → State} (hf : ∀ t, Keeps r t → Keeps r (f t)) (h : Keeps r s) : Keeps r (powered f s) := by
  unfold powered; exact Keeps.ite h (hf s h)

theorem awake_keeps {f : State → State} (hf : ∀ t, Keeps r t → Keeps r (f t)) (h : Keeps r s) : Keeps r (awake f s) := by
  unfold awake; exact Keeps.ite h (hf s h)

theorem blockRuns_keeps (c : Nat) {f : State → State} (hf : ∀ t, Keeps r t → Keeps r (f t)) (h : Keeps r s) :
    Keeps r (blockRuns c f s) := by
  unfold blockRuns; exact Keeps.ite h (hf s h)

theorem engine_keeps {f : State → State} (hf : ∀ t, Keeps r t → Keeps r (f t)) (h : Keeps r s) : Keeps r (engine f s) := by
  unfold engine; exact Keeps.ite h (hf s h)

theorem inService_keeps {f : State → State} (hf : ∀ t, Keeps r t → Keeps r (f t)) (h : Keeps r s) : Keeps r (inService f s) := by
  unfold inService; exact Keeps.ite h (hf s h)

theorem linkEvent_keeps {f : State → State} (hf : ∀ t, Keeps r t → Keeps r (f t)) (h : Keeps r s) : Keeps r (linkEvent f s) := by
  unfold linkEvent; exact Keeps.ite h (hf s h)

end State
end Sys2Proof.Machine
end

