-- ==== Sys2Proof/Laws/Even.lean ====
section
/-! SUPPORT. The direction totals of a metering point stay the sums of their tariff registers (R139). -/
namespace Sys2Proof.Machine

namespace Mp

/-- Only the accumulators matter. -/
theorem even_of_acc {p q : Mp} (h : q.acc = p.acc) (e : p.even = true) : q.even = true := by
  simpa [even, h] using e

theorem even_iff {p : Mp} : p.even = true ↔ p.acc.length = 23 ∧
    p.acc.getD 0 0 % 2 ^ 96 = ((p.acc.drop 2).take 8).sum % 2 ^ 96 ∧
    p.acc.getD 1 0 % 2 ^ 96 = ((p.acc.drop 10).take 8).sum % 2 ^ 96 := by
  simp only [even, Bool.and_eq_true, decide_eq_true_eq, and_assoc]

/-- A list of 23 elements. -/
theorem acc23 {l : List Nat} (h : l.length = 23) : ∃ a0 a1 a2 a3 a4 a5 a6 a7 a8 a9 a10 a11 a12 a13 a14 a15 a16 a17 a18 a19 a20 a21 a22,
    l = [a0, a1, a2, a3, a4, a5, a6, a7, a8, a9, a10, a11, a12, a13, a14, a15, a16, a17, a18, a19, a20, a21, a22] := by
  match l, h with
  | [a0, a1, a2, a3, a4, a5, a6, a7, a8, a9, a10, a11, a12, a13, a14, a15, a16, a17, a18, a19, a20, a21, a22], _ =>
    exact ⟨a0, a1, a2, a3, a4, a5, a6, a7, a8, a9, a10, a11, a12, a13, a14, a15, a16, a17, a18, a19, a20, a21, a22, rfl⟩

/-- The reactive energies and UNMEASURED are no direction totals. -/
theorem add_even {p : Mp} (a v : Nat) (ha : 18 ≤ a) (e : p.even = true) : (p.add a v).even = true := by
  rw [even_iff] at e ⊢
  obtain ⟨h, e1, e2⟩ := e
  simp only [add]
  refine ⟨by simpa using h, ?_, ?_⟩
  · rw [List.getD_eq_getElem?_getD, List.getElem?_set_ne (by omega), ← List.getD_eq_getElem?_getD, e1, List.drop_set,
      if_neg (by omega), List.take_set, List.set_eq_of_length_le (by simp; omega)]
  · rw [List.getD_eq_getElem?_getD, List.getElem?_set_ne (by omega), ← List.getD_eq_getElem?_getD, e2, List.drop_set,
      if_neg (by omega), List.take_set, List.set_eq_of_length_le (by simp; omega)]

/-- A settled amount goes to a direction total and to one tariff register of that direction. -/
theorem settle_even {p : Mp} (n : Int) (e : p.even = true) : (p.settle n).even = true := by
  rw [even_iff] at e
  obtain ⟨h, e1, e2⟩ := e
  obtain ⟨a0, a1, a2, a3, a4, a5, a6, a7, a8, a9, a10, a11, a12, a13, a14, a15, a16, a17, a18, a19, a20, a21, a22, ha⟩ := acc23 h
  simp only [ha, List.getD_cons_zero, List.getD_cons_succ, List.drop_succ_cons, List.drop_zero, List.take_succ_cons, List.take_zero,
    List.sum_cons, List.sum_nil] at e1 e2
  rw [even_iff]
  have ht : p.tar % 8 < 8 := Nat.mod_lt _ (by decide)
  unfold settle
  simp only [add]
  generalize p.tar % 8 = t at ht
  split
  · next hn =>
    generalize n.toNat = k
    interval_cases t <;>
      simp [ha] <;> omega
  split
  · generalize n.natAbs = k
    interval_cases t <;>
      simp [ha] <;> omega
  · rw [ha]; simpa using ⟨e1, e2⟩

end Mp

variable {r s : State}

/-- What `State.even` says, field by field. -/
structure MetEven (mps caps capSet : List (Nat × Mp)) (saveSet : Option (Nat × List (Nat × Mp))) (copies : List MetCopy)
    (saving : Option MetCopy) : Prop where
  mps : ∀ x ∈ mps, x.2.even = true
  caps : ∀ x ∈ caps, x.2.even = true
  capSet : ∀ x ∈ capSet, x.2.even = true
  saveSet : ∀ y ∈ saveSet, ∀ x ∈ y.2, x.2.even = true
  copies : ∀ y ∈ copies, ∀ x ∈ y.mps, x.2.even = true
  saving : ∀ y ∈ saving, ∀ x ∈ y.mps, x.2.even = true

theorem metEven_iff : s.even = true ↔ MetEven s.mps s.mpCap s.capSet s.saveSet s.copies s.saving := by
  simp only [State.even, State.held, metEven, Bool.and_eq_true, List.all_eq_true, List.mem_append, Option.mem_toList]
  constructor
  · rintro ⟨⟨h1, h2⟩, h3⟩
    exact ⟨h1, fun x hx => h2 x (.inl (.inl hx)), fun x hx => h2 x (.inl (.inr hx)),
      fun y hy x hx => h2 x (.inr (by rw [hy]; exact hx)), fun y hy => h3 y (.inr hy), fun y hy => h3 y (.inl hy)⟩
  · rintro ⟨h1, h2, h3, h4, h5, h6⟩
    refine ⟨⟨h1, fun x hx => ?_⟩, fun y hy => hy.elim (h6 y) (h5 y)⟩
    rcases hx with (hx | hx) | hx
    · exact h2 x hx
    · exact h3 x hx
    · revert hx
      generalize ho : s.saveSet = o
      cases o with
      | none => simp
      | some y => exact fun hx => h4 y ho x hx

/-- No metering points. -/
theorem nil_even : ∀ x ∈ ([] : List (Nat × Mp)), x.2.even = true := by simp

/-- A metering point of a table. -/
theorem get_even (l : List (Nat × Mp)) (h : ∀ x ∈ l, x.2.even = true) (m : Nat) : (Tab.get (fun _ => Mp.zero) l m).even = true := by
  induction l with
  | nil => exact (by decide : Mp.zero.even = true)
  | cons x l ih =>
    simp only [Tab.get]
    split
    · exact h x (by simp)
    · exact ih fun y hy => h y (by simp [hy])

/-- A metering point replaced in a table. -/
theorem put_even {l : List (Nat × Mp)} (h : ∀ x ∈ l, x.2.even = true) (m : Nat) {p : Mp} (hp : p.even = true) :
    ∀ x ∈ Tab.put natLt (fun _ => Mp.zero) l m p, x.2.even = true := by
  intro x hx
  simp only [Tab.put] at hx
  split at hx
  · exact h x (Tab.mem_of_mem_erase hx)
  · rcases Tab.mem_insert hx with rfl | hx
    · exact hp
    · exact h x (Tab.mem_of_mem_erase hx)

/-- Where `r` is even, `p` is. -/
def EvenFrom (r : State) (p : Mp) : Prop := r.even = true → p.even = true

namespace EvenFrom

variable {p q : Mp}

theorem of_acc (h : EvenFrom r p) (e : q.acc = p.acc) : EvenFrom r q := fun k => Mp.even_of_acc e (h k)

theorem add (a v : Nat) (ha : 18 ≤ a) (h : EvenFrom r p) : EvenFrom r (p.add a v) := fun k => Mp.add_even a v ha (h k)

theorem settle (n : Int) (h : EvenFrom r p) : EvenFrom r (p.settle n) := fun k => Mp.settle_even n (h k)

theorem ite {c : Prop} [Decidable c] (h : EvenFrom r p) (k : EvenFrom r q) : EvenFrom r (if c then p else q) := by
  split
  · exact h
  · exact k

end EvenFrom

namespace State

theorem mp_even (h : Keeps r s) (m : Nat) : EvenFrom r (s.mp m) := fun k =>
  get_even s.mps (metEven_iff.mp (h.even k)).mps m

theorem pubSet_even (h : Keeps r s) (m : Nat) : EvenFrom r (s.pubSet m) := fun k => by
  unfold pubSet
  generalize hf : s.mpCap.find? (fun x => decide (x.1 = m)) = o
  cases o with
  | none => exact mp_even h m k
  | some x => exact (metEven_iff.mp (h.even k)).caps x (List.mem_of_find?_eq_some hf)

theorem setMp_keeps (m : Nat) {p : Mp} (hp : EvenFrom r p) (h : Keeps r s) : Keeps r (setMp m p s) :=
  ⟨h.pending, h.canonical, fun k => by
    have e := metEven_iff.mp (h.even k)
    exact metEven_iff.mpr { e with mps := put_even e.mps m (hp k) }⟩

/-- A table of metering points put in place of the one before. -/
theorem mps_keeps {l : List (Nat × Mp)} (hl : s.even = true → ∀ x ∈ l, x.2.even = true) (h : Keeps r s) : Keeps r { s with mps := l } :=
  h.met fun e => metEven_iff.mpr { metEven_iff.mp e with mps := hl e }

/-- A change of metering points that leaves their accumulators alone. -/
theorem map_mps_keeps {f : Nat × Mp → Nat × Mp} (hf : ∀ x, (f x).2.acc = x.2.acc) (h : Keeps r s) :
    Keeps r { s with mps := s.mps.map f } := by
  refine mps_keeps (fun e x hx => ?_) h
  obtain ⟨y, hy, rfl⟩ := List.mem_map.mp hx
  exact Mp.even_of_acc (hf y) ((metEven_iff.mp e).mps y hy)

end State
end Sys2Proof.Machine
end

