-- ==== Sys2Proof/Laws/Frame.lean ====
section
/-! SUPPORT. What the operations on registers leave: everything beside the registers, for each operation of Ops.lean and Flags.lean
and for the functions that only call these. -/
namespace Sys2Proof.Machine.State

variable (s : State)

@[simp] theorem beside_wr (a v : Nat) : (s.wr a v).besideRegisters = s.besideRegisters := rfl

@[simp] theorem beside_touch (p : Nat) : (s.touch p).besideRegisters = s.besideRegisters := by unfold touch; split <;> rfl

@[simp] theorem beside_hw (a v : Nat) : (s.hw a v).besideRegisters = s.besideRegisters := by unfold hw; split <;> simp

@[simp] theorem beside_hwf (a lo w v : Nat) : (s.hwf a lo w v).besideRegisters = s.besideRegisters := beside_hw s _ _

@[simp] theorem beside_hwb (a i : Nat) (b : Bool) : (s.hwb a i b).besideRegisters = s.besideRegisters := beside_hw s _ _

@[simp] theorem beside_inc (a lo w n : Nat) : (s.inc a lo w n).besideRegisters = s.besideRegisters := beside_hw s _ _

@[simp] theorem beside_wrf (a lo w v : Nat) : (s.wrf a lo w v).besideRegisters = s.besideRegisters := rfl

@[simp] theorem beside_wrB (m : Master) (a v : Nat) : (s.wrB m a v).besideRegisters = s.besideRegisters := rfl

@[simp] theorem beside_setV (x : Var) (i : Nat) (k : Int) : (s.setV x i k).besideRegisters = s.besideRegisters := rfl

@[simp] theorem beside_trigger (n : Nat) (t : Trig) : (trigger n t s).besideRegisters = s.besideRegisters := rfl

/-- Both branches of a conditional leave the same. -/
theorem beside_ite (c : Prop) [Decidable c] (x y : State) :
    (if c then x else y).besideRegisters = if c then x.besideRegisters else y.besideRegisters := by split <;> rfl

/-- A register read of a conditional. -/
theorem rd_ite (c : Prop) [Decidable c] (x y : State) (a : Nat) : (if c then x else y).rd a = if c then x.rd a else y.rd a := by
  split <;> rfl

@[simp] theorem rd_trigger (n : Nat) (t : Trig) (a : Nat) : (trigger n t s).rd a = s.rd a := rfl

@[simp] theorem beside_sendMsi (k : Nat) : (sendMsi k s).besideRegisters = s.besideRegisters := by
  unfold sendMsi
  split
  · split <;> rfl
  · rfl

@[simp] theorem beside_queEvtSum (k : Nat) : (queEvtSum k s).besideRegisters = s.besideRegisters := by
  unfold queEvtSum; simp only [beside_ite, beside_hwb, ite_self]

@[simp] theorem beside_evt (p b : Nat) : (evt p b s).besideRegisters = s.besideRegisters := by
  unfold evt; simp only [beside_queEvtSum, beside_ite, beside_sendMsi, beside_wrf, ite_self]

@[simp] theorem beside_vehicleLift (n : Nat) : (vehicleLift n s).besideRegisters = s.besideRegisters := by
  unfold vehicleLift; simp only [beside_ite, beside_trigger, ite_self]

@[simp] theorem beside_dutyApply (n : Nat) : (dutyApply n s).besideRegisters = s.besideRegisters := by
  unfold dutyApply; simp only [beside_vehicleLift, beside_ite, beside_hwf, beside_setV, ite_self]

@[simp] theorem beside_insSw (n : Nat) (b : Bool) : (insSw n b s).besideRegisters = s.besideRegisters := by
  unfold insSw; simp only [beside_ite, beside_hwb, beside_inc, ite_self]

@[simp] theorem beside_drvRefresh (n : Nat) : (drvRefresh n s).besideRegisters = s.besideRegisters := by
  unfold drvRefresh; simp only [beside_ite, beside_hwf, beside_hwb, beside_inc, beside_setV, ite_self]

end Sys2Proof.Machine.State
end

