-- ==== Sys2Proof/Laws/Keeps.lean ====
section
/-! SUPPORT. Every effect keeps the queue, the canonical tables and even energy (Laws/KeepsBase.lean): one lemma per effect. -/
namespace Sys2Proof.Machine.State

set_option linter.unusedTactic false
set_option linter.unreachableTactic false

variable {r s : State}

theorem setSnap_keeps (m : Master) (x : Option Snapshot) (h : Keeps r s) : Keeps r (setSnap s m x) := by
  unfold setSnap
  repeat'
    first
      | intro q | with_reducible assumption | with_reducible apply Keeps.ite | split | extract_lets | dsimp +zetaDelta only
      | with_reducible apply Keeps.upd

theorem hwf_keeps (a' : Nat) (lo : Nat) (w : Nat) (v : Nat) (h : Keeps r s) : Keeps r (hwf s a' lo w v) := by
  unfold hwf
  repeat'
    first
      | intro q | with_reducible assumption | with_reducible apply hw_keeps | with_reducible apply Keeps.ite | extract_lets
      | dsimp +zetaDelta only

theorem incSat_keeps (a' : Nat) (lo : Nat) (w : Nat) (n : Nat) (h : Keeps r s) : Keeps r (incSat s a' lo w n) := by
  unfold incSat
  repeat'
    first
      | intro q | with_reducible assumption | with_reducible apply hwf_keeps | with_reducible apply Keeps.ite | extract_lets
      | dsimp +zetaDelta only

theorem setOffset_keeps (o : Int) (h : Keeps r s) : Keeps r (setOffset s o) := by
  unfold setOffset
  repeat'
    first
      | intro q | with_reducible assumption | with_reducible apply hw_keeps | with_reducible apply Keeps.ite | extract_lets
      | dsimp +zetaDelta only

theorem inc_keeps (a' : Nat) (lo : Nat) (w : Nat) (n : Nat) (h : Keeps r s) : Keeps r (inc s a' lo w n) := by
  unfold inc
  repeat'
    first
      | intro q | with_reducible assumption | with_reducible apply hwf_keeps | with_reducible apply Keeps.ite | extract_lets
      | dsimp +zetaDelta only

theorem wrB_keeps (m : Master) (a' : Nat) (v : Nat) (h : Keeps r s) : Keeps r (wrB s m a' v) := by
  unfold wrB
  repeat'
    first
      | intro q | with_reducible assumption | with_reducible apply wr_keeps | with_reducible apply Keeps.ite | extract_lets
      | dsimp +zetaDelta only

theorem wrfB_keeps (m : Master) (a' : Nat) (lo : Nat) (w : Nat) (v : Nat) (h : Keeps r s) : Keeps r (wrfB s m a' lo w v) := by
  unfold wrfB
  repeat'
    first
      | intro q | with_reducible assumption | with_reducible apply wrB_keeps | with_reducible apply Keeps.ite | extract_lets
      | dsimp +zetaDelta only

theorem addV_keeps (x : Var) (i : Nat) (k : Int) (h : Keeps r s) : Keeps r (addV s x i k) := by
  unfold addV
  repeat'
    first
      | intro q | with_reducible assumption | with_reducible apply setV_keeps | with_reducible apply Keeps.ite | extract_lets
      | dsimp +zetaDelta only

theorem hwb_keeps (a' : Nat) (i : Nat) (b : Bool) (h : Keeps r s) : Keeps r (hwb s a' i b) := by
  unfold hwb
  repeat'
    first
      | intro q | with_reducible assumption | with_reducible apply hwf_keeps | with_reducible apply Keeps.ite | extract_lets
      | dsimp +zetaDelta only

theorem wrf_keeps (a' : Nat) (lo : Nat) (w : Nat) (v : Nat) (h : Keeps r s) : Keeps r (wrf s a' lo w v) := by
  unfold wrf
  repeat'
    first
      | intro q | with_reducible assumption | with_reducible apply wr_keeps | with_reducible apply Keeps.ite | extract_lets
      | dsimp +zetaDelta only

theorem drawn_keeps (k : optParam Nat 1) (h : Keeps r s) : Keeps r (drawn s k) := by
  unfold drawn
  repeat'
    first
      | intro q | with_reducible assumption | with_reducible apply addV_keeps | with_reducible apply Keeps.ite | extract_lets
      | dsimp +zetaDelta only

theorem queEvtSum_keeps (page : Nat) (h : Keeps r s) : Keeps r (queEvtSum page s) := by
  unfold queEvtSum
  repeat'
    first
      | intro q | with_reducible assumption | with_reducible apply hwb_keeps | with_reducible apply Keeps.ite | extract_lets
      | dsimp +zetaDelta only

theorem sendMsi_keeps (vec : Nat) (h : Keeps r s) : Keeps r (sendMsi vec s) := by
  unfold sendMsi
  repeat'
    first
      | intro q | with_reducible assumption | with_reducible apply wrf_keeps | with_reducible apply Keeps.ite | extract_lets
      | dsimp +zetaDelta only | with_reducible apply Keeps.upd

theorem trigger_keeps (stall : Nat) (t' : Trig) (h : Keeps r s) : Keeps r (trigger stall t' s) := by
  unfold trigger
  repeat'
    first
      | intro q | with_reducible assumption | with_reducible apply Keeps.ite | extract_lets | dsimp +zetaDelta only
      | with_reducible apply Keeps.upd

theorem evt_keeps (page : Nat) (bit : Nat) (h : Keeps r s) : Keeps r (evt page bit s) := by
  unfold evt
  repeat'
    first
      | intro q | with_reducible assumption | with_reducible apply wrf_keeps | with_reducible apply sendMsi_keeps
      | with_reducible apply queEvtSum_keeps | with_reducible apply Keeps.ite | extract_lets | dsimp +zetaDelta only

theorem faultMove_keeps (code : Nat) (inst : Nat) (scope : Nat) (stalls : Nat) (entry : Bool) (seq : Nat) (h : Keeps r s) :
    Keeps r (faultMove code inst scope stalls entry seq s) := by
  unfold faultMove
  repeat'
    first
      | intro q | with_reducible assumption | with_reducible apply Keeps.ite | extract_lets | dsimp +zetaDelta only
      | with_reducible apply Keeps.upd

theorem drvRefresh_keeps (o : Nat) (h : Keeps r s) : Keeps r (drvRefresh o s) := by
  unfold drvRefresh
  repeat'
    first
      | intro q | with_reducible assumption | with_reducible apply setV_keeps | with_reducible apply inc_keeps
      | with_reducible apply hwb_keeps | with_reducible apply hwf_keeps | with_reducible apply Keeps.ite | extract_lets
      | dsimp +zetaDelta only

theorem setEnables_keeps (o : Nat) (on : Bool) (h : Keeps r s) : Keeps r (setEnables o on s) := by
  unfold setEnables
  repeat'
    first
      | intro q | with_reducible assumption | with_reducible apply drvRefresh_keeps | with_reducible apply hwb_keeps
      | with_reducible apply Keeps.ite | extract_lets | dsimp +zetaDelta only

theorem dropEnables_keeps (o : Nat) (h : Keeps r s) : Keeps r (dropEnables o s) := by
  unfold dropEnables
  repeat'
    first
      | intro q | with_reducible assumption | with_reducible apply setEnables_keeps | with_reducible apply setV_keeps
      | with_reducible apply Keeps.ite | extract_lets | dsimp +zetaDelta only

theorem freeDrop_keeps (h : Keeps r s) : Keeps r (freeDrop s) := by
  unfold freeDrop
  repeat'
    first
      | intro q | with_reducible assumption | with_reducible apply eachBelow_keeps | with_reducible apply dropEnables_keeps
      | with_reducible apply Keeps.ite | extract_lets | dsimp +zetaDelta only

theorem setDemand_keeps (o : Nat) (on : Bool) (h : Keeps r s) : Keeps r (setDemand o on s) := by
  unfold setDemand
  repeat'
    first
      | intro q | with_reducible assumption | with_reducible apply drvRefresh_keeps | with_reducible apply hwb_keeps
      | with_reducible apply Keeps.ite | extract_lets | dsimp +zetaDelta only

theorem withdraw_keeps (stall : Nat) (h : Keeps r s) : Keeps r (withdraw stall s) := by
  unfold withdraw
  repeat'
    first
      | intro q | with_reducible assumption | with_reducible apply setDemand_keeps | with_reducible apply dropEnables_keeps
      | with_reducible apply hwb_keeps | with_reducible apply setV_keeps | with_reducible apply evt_keeps
      | with_reducible apply inc_keeps | with_reducible apply Keeps.ite | with_reducible apply foldl_keeps
      | with_reducible apply foldl_fst_keeps | extract_lets | dsimp +zetaDelta only

theorem tripOutRefresh_keeps (j : Nat) (h : Keeps r s) : Keeps r (tripOutRefresh j s) := by
  unfold tripOutRefresh
  repeat'
    first
      | intro q | with_reducible assumption | with_reducible apply setV_keeps | with_reducible apply evt_keeps
      | with_reducible apply hwb_keeps | with_reducible apply Keeps.ite | extract_lets | dsimp +zetaDelta only

theorem tripOuts_keeps (h : Keeps r s) : Keeps r (tripOuts s) := by
  unfold tripOuts
  repeat'
    first
      | intro q | with_reducible assumption | with_reducible apply eachBelow_keeps | with_reducible apply tripOutRefresh_keeps
      | with_reducible apply Keeps.ite | extract_lets | dsimp +zetaDelta only

theorem lockRefresh_keeps (stall : Nat) (h : Keeps r s) : Keeps r (lockRefresh stall s) := by
  unfold lockRefresh
  repeat'
    first
      | intro q | with_reducible assumption | with_reducible apply hwb_keeps | with_reducible apply dropEnables_keeps
      | with_reducible apply Keeps.ite | with_reducible apply foldl_keeps | with_reducible apply foldl_fst_keeps | extract_lets
      | dsimp +zetaDelta only

theorem tripRaw_keeps (stall : Nat) (code : Nat) (detail : Nat) (stlCause : Nat) (h : Keeps r s) : Keeps r (tripRaw stall code
    detail stlCause s) := by
  unfold tripRaw
  repeat'
    first
      | intro q | with_reducible assumption | with_reducible apply setV_keeps | with_reducible apply inc_keeps
      | with_reducible apply hwb_keeps | with_reducible apply withdraw_keeps | with_reducible apply hwf_keeps
      | with_reducible apply tripOuts_keeps | with_reducible apply lockRefresh_keeps | with_reducible apply trigger_keeps
      | with_reducible apply evt_keeps | with_reducible apply Keeps.ite | extract_lets | dsimp +zetaDelta only
      | with_reducible apply Keeps.upd

theorem commonRaw_keeps (cause : Nat) (detail : Nat) (h : Keeps r s) : Keeps r (commonRaw cause detail s) := by
  unfold commonRaw
  repeat'
    first
      | intro q | with_reducible assumption | with_reducible apply setV_keeps | with_reducible apply inc_keeps
      | with_reducible apply hwf_keeps | with_reducible apply hwb_keeps | with_reducible apply freeDrop_keeps
      | with_reducible apply eachBelow_keeps | with_reducible apply tripRaw_keeps | with_reducible apply evt_keeps
      | with_reducible apply tripOuts_keeps | with_reducible apply Keeps.ite | extract_lets | dsimp +zetaDelta only
      | with_reducible apply Keeps.upd

theorem drvFaultSum_keeps (o : Nat) (h : Keeps r s) : Keeps r (drvFaultSum o s) := by
  unfold drvFaultSum
  repeat'
    first
      | intro q | with_reducible assumption | with_reducible apply hwb_keeps | with_reducible apply Keeps.ite | extract_lets
      | dsimp +zetaDelta only

theorem giveFree_keeps (o : Nat) (h : Keeps r s) : Keeps r (giveFree o s) := by
  unfold giveFree
  repeat'
    first
      | intro q | with_reducible assumption | with_reducible apply setEnables_keeps | with_reducible apply Keeps.ite
      | extract_lets | dsimp +zetaDelta only

theorem commonWith_keeps {p : Submission → State → State} (hp : ∀ x t, Keeps r t → Keeps r (p x t)) (c d : Nat) (h : Keeps r s) :
    Keeps r (commonWith p c d s) := by
  unfold commonWith
  exact each_keeps _ (fun _ _ q => hp _ _ (hwf_keeps _ _ _ _ q)) (faultMove_keeps _ _ _ _ _ _ (hp _ _ (commonRaw_keeps _ _ h)))

theorem storePart_keeps (t' : Stamp) (x : Submission) (i : Nat) (reserve : Bool) (h : Keeps r s) : Keeps r (storePart t' x i
    reserve s) := by
  unfold storePart
  repeat'
    first
      | intro q | with_reducible assumption | with_reducible apply hw_keeps | with_reducible apply addV_keeps
      | with_reducible apply setV_keeps | with_reducible apply hwf_keeps | with_reducible apply hwb_keeps
      | with_reducible apply evt_keeps | with_reducible apply Keeps.ite | extract_lets | dsimp +zetaDelta only
      | with_reducible apply Keeps.upd

theorem storeEntry_keeps (t' : Stamp) (x : Submission) (reserve : Bool) (h : Keeps r s) : Keeps r (storeEntry t' x reserve s) :=
    by
  unfold storeEntry
  repeat'
    first
      | intro q | with_reducible assumption | with_reducible apply storePart_keeps | with_reducible apply Keeps.ite
      | with_reducible apply foldl_keeps | with_reducible apply foldl_fst_keeps | extract_lets | dsimp +zetaDelta only

theorem suppress_keeps (t' : Stamp) (h : Keeps r s) : Keeps r (suppress t' s) := by
  unfold suppress
  repeat'
    first
      | intro q | with_reducible assumption | with_reducible apply inc_keeps | with_reducible apply setV_keeps
      | with_reducible apply addV_keeps | with_reducible apply Keeps.ite | extract_lets | dsimp +zetaDelta only

theorem append_keeps (t' : Stamp) (x : Submission) (h : Keeps r s) : Keeps r (append t' x s) := by
  unfold append
  repeat'
    first
      | intro q | with_reducible assumption | with_reducible apply storeEntry_keeps | with_reducible apply suppress_keeps
      | with_reducible apply Keeps.ite | extract_lets | dsimp +zetaDelta only | with_reducible apply Keeps.upd

theorem appendOwn_keeps (x : Submission) (h : Keeps r s) : Keeps r (appendOwn x s) := by
  unfold appendOwn
  repeat'
    first
      | intro q | with_reducible assumption | with_reducible apply append_keeps | with_reducible apply Keeps.ite | extract_lets
      | dsimp +zetaDelta only

theorem notifyCheck_keeps (h : Keeps r s) : Keeps r (notifyCheck s) := by
  unfold notifyCheck
  repeat'
    first
      | intro q | with_reducible assumption | with_reducible apply setV_keeps | with_reducible apply evt_keeps
      | with_reducible apply Keeps.ite | extract_lets | dsimp +zetaDelta only

theorem haltSessions_keeps (h : Keeps r s) : Keeps r (haltSessions s) := by
  unfold haltSessions
  repeat'
    first
      | intro q | with_reducible assumption | with_reducible apply eachBelow_keeps | with_reducible apply trigger_keeps
      | with_reducible apply Keeps.ite | extract_lets | dsimp +zetaDelta only

theorem spaceState_keeps (i : Nat) (h : Keeps r s) : Keeps r (spaceState i s) := by
  unfold spaceState
  repeat'
    first
      | intro q | with_reducible assumption | with_reducible apply evt_keeps | with_reducible apply hwb_keeps
      | with_reducible apply appendOwn_keeps | with_reducible apply faultMove_keeps | with_reducible apply haltSessions_keeps
      | with_reducible apply commonWith_keeps | with_reducible apply setV_keeps | with_reducible apply Keeps.ite | extract_lets
      | dsimp +zetaDelta only

theorem spaceCheck_keeps (h : Keeps r s) : Keeps r (spaceCheck s) := by
  unfold spaceCheck
  repeat'
    first
      | intro q | with_reducible assumption | with_reducible apply hwb_keeps | with_reducible apply spaceState_keeps
      | with_reducible apply Keeps.ite | extract_lets | dsimp +zetaDelta only

theorem submitAs_keeps (t' : Stamp) (x : Submission) (h : Keeps r s) : Keeps r (submitAs t' x s) := by
  unfold submitAs
  repeat'
    first
      | intro q | with_reducible assumption | with_reducible apply notifyCheck_keeps | with_reducible apply spaceCheck_keeps
      | with_reducible apply append_keeps | with_reducible apply Keeps.ite | extract_lets | dsimp +zetaDelta only

theorem submitAt_keeps (c : Nat) (x : Submission) (h : Keeps r s) : Keeps r (submitAt c x s) := by
  unfold submitAt
  repeat'
    first
      | intro q | with_reducible assumption | with_reducible apply submitAs_keeps | with_reducible apply Keeps.ite
      | extract_lets | dsimp +zetaDelta only

theorem submit_keeps (x : Submission) (h : Keeps r s) : Keeps r (submit x s) := by
  unfold submit
  repeat'
    first
      | intro q | with_reducible assumption | with_reducible apply submitAt_keeps | with_reducible apply Keeps.ite
      | extract_lets | dsimp +zetaDelta only

theorem fault_keeps (code : Nat) (inst : Nat) (scope : Nat) (stalls : Nat) (entry : Bool) (h : Keeps r s) : Keeps r (fault code
    inst scope stalls entry s) := by
  unfold fault
  repeat'
    first
      | intro q | with_reducible assumption | with_reducible apply submit_keeps | with_reducible apply faultMove_keeps
      | with_reducible apply Keeps.ite | extract_lets | dsimp +zetaDelta only

theorem proofRec_keeps (stall : Nat) (res : Nat) (h : Keeps r s) : Keeps r (proofRec stall res s) := by
  unfold proofRec
  repeat'
    first
      | intro q | with_reducible assumption | with_reducible apply submit_keeps | with_reducible apply hwf_keeps
      | with_reducible apply Keeps.ite | extract_lets | dsimp +zetaDelta only

theorem commonEnter_keeps (cause : Nat) (detail : Nat) (h : Keeps r s) : Keeps r (commonEnter cause detail s) := by
  unfold commonEnter
  repeat'
    first
      | intro q | with_reducible assumption | with_reducible apply commonWith_keeps | with_reducible apply submit_keeps
      | with_reducible apply Keeps.ite | extract_lets | dsimp +zetaDelta only

theorem commonOnce_keeps (cause : Nat) (detail : Nat) (h : Keeps r s) : Keeps r (commonOnce cause detail s) := by
  unfold commonOnce
  repeat'
    first
      | intro q | with_reducible assumption | with_reducible apply setV_keeps | with_reducible apply commonEnter_keeps
      | with_reducible apply Keeps.ite | extract_lets | dsimp +zetaDelta only

theorem tripAs_keeps (stall : Nat) (code : Nat) (detail : Nat) (stlCause : Nat) (h : Keeps r s) : Keeps r (tripAs stall code
    detail stlCause s) := by
  unfold tripAs
  repeat'
    first
      | intro q | with_reducible assumption | with_reducible apply setV_keeps | with_reducible apply tripRaw_keeps
      | with_reducible apply submit_keeps | with_reducible apply faultMove_keeps | with_reducible apply hwf_keeps
      | with_reducible apply proofRec_keeps | with_reducible apply Keeps.ite | extract_lets | dsimp +zetaDelta only

theorem trip_keeps (stall : Nat) (code : Nat) (detail : Nat) (h : Keeps r s) : Keeps r (trip stall code detail s) := by
  unfold trip
  repeat'
    first
      | intro q | with_reducible assumption | with_reducible apply tripAs_keeps | with_reducible apply Keeps.ite | extract_lets
      | dsimp +zetaDelta only

theorem tripMask_keeps (mask : Nat) (code : Nat) (detail : Nat) (h : Keeps r s) : Keeps r (tripMask mask code detail s) := by
  unfold tripMask
  repeat'
    first
      | intro q | with_reducible assumption | with_reducible apply eachBelow_keeps | with_reducible apply trip_keeps
      | with_reducible apply Keeps.ite | extract_lets | dsimp +zetaDelta only

theorem proofAbort_keeps (stall : Nat) (h : Keeps r s) : Keeps r (proofAbort stall s) := by
  unfold proofAbort
  repeat'
    first
      | intro q | with_reducible assumption | with_reducible apply proofRec_keeps | with_reducible apply withdraw_keeps
      | with_reducible apply hwb_keeps | with_reducible apply setV_keeps | with_reducible apply Keeps.ite | extract_lets
      | dsimp +zetaDelta only

theorem nowCapture_keeps (m : Master) (dt : Nat) (h : Keeps r s) : Keeps r (nowCapture m dt s) := by
  unfold nowCapture
  repeat'
    first
      | intro q | with_reducible assumption | with_reducible apply wrB_keeps | with_reducible apply setV_keeps
      | with_reducible apply Keeps.ite | extract_lets | dsimp +zetaDelta only

theorem restartValid_keeps (h : Keeps r s) : Keeps r (restartValid s) := by
  unfold restartValid
  repeat'
    first
      | intro q | with_reducible assumption | with_reducible apply setV_keeps | with_reducible apply Keeps.ite | extract_lets
      | dsimp +zetaDelta only

theorem ptpPortUp_keeps (port : Nat) (h : Keeps r s) : Keeps r (ptpPortUp port s) := by
  unfold ptpPortUp
  repeat'
    first
      | intro q | with_reducible assumption | with_reducible apply setV_keeps | with_reducible apply Keeps.ite | extract_lets
      | dsimp +zetaDelta only

theorem ptpRole_keeps (st : Nat) (port : Nat) (steps : Nat) (gm : Nat) (h : Keeps r s) : Keeps r (ptpRole st port steps gm s) :=
    by
  unfold ptpRole
  repeat'
    first
      | intro q | with_reducible assumption | with_reducible apply hwf_keeps | with_reducible apply hw_keeps
      | with_reducible apply evt_keeps | with_reducible apply Keeps.ite | extract_lets | dsimp +zetaDelta only

theorem masterLost_keeps (h : Keeps r s) : Keeps r (masterLost s) := by
  unfold masterLost
  repeat'
    first
      | intro q | with_reducible assumption | with_reducible apply setV_keeps | with_reducible apply ptpRole_keeps
      | with_reducible apply Keeps.ite | extract_lets | dsimp +zetaDelta only

theorem setClock_keeps (st : Nat) (src : Nat) (cause : Nat) (h : Keeps r s) : Keeps r (setClock st src cause s) := by
  unfold setClock
  repeat'
    first
      | intro q | with_reducible assumption | with_reducible apply hwb_keeps | with_reducible apply hwf_keeps
      | with_reducible apply evt_keeps | with_reducible apply setV_keeps | with_reducible apply submit_keeps
      | with_reducible apply Keeps.ite | extract_lets | dsimp +zetaDelta only

theorem later_keeps (x : ClockChange) (h : Keeps r s) : Keeps r (later x s) := by
  unfold later
  repeat'
    first
      | intro q | with_reducible assumption | with_reducible apply Keeps.ite | extract_lets | dsimp +zetaDelta only
      | with_reducible apply Keeps.upd

theorem holdover_keeps (cause : Nat) (h : Keeps r s) : Keeps r (holdover cause s) := by
  unfold holdover
  repeat'
    first
      | intro q | with_reducible assumption | with_reducible apply restartValid_keeps | with_reducible apply setClock_keeps
      | with_reducible apply setV_keeps | with_reducible apply later_keeps | with_reducible apply Keeps.ite | extract_lets
      | dsimp +zetaDelta only

theorem announceTimeout_keeps (h : Keeps r s) : Keeps r (announceTimeout s) := by
  unfold announceTimeout
  repeat'
    first
      | intro q | with_reducible assumption | with_reducible apply masterLost_keeps | with_reducible apply evt_keeps
      | with_reducible apply inc_keeps | with_reducible apply holdover_keeps | with_reducible apply Keeps.ite | extract_lets
      | dsimp +zetaDelta only | with_reducible apply Keeps.upd

theorem ppsCount_keeps (c : Nat) (h : Keeps r s) : Keeps r (ppsCount c s) := by
  unfold ppsCount
  repeat'
    first
      | intro q | with_reducible assumption | with_reducible apply setV_keeps | with_reducible apply inc_keeps
      | with_reducible apply evt_keeps | with_reducible apply holdover_keeps | with_reducible apply Keeps.ite | extract_lets
      | dsimp +zetaDelta only

theorem gridStart_keeps (h : Keeps r s) : Keeps r (gridStart s) := by
  unfold gridStart
  repeat'
    first
      | intro q | with_reducible assumption | with_reducible apply hwb_keeps | with_reducible apply eachBelow_keeps
      | with_reducible apply drawn_keeps | with_reducible apply setV_keeps | with_reducible apply Keeps.ite | extract_lets
      | dsimp +zetaDelta only

theorem ptpSend_keeps (x : PtpOut) (h : Keeps r s) : Keeps r (ptpSend x s) := by
  unfold ptpSend
  repeat'
    first
      | intro q | with_reducible assumption | with_reducible apply Keeps.ite | extract_lets | dsimp +zetaDelta only
      | with_reducible apply Keeps.upd

theorem announceTransmit_keeps (port : Nat) (h : Keeps r s) : Keeps r (announceTransmit port s) := by
  unfold announceTransmit
  repeat'
    first
      | intro q | with_reducible assumption | with_reducible apply ptpSend_keeps | with_reducible apply setV_keeps
      | with_reducible apply addV_keeps | with_reducible apply Keeps.ite | extract_lets | dsimp +zetaDelta only

theorem ppsPulse_keeps (dt : Nat) (high : Bool) (h : Keeps r s) : Keeps r (ppsPulse dt high s) := by
  unfold ppsPulse
  repeat'
    first
      | intro q | with_reducible assumption | with_reducible apply setV_keeps | with_reducible apply Keeps.ite | extract_lets
      | dsimp +zetaDelta only

theorem timPowerOn_keeps (rtc : Option Nat) (h : Keeps r s) : Keeps r (timPowerOn rtc s) := by
  unfold timPowerOn
  repeat'
    first
      | intro q | with_reducible assumption | with_reducible apply hwb_keeps | with_reducible apply hw_keeps
      | with_reducible apply gridStart_keeps | with_reducible apply restartValid_keeps | with_reducible apply setClock_keeps
      | with_reducible apply setOffset_keeps | with_reducible apply Keeps.ite | split | extract_lets | dsimp +zetaDelta only

theorem lockUpdate_keeps (e : Nat) (h : Keeps r s) : Keeps r (lockUpdate e s) := by
  unfold lockUpdate
  repeat'
    first
      | intro q | with_reducible assumption | with_reducible apply addV_keeps | with_reducible apply setV_keeps
      | with_reducible apply setClock_keeps | with_reducible apply Keeps.ite | extract_lets | dsimp +zetaDelta only

theorem servoActs_keeps (off : Int) (h : Keeps r s) : Keeps r (servoActs off s) := by
  unfold servoActs
  repeat'
    first
      | intro q | with_reducible assumption | with_reducible apply setV_keeps | with_reducible apply later_keeps
      | with_reducible apply drawn_keeps | with_reducible apply Keeps.ite | extract_lets | dsimp +zetaDelta only

theorem servoUpdate_keeps (h : Keeps r s) : Keeps r (servoUpdate s) := by
  unfold servoUpdate
  repeat'
    first
      | intro q | with_reducible assumption | with_reducible apply setV_keeps | with_reducible apply setClock_keeps
      | with_reducible apply lockUpdate_keeps | with_reducible apply servoActs_keeps | with_reducible apply Keeps.ite
      | extract_lets | dsimp +zetaDelta only

theorem ptpPortDown_keeps (port : Nat) (h : Keeps r s) : Keeps r (ptpPortDown port s) := by
  unfold ptpPortDown
  repeat'
    first
      | intro q | with_reducible assumption | with_reducible apply setV_keeps | with_reducible apply masterLost_keeps
      | with_reducible apply holdover_keeps | with_reducible apply Keeps.ite | extract_lets | dsimp +zetaDelta only
      | with_reducible apply Keeps.upd

theorem gridMoved_keeps (d : Int) (c : Nat) (h : Keeps r s) : Keeps r (gridMoved d c s) := by
  unfold gridMoved
  repeat'
    first
      | intro q | with_reducible assumption | with_reducible apply addV_keeps | with_reducible apply hwb_keeps
      | with_reducible apply eachBelow_keeps | with_reducible apply setV_keeps | with_reducible apply Keeps.ite | extract_lets
      | dsimp +zetaDelta only

theorem ptpPortSet_keeps (h : Keeps r s) : Keeps r (ptpPortSet s) := by
  unfold ptpPortSet
  repeat'
    first
      | intro q | with_reducible assumption | with_reducible apply eachBelow_keeps | with_reducible apply hw_keeps
      | with_reducible apply ptpPortDown_keeps | with_reducible apply Keeps.ite | extract_lets | dsimp +zetaDelta only

theorem keepSet_keeps (c : Nat) (h : Keeps r s) : Keeps r (keepSet c s) := by
  unfold keepSet
  repeat'
    first
      | intro q | with_reducible assumption | with_reducible apply Keeps.ite | extract_lets | dsimp +zetaDelta only
      | with_reducible apply Keeps.upd

theorem setRates_keeps (base : Int) (slew : Int) (c : Nat) (h : Keeps r s) : Keeps r (setRates base slew c s) := by
  unfold setRates
  repeat'
    first
      | intro q | with_reducible assumption | with_reducible apply hw_keeps | with_reducible apply setOffset_keeps
      | with_reducible apply keepSet_keeps | with_reducible apply setV_keeps | with_reducible apply Keeps.ite | extract_lets
      | dsimp +zetaDelta only

theorem setBase_keeps (base : Int) (c : Nat) (h : Keeps r s) : Keeps r (setBase base c s) := by
  unfold setBase
  repeat'
    first
      | intro q | with_reducible assumption | with_reducible apply setRates_keeps | with_reducible apply Keeps.ite
      | extract_lets | dsimp +zetaDelta only

theorem slewStop_keeps (c : Nat) (h : Keeps r s) : Keeps r (slewStop c s) := by
  unfold slewStop
  repeat'
    first
      | intro q | with_reducible assumption | with_reducible apply hwb_keeps | with_reducible apply setRates_keeps
      | with_reducible apply setV_keeps | with_reducible apply gridMoved_keeps | with_reducible apply Keeps.ite | extract_lets
      | dsimp +zetaDelta only

theorem slewStart_keeps (term : Int) (p : Int) (c : Nat) (h : Keeps r s) : Keeps r (slewStart term p c s) := by
  unfold slewStart
  repeat'
    first
      | intro q | with_reducible assumption | with_reducible apply slewStop_keeps | with_reducible apply hwb_keeps
      | with_reducible apply setRates_keeps | with_reducible apply setV_keeps | with_reducible apply Keeps.ite | extract_lets
      | dsimp +zetaDelta only

theorem step_keeps (d : Int) (c : Nat) (servo : Bool) (h : Keeps r s) : Keeps r (step d c servo s) := by
  unfold step
  repeat'
    first
      | intro q | with_reducible assumption | with_reducible apply setOffset_keeps | with_reducible apply keepSet_keeps
      | with_reducible apply setV_keeps | with_reducible apply inc_keeps | with_reducible apply hwf_keeps
      | with_reducible apply hw_keeps | with_reducible apply evt_keeps | with_reducible apply gridMoved_keeps
      | with_reducible apply submitAt_keeps | with_reducible apply Keeps.ite | extract_lets | dsimp +zetaDelta only

theorem clockChange_keeps (k : Nat) (c : Nat) (x : ClockChange) (h : Keeps r s) : Keeps r (clockChange k c x s) := by
  unfold clockChange
  repeat'
    first
      | intro q | with_reducible assumption | with_reducible apply setBase_keeps | with_reducible apply slewStart_keeps
      | with_reducible apply step_keeps | with_reducible apply Keeps.ite | split | extract_lets | dsimp +zetaDelta only

theorem leapDue_keeps (h : Keeps r s) : Keeps r (leapDue s) := by
  unfold leapDue
  repeat'
    first
      | intro q | with_reducible assumption | with_reducible apply evt_keeps | with_reducible apply hwf_keeps
      | with_reducible apply Keeps.ite | extract_lets | dsimp +zetaDelta only | with_reducible apply Keeps.upd

theorem ppsInSet_keeps (old : Nat) (h : Keeps r s) : Keeps r (ppsInSet old s) := by
  unfold ppsInSet
  repeat'
    first
      | intro q | with_reducible assumption | with_reducible apply setV_keeps | with_reducible apply Keeps.ite | extract_lets
      | dsimp +zetaDelta only

theorem syncTransmit_keeps (port : Nat) (h : Keeps r s) : Keeps r (syncTransmit port s) := by
  unfold syncTransmit
  repeat'
    first
      | intro q | with_reducible assumption | with_reducible apply ptpSend_keeps | with_reducible apply setV_keeps
      | with_reducible apply addV_keeps | with_reducible apply Keeps.ite | extract_lets | dsimp +zetaDelta only

theorem timReset_keeps (h : Keeps r s) : Keeps r (timReset s) := by
  unfold timReset
  repeat'
    first
      | intro q | with_reducible assumption | with_reducible apply setV_keeps | with_reducible apply hw_keeps
      | with_reducible apply eachBelow_keeps | with_reducible apply holdover_keeps | with_reducible apply Keeps.ite
      | extract_lets | dsimp +zetaDelta only | with_reducible apply Keeps.upd

theorem slewFinish_keeps (h : Keeps r s) : Keeps r (slewFinish s) := by
  unfold slewFinish
  repeat'
    first
      | intro q | with_reducible assumption | with_reducible apply slewStop_keeps | with_reducible apply addV_keeps
      | with_reducible apply setOffset_keeps | with_reducible apply setV_keeps | with_reducible apply setRates_keeps
      | with_reducible apply Keeps.ite | extract_lets | dsimp +zetaDelta only

theorem clockDue_keeps (h : Keeps r s) : Keeps r (clockDue s) := by
  unfold clockDue
  repeat'
    first
      | intro q | with_reducible assumption | with_reducible apply slewFinish_keeps | with_reducible apply eachBelow_keeps
      | with_reducible apply each_keeps | with_reducible apply clockChange_keeps | with_reducible apply Keeps.ite | extract_lets
      | dsimp +zetaDelta only | with_reducible apply Keeps.upd

theorem delayRequest_keeps (port : Nat) (kind : Nat) (h : Keeps r s) : Keeps r (delayRequest port kind s) := by
  unfold delayRequest
  repeat'
    first
      | intro q | with_reducible assumption | with_reducible apply ptpSend_keeps | with_reducible apply addV_keeps
      | with_reducible apply setV_keeps | with_reducible apply Keeps.ite | extract_lets | dsimp +zetaDelta only

theorem announceEvaluation_keeps (h : Keeps r s) : Keeps r (announceEvaluation s) := by
  unfold announceEvaluation
  repeat'
    first
      | intro q | with_reducible assumption | with_reducible apply eachBelow_keeps | with_reducible apply delayRequest_keeps
      | with_reducible apply setV_keeps | with_reducible apply ptpRole_keeps | with_reducible apply Keeps.ite | split
      | extract_lets | dsimp +zetaDelta only | with_reducible apply Keeps.upd

theorem hostTime_keeps (cause : Nat) (h : Keeps r s) : Keeps r (hostTime cause s) := by
  unfold hostTime
  repeat'
    first
      | intro q | with_reducible assumption | with_reducible apply restartValid_keeps | with_reducible apply setClock_keeps
      | with_reducible apply Keeps.ite | extract_lets | dsimp +zetaDelta only

theorem stepBy_keeps (m : Master) (h : Keeps r s) : Keeps r (stepBy m s) := by
  unfold stepBy
  repeat'
    first
      | intro q | with_reducible assumption | with_reducible apply hostTime_keeps | with_reducible apply step_keeps
      | with_reducible apply Keeps.ite | extract_lets | dsimp +zetaDelta only

theorem leapSecond_keeps (h : Keeps r s) : Keeps r (leapSecond s) := by
  unfold leapSecond
  repeat'
    first
      | intro q | with_reducible assumption | with_reducible apply later_keeps | with_reducible apply Keeps.ite | extract_lets
      | dsimp +zetaDelta only

theorem setUtc_keeps (arg : Nat) (h : Keeps r s) : Keeps r (setUtc arg s) := by
  unfold setUtc
  repeat'
    first
      | intro q | with_reducible assumption | with_reducible apply hwf_keeps | with_reducible apply setV_keeps
      | with_reducible apply Keeps.ite | extract_lets | dsimp +zetaDelta only

theorem measured_keeps (src : Nat) (off : Int) (h : Keeps r s) : Keeps r (measured src off s) := by
  unfold measured
  repeat'
    first
      | intro q | with_reducible assumption | with_reducible apply setV_keeps | with_reducible apply hw_keeps
      | with_reducible apply Keeps.ite | extract_lets | dsimp +zetaDelta only

theorem syncMeasured_keeps (port : Nat) (d : Int) (h : Keeps r s) : Keeps r (syncMeasured port d s) := by
  unfold syncMeasured
  repeat'
    first
      | intro q | with_reducible assumption | with_reducible apply setV_keeps | with_reducible apply addV_keeps
      | with_reducible apply measured_keeps | with_reducible apply delayRequest_keeps | with_reducible apply Keeps.ite
      | extract_lets | dsimp +zetaDelta only

theorem linkDelay_keeps (port : Nat) (tx : Int) (rx : Int) (receipt : Int) (stamp : Int) (corr : Int) (h : Keeps r s) : Keeps r
    (linkDelay port tx rx receipt stamp corr s) := by
  unfold linkDelay
  repeat'
    first
      | intro q | with_reducible assumption | with_reducible apply setV_keeps | with_reducible apply hw_keeps
      | with_reducible apply Keeps.ite | extract_lets | dsimp +zetaDelta only

theorem ppsOutShow_keeps (h : Keeps r s) : Keeps r (ppsOutShow s) := by
  unfold ppsOutShow
  repeat'
    first
      | intro q | with_reducible assumption | with_reducible apply setV_keeps | with_reducible apply Keeps.ite | extract_lets
      | dsimp +zetaDelta only

theorem validExpiry_keeps (h : Keeps r s) : Keeps r (validExpiry s) := by
  unfold validExpiry
  repeat'
    first
      | intro q | with_reducible assumption | with_reducible apply setClock_keeps | with_reducible apply Keeps.ite
      | extract_lets | dsimp +zetaDelta only

theorem slewEnd_keeps (h : Keeps r s) : Keeps r (slewEnd s) := by
  unfold slewEnd
  repeat'
    first
      | intro q | with_reducible assumption | with_reducible apply setV_keeps | with_reducible apply Keeps.ite | extract_lets
      | dsimp +zetaDelta only

theorem timModeSet_keeps (old : Nat) (h : Keeps r s) : Keeps r (timModeSet old s) := by
  unfold timModeSet
  repeat'
    first
      | intro q | with_reducible assumption | with_reducible apply restartValid_keeps | with_reducible apply setClock_keeps
      | with_reducible apply slewStop_keeps | with_reducible apply setV_keeps | with_reducible apply Keeps.ite | extract_lets
      | dsimp +zetaDelta only

theorem stepTo_keeps (m : Master) (h : Keeps r s) : Keeps r (stepTo m s) := by
  unfold stepTo
  repeat'
    first
      | intro q | with_reducible assumption | with_reducible apply step_keeps | with_reducible apply restartValid_keeps
      | with_reducible apply setClock_keeps | with_reducible apply hostTime_keeps | with_reducible apply setV_keeps
      | with_reducible apply Keeps.ite | extract_lets | dsimp +zetaDelta only

theorem tcForward_keeps (ingress : Nat) (egress : Nat) (g : PtpMsg) (ns : Nat) (h : Keeps r s) : Keeps r (tcForward ingress
    egress g ns s) := by
  unfold tcForward
  repeat'
    first
      | intro q | with_reducible assumption | with_reducible apply setV_keeps | with_reducible apply inc_keeps
      | with_reducible apply addV_keeps | with_reducible apply Keeps.ite | extract_lets | dsimp +zetaDelta only
      | with_reducible apply Keeps.upd

theorem rtcWrite_keeps (h : Keeps r s) : Keeps r (rtcWrite s) := by
  unfold rtcWrite
  repeat'
    first
      | intro q | with_reducible assumption | with_reducible apply setV_keeps | with_reducible apply Keeps.ite | extract_lets
      | dsimp +zetaDelta only

theorem announceHeard_keeps (port : Nat) (g : PtpMsg) (h : Keeps r s) : Keeps r (announceHeard port g s) := by
  unfold announceHeard
  repeat'
    first
      | intro q | with_reducible assumption | with_reducible apply Keeps.ite | extract_lets | dsimp +zetaDelta only
      | with_reducible apply Keeps.upd

theorem ptpMessage_keeps (port : Nat) (g : PtpMsg) (h : Keeps r s) : Keeps r (ptpMessage port g s) := by
  unfold ptpMessage
  repeat'
    first
      | intro q | with_reducible assumption | with_reducible apply setV_keeps | with_reducible apply inc_keeps
      | with_reducible apply syncMeasured_keeps | with_reducible apply hw_keeps | with_reducible apply linkDelay_keeps
      | with_reducible apply ptpSend_keeps | with_reducible apply addV_keeps | with_reducible apply announceHeard_keeps
      | with_reducible apply Keeps.ite | split | extract_lets | dsimp +zetaDelta only

theorem setRate_keeps (m : Master) (h : Keeps r s) : Keeps r (setRate m s) := by
  unfold setRate
  repeat'
    first
      | intro q | with_reducible assumption | with_reducible apply hostTime_keeps | with_reducible apply setBase_keeps
      | with_reducible apply Keeps.ite | extract_lets | dsimp +zetaDelta only

theorem gridShow_keeps (h : Keeps r s) : Keeps r (gridShow s) := by
  unfold gridShow
  repeat'
    first
      | intro q | with_reducible assumption | with_reducible apply hwb_keeps | with_reducible apply Keeps.ite | extract_lets
      | dsimp +zetaDelta only

theorem ppsMissing_keeps (h : Keeps r s) : Keeps r (ppsMissing s) := by
  unfold ppsMissing
  repeat'
    first
      | intro q | with_reducible assumption | with_reducible apply ppsCount_keeps | with_reducible apply Keeps.ite
      | extract_lets | dsimp +zetaDelta only

theorem slewBy_keeps (m : Master) (arg : Nat) (h : Keeps r s) : Keeps r (slewBy m arg s) := by
  unfold slewBy
  repeat'
    first
      | intro q | with_reducible assumption | with_reducible apply hostTime_keeps | with_reducible apply slewStart_keeps
      | with_reducible apply Keeps.ite | extract_lets | dsimp +zetaDelta only

theorem timEffect_keeps (m : Master) (code : Nat) (arg : Nat) (h : Keeps r s) : Keeps r (timEffect m code arg s) := by
  unfold timEffect
  repeat'
    first
      | intro q | with_reducible assumption | with_reducible apply stepTo_keeps | with_reducible apply stepBy_keeps
      | with_reducible apply slewBy_keeps | with_reducible apply setRate_keeps | with_reducible apply setUtc_keeps
      | with_reducible apply Keeps.ite | split | extract_lets | dsimp +zetaDelta only

theorem ppsIn_keeps (dt : Nat) (falling : Bool) (h : Keeps r s) : Keeps r (ppsIn dt falling s) := by
  unfold ppsIn
  repeat'
    first
      | intro q | with_reducible assumption | with_reducible apply ppsCount_keeps | with_reducible apply setV_keeps
      | with_reducible apply inc_keeps | with_reducible apply hw_keeps | with_reducible apply later_keeps
      | with_reducible apply measured_keeps | with_reducible apply evt_keeps | with_reducible apply Keeps.ite | extract_lets
      | dsimp +zetaDelta only

theorem rateSave_keeps (h : Keeps r s) : Keeps r (rateSave s) := by
  unfold rateSave
  repeat'
    first
      | intro q | with_reducible assumption | with_reducible apply setV_keeps | with_reducible apply Keeps.ite | extract_lets
      | dsimp +zetaDelta only

theorem queDiscard_keeps (q : Nat) (k : Nat) (h : Keeps r s) : Keeps r (queDiscard q k s) := by
  unfold queDiscard
  repeat'
    first
      | intro q | with_reducible assumption | with_reducible apply inc_keeps | with_reducible apply Keeps.ite | extract_lets
      | dsimp +zetaDelta only

theorem setQueue_keeps (q : Nat) (x : Queue) (h : Keeps r s) : Keeps r (setQueue s q x) := by
  unfold setQueue
  repeat'
    first
      | intro q | with_reducible assumption | with_reducible apply Keeps.ite | extract_lets | dsimp +zetaDelta only
      | with_reducible apply Keeps.upd

theorem queMarks_keeps (q : Nat) (old : Nat) (new : Nat) (h : Keeps r s) : Keeps r (queMarks q old new s) := by
  unfold queMarks
  repeat'
    first
      | intro q | with_reducible assumption | with_reducible apply evt_keeps | with_reducible apply hwb_keeps
      | with_reducible apply inc_keeps | with_reducible apply Keeps.ite | extract_lets | dsimp +zetaDelta only

theorem queLevels_keeps (q : Nat) (old : Nat) (h : Keeps r s) : Keeps r (queLevels q old s) := by
  unfold queLevels
  repeat'
    first
      | intro q | with_reducible assumption | with_reducible apply hwb_keeps | with_reducible apply hwf_keeps
      | with_reducible apply queMarks_keeps | with_reducible apply Keeps.ite | extract_lets | dsimp +zetaDelta only

theorem queOverflow_keeps (q : Nat) (k : Nat) (h : Keeps r s) : Keeps r (queOverflow q k s) := by
  unfold queOverflow
  repeat'
    first
      | intro q | with_reducible assumption | with_reducible apply setQueue_keeps | with_reducible apply evt_keeps
      | with_reducible apply inc_keeps | with_reducible apply queDiscard_keeps | with_reducible apply Keeps.ite | extract_lets
      | dsimp +zetaDelta only

theorem queStore_keeps (q : Nat) (bs : List Byte) (eoi : Bool) (h : Keeps r s) : Keeps r (queStore q bs eoi s) := by
  unfold queStore
  repeat'
    first
      | intro q | with_reducible assumption | with_reducible apply queLevels_keeps | with_reducible apply queOverflow_keeps
      | with_reducible apply setQueue_keeps | with_reducible apply Keeps.ite | extract_lets | dsimp +zetaDelta only

theorem queByte_keeps (q : Nat) (b : Byte) (h : Keeps r s) : Keeps r (queByte q b s) := by
  unfold queByte
  repeat'
    first
      | intro q | with_reducible assumption | with_reducible apply queDiscard_keeps | with_reducible apply setQueue_keeps
      | with_reducible apply queStore_keeps | with_reducible apply Keeps.ite | extract_lets | dsimp +zetaDelta only

theorem queIrq_keeps (q : Nat) (h : Keeps r s) : Keeps r (queIrq q s) := by
  unfold queIrq
  repeat'
    first
      | intro q | with_reducible assumption | with_reducible apply sendMsi_keeps | with_reducible apply setQueue_keeps
      | with_reducible apply Keeps.ite | extract_lets | dsimp +zetaDelta only

theorem queSync_keeps (q : Nat) (old : Nat) (h : Keeps r s) : Keeps r (queSync q old s) := by
  unfold queSync
  repeat'
    first
      | intro q | with_reducible assumption | with_reducible apply queIrq_keeps | with_reducible apply queLevels_keeps
      | with_reducible apply Keeps.ite | extract_lets | dsimp +zetaDelta only

theorem queTake_keeps (q : Nat) (k : Nat) (h : Keeps r s) : Keeps r (queTake q k s) := by
  unfold queTake
  repeat'
    first
      | intro q | with_reducible assumption | with_reducible apply setQueue_keeps | with_reducible apply queSync_keeps
      | with_reducible apply inc_keeps | with_reducible apply Keeps.ite | extract_lets | dsimp +zetaDelta only

theorem queFlush_keeps (q : Nat) (off : Bool) (h : Keeps r s) : Keeps r (queFlush q off s) := by
  unfold queFlush
  repeat'
    first
      | intro q | with_reducible assumption | with_reducible apply setQueue_keeps | with_reducible apply evt_keeps
      | with_reducible apply inc_keeps | with_reducible apply queDiscard_keeps | with_reducible apply queSync_keeps
      | with_reducible apply Keeps.ite | extract_lets | dsimp +zetaDelta only

theorem queMem_keeps (h : Keeps r s) : Keeps r (queMem s) := by
  unfold queMem
  repeat'
    first
      | intro q | with_reducible assumption | with_reducible apply hwf_keeps | with_reducible apply Keeps.ite | extract_lets
      | dsimp +zetaDelta only

theorem popNow_keeps (q : Nat) (units : Nat) (h : Keeps r s) : Keeps r (popNow q units s) := by
  unfold popNow
  repeat'
    first
      | intro q | with_reducible assumption | with_reducible apply queTake_keeps | with_reducible apply Keeps.ite | extract_lets
      | dsimp +zetaDelta only | with_reducible apply Keeps.upd

theorem popStallEnd_keeps (q : Nat) (h : Keeps r s) : Keeps r (popStallEnd q s) := by
  unfold popStallEnd
  repeat'
    first
      | intro q | with_reducible assumption | with_reducible apply popNow_keeps | with_reducible apply setQueue_keeps
      | with_reducible apply Keeps.ite | split | extract_lets | dsimp +zetaDelta only

theorem irqAge_keeps (q : Nat) (h : Keeps r s) : Keeps r (irqAge q s) := by
  unfold irqAge
  repeat'
    first
      | intro q | with_reducible assumption | with_reducible apply sendMsi_keeps | with_reducible apply setQueue_keeps
      | with_reducible apply Keeps.ite | split | extract_lets | dsimp +zetaDelta only

theorem queCfgSet_keeps (q : Nat) (old : Nat) (h : Keeps r s) : Keeps r (queCfgSet q old s) := by
  unfold queCfgSet
  repeat'
    first
      | intro q | with_reducible assumption | with_reducible apply queFlush_keeps | with_reducible apply hwf_keeps
      | with_reducible apply setQueue_keeps | with_reducible apply queMem_keeps | with_reducible apply queSync_keeps
      | with_reducible apply Keeps.ite | extract_lets | dsimp +zetaDelta only

theorem queWmSet_keeps (q : Nat) (old : Nat) (h : Keeps r s) : Keeps r (queWmSet q old s) := by
  unfold queWmSet
  repeat'
    first
      | intro q | with_reducible assumption | with_reducible apply hwb_keeps | with_reducible apply Keeps.ite | extract_lets
      | dsimp +zetaDelta only

theorem queLinkLoss_keeps (q : Nat) (h : Keeps r s) : Keeps r (queLinkLoss q s) := by
  unfold queLinkLoss
  repeat'
    first
      | intro q | with_reducible assumption | with_reducible apply queOverflow_keeps | with_reducible apply setQueue_keeps
      | with_reducible apply queSync_keeps | with_reducible apply evt_keeps | with_reducible apply inc_keeps
      | with_reducible apply Keeps.ite | extract_lets | dsimp +zetaDelta only

theorem queWrong_keeps (q : Nat) (h : Keeps r s) : Keeps r (queWrong q s) := by
  unfold queWrong
  repeat'
    first
      | intro q | with_reducible assumption | with_reducible apply inc_keeps | with_reducible apply Keeps.ite | extract_lets
      | dsimp +zetaDelta only

theorem quePop_keeps (q : Nat) (units : Nat) (h : Keeps r s) : Keeps r (quePop q units s) := by
  unfold quePop
  repeat'
    first
      | intro q | with_reducible assumption | with_reducible apply queWrong_keeps | with_reducible apply setQueue_keeps
      | with_reducible apply popNow_keeps | with_reducible apply Keeps.ite | extract_lets | dsimp +zetaDelta only
      | with_reducible apply Keeps.upd

theorem quePowerOn_keeps (h : Keeps r s) : Keeps r (quePowerOn s) := by
  unfold quePowerOn
  repeat'
    first
      | intro q | with_reducible assumption | with_reducible apply eachBelow_keeps | with_reducible apply hwb_keeps
      | with_reducible apply queSync_keeps | with_reducible apply queMem_keeps | with_reducible apply Keeps.ite | extract_lets
      | dsimp +zetaDelta only

theorem queMaxReset_keeps (q : Nat) (h : Keeps r s) : Keeps r (queMaxReset q s) := by
  unfold queMaxReset
  repeat'
    first
      | intro q | with_reducible assumption | with_reducible apply hwf_keeps | with_reducible apply Keeps.ite | extract_lets
      | dsimp +zetaDelta only

theorem queEnd_keeps (q : Nat) (h : Keeps r s) : Keeps r (queEnd q s) := by
  unfold queEnd
  repeat'
    first
      | intro q | with_reducible assumption | with_reducible apply setQueue_keeps | with_reducible apply evt_keeps
      | with_reducible apply inc_keeps | with_reducible apply queStore_keeps | with_reducible apply Keeps.ite | extract_lets
      | dsimp +zetaDelta only

theorem quePlace_keeps (q : Nat) (bs : List Byte) (h : Keeps r s) : Keeps r (quePlace q bs s) := by
  unfold quePlace
  repeat'
    first
      | intro q | with_reducible assumption | with_reducible apply setQueue_keeps | with_reducible apply queSync_keeps
      | with_reducible apply inc_keeps | with_reducible apply Keeps.ite | extract_lets | dsimp +zetaDelta only

theorem quePush_keeps (q : Nat) (bs : List Byte) (last : Bool) (h : Keeps r s) : Keeps r (quePush q bs last s) := by
  unfold quePush
  repeat'
    first
      | intro q | with_reducible assumption | with_reducible apply queWrong_keeps | with_reducible apply queByte_keeps
      | with_reducible apply setQueue_keeps | with_reducible apply queEnd_keeps | with_reducible apply queSync_keeps
      | with_reducible apply Keeps.ite | with_reducible apply foldl_keeps | with_reducible apply foldl_fst_keeps | extract_lets
      | dsimp +zetaDelta only

theorem winStatRefresh_keeps (h : Keeps r s) : Keeps r (winStatRefresh s) := by
  unfold winStatRefresh
  repeat'
    first
      | intro q | with_reducible assumption | with_reducible apply hw_keeps | with_reducible apply Keeps.ite | extract_lets
      | dsimp +zetaDelta only

theorem inBits_keeps (i : Nat) (f : Nat → Nat) (h : Keeps r s) : Keeps r (inBits i f s) := by
  unfold inBits
  repeat'
    first
      | intro q | with_reducible assumption | with_reducible apply wr_keeps | with_reducible apply wrf_keeps
      | with_reducible apply evt_keeps | with_reducible apply Keeps.ite | extract_lets | dsimp +zetaDelta only

theorem inBit_keeps (i : Nat) (b : Nat) (on : Bool) (h : Keeps r s) : Keeps r (inBit i b on s) := by
  unfold inBit
  repeat'
    first
      | intro q | with_reducible assumption | with_reducible apply inBits_keeps | with_reducible apply Keeps.ite | extract_lets
      | dsimp +zetaDelta only

theorem inQualify_keeps (i : Nat) (h : Keeps r s) : Keeps r (inQualify i s) := by
  unfold inQualify
  repeat'
    first
      | intro q | with_reducible assumption | with_reducible apply setV_keeps | with_reducible apply inBit_keeps
      | with_reducible apply Keeps.ite | extract_lets | dsimp +zetaDelta only

theorem inClearFault_keeps (i : Nat) (b : Nat) (h : Keeps r s) : Keeps r (inClearFault i b s) := by
  unfold inClearFault
  repeat'
    first
      | intro q | with_reducible assumption | with_reducible apply winStatRefresh_keeps | with_reducible apply inQualify_keeps
      | with_reducible apply inBit_keeps | with_reducible apply Keeps.ite | extract_lets | dsimp +zetaDelta only

theorem mclkClear_keeps (k : Nat) (h : Keeps r s) : Keeps r (mclkClear k s) := by
  unfold mclkClear
  repeat'
    first
      | intro q | with_reducible assumption | with_reducible apply winStatRefresh_keeps | with_reducible apply each_keeps
      | with_reducible apply inClearFault_keeps | with_reducible apply fault_keeps | with_reducible apply hwb_keeps
      | with_reducible apply Keeps.ite | extract_lets | dsimp +zetaDelta only

theorem inFault_keeps (code : Nat) (i : Nat) (entry : Bool) (h : Keeps r s) : Keeps r (inFault code i entry s) := by
  unfold inFault
  repeat'
    first
      | intro q | with_reducible assumption | with_reducible apply fault_keeps | with_reducible apply Keeps.ite | extract_lets
      | dsimp +zetaDelta only

theorem inScope_keeps (i : Nat) (h : Keeps r s) : Keeps r (inScope i s) := by
  unfold inScope
  repeat'
    first
      | intro q | with_reducible assumption | with_reducible apply each_keeps | with_reducible apply trigger_keeps
      | with_reducible apply Keeps.ite | extract_lets | dsimp +zetaDelta only

theorem inLeaves_keeps (i : Nat) (h : Keeps r s) : Keeps r (inLeaves i s) := by
  unfold inLeaves
  repeat'
    first
      | intro q | with_reducible assumption | with_reducible apply inScope_keeps | with_reducible apply winStatRefresh_keeps
      | with_reducible apply inFault_keeps | with_reducible apply Keeps.ite | extract_lets | dsimp +zetaDelta only

theorem inLatchOut_keeps (i : Nat) (h : Keeps r s) : Keeps r (inLatchOut i s) := by
  unfold inLatchOut
  repeat'
    first
      | intro q | with_reducible assumption | with_reducible apply inLeaves_keeps | with_reducible apply evt_keeps
      | with_reducible apply inBit_keeps | with_reducible apply setV_keeps | with_reducible apply Keeps.ite | extract_lets
      | dsimp +zetaDelta only

theorem inEnterFault_keeps (i : Nat) (b : Nat) (h : Keeps r s) : Keeps r (inEnterFault i b s) := by
  unfold inEnterFault
  repeat'
    first
      | intro q | with_reducible assumption | with_reducible apply inBits_keeps | with_reducible apply evt_keeps
      | with_reducible apply wrf_keeps | with_reducible apply inFault_keeps | with_reducible apply inLatchOut_keeps
      | with_reducible apply inScope_keeps | with_reducible apply winStatRefresh_keeps | with_reducible apply Keeps.ite
      | extract_lets | dsimp +zetaDelta only | with_reducible apply Keeps.upd

theorem inAnew_keeps (i : Nat) (h : Keeps r s) : Keeps r (inAnew i s) := by
  unfold inAnew
  refine map_mps_keeps (fun x => ?_) (setV_keeps _ _ _ (setV_keeps _ _ _ h))
  split <;> rfl

theorem loadsRefresh_keeps (h : Keeps r s) : Keeps r (loadsRefresh s) := by
  unfold loadsRefresh
  repeat'
    first
      | intro q | with_reducible assumption | with_reducible apply eachBelow_keeps | with_reducible apply hwf_keeps
      | with_reducible apply Keeps.ite | extract_lets | dsimp +zetaDelta only

theorem inQualified_keeps (i : Nat) (h : Keeps r s) : Keeps r (inQualified i s) := by
  unfold inQualified
  repeat'
    first
      | intro q | with_reducible assumption | with_reducible apply inFault_keeps | with_reducible apply setV_keeps
      | with_reducible apply inBit_keeps | with_reducible apply winStatRefresh_keeps | with_reducible apply Keeps.ite
      | extract_lets | dsimp +zetaDelta only

theorem inRestart_keeps (i : Nat) (h : Keeps r s) : Keeps r (inRestart i s) := by
  unfold inRestart
  repeat'
    first
      | intro q | with_reducible assumption | with_reducible apply inQualified_keeps | with_reducible apply inBits_keeps
      | with_reducible apply setV_keeps | with_reducible apply inClearFault_keeps | with_reducible apply wrf_keeps
      | with_reducible apply inEnterFault_keeps | with_reducible apply Keeps.ite | extract_lets | dsimp +zetaDelta only

theorem mapAnew_keeps (m : Nat) (h : Keeps r s) : Keeps r (mapAnew m s) := by
  unfold mapAnew
  refine map_mps_keeps (fun x => ?_) (setV_keeps _ _ _ h)
  split <;> rfl

theorem winCfgSet_keeps (a' : Nat) (old : Nat) (h : Keeps r s) : Keeps r (winCfgSet a' old s) := by
  unfold winCfgSet
  repeat'
    first
      | intro q | with_reducible assumption | with_reducible apply fault_keeps | with_reducible apply hwb_keeps
      | with_reducible apply each_keeps | with_reducible apply inAnew_keeps | with_reducible apply loadsRefresh_keeps
      | with_reducible apply winStatRefresh_keeps | with_reducible apply inRestart_keeps | with_reducible apply wrf_keeps
      | with_reducible apply mapAnew_keeps | with_reducible apply setV_keeps | with_reducible apply Keeps.ite | split
      | extract_lets | dsimp +zetaDelta only

theorem qualificationComplete_keeps (i : Nat) (h : Keeps r s) : Keeps r (qualificationComplete i s) := by
  unfold qualificationComplete
  repeat'
    first
      | intro q | with_reducible assumption | with_reducible apply inQualified_keeps | with_reducible apply Keeps.ite
      | extract_lets | dsimp +zetaDelta only

theorem manchesterLock_keeps (i : Nat) (dly : Nat) (h : Keeps r s) : Keeps r (manchesterLock i dly s) := by
  unfold manchesterLock
  repeat'
    first
      | intro q | with_reducible assumption | with_reducible apply inClearFault_keeps | with_reducible apply setV_keeps
      | with_reducible apply wrf_keeps | with_reducible apply Keeps.ite | extract_lets | dsimp +zetaDelta only

theorem stuckCleared_keeps (i : Nat) (h : Keeps r s) : Keeps r (stuckCleared i s) := by
  unfold stuckCleared
  repeat'
    first
      | intro q | with_reducible assumption | with_reducible apply inClearFault_keeps | with_reducible apply Keeps.ite
      | extract_lets | dsimp +zetaDelta only

theorem inputStuck_keeps (i : Nat) (run : Nat) (h : Keeps r s) : Keeps r (inputStuck i run s) := by
  unfold inputStuck
  repeat'
    first
      | intro q | with_reducible assumption | with_reducible apply inEnterFault_keeps | with_reducible apply Keeps.ite
      | extract_lets | dsimp +zetaDelta only

theorem inputReadmit_keeps (i : Nat) (h : Keeps r s) : Keeps r (inputReadmit i s) := by
  unfold inputReadmit
  repeat'
    first
      | intro q | with_reducible assumption | with_reducible apply evt_keeps | with_reducible apply inBits_keeps
      | with_reducible apply inLatchOut_keeps | with_reducible apply inQualified_keeps
      | with_reducible apply winStatRefresh_keeps | with_reducible apply setV_keeps | with_reducible apply inQualify_keeps
      | with_reducible apply Keeps.ite | extract_lets | dsimp +zetaDelta only

theorem lockLost_keeps (i : Nat) (h : Keeps r s) : Keeps r (lockLost i s) := by
  unfold lockLost
  repeat'
    first
      | intro q | with_reducible assumption | with_reducible apply inEnterFault_keeps | with_reducible apply setV_keeps
      | with_reducible apply Keeps.ite | extract_lets | dsimp +zetaDelta only

theorem feedAdd_keeps (i : Nat) (b : Nat) (y : Int) (good : Bool) (h : Keeps r s) : Keeps r (feedAdd i b y good s) := by
  unfold feedAdd
  repeat'
    first
      | intro q | with_reducible assumption | with_reducible apply setV_keeps | with_reducible apply addV_keeps
      | with_reducible apply Keeps.ite | with_reducible apply foldl_keeps | with_reducible apply foldl_fst_keeps | extract_lets
      | dsimp +zetaDelta only

theorem inSample_keeps (f : Nat) (n : Nat) (c : Nat) (x : InSample) (h : Keeps r s) : Keeps r (inSample f n c x s) := by
  unfold inSample
  repeat'
    first
      | intro q | with_reducible assumption | with_reducible apply wrf_keeps | with_reducible apply feedAdd_keeps
      | with_reducible apply setV_keeps | with_reducible apply Keeps.ite | extract_lets | dsimp +zetaDelta only

theorem inputTakeOut_keeps (i : Nat) (h : Keeps r s) : Keeps r (inputTakeOut i s) := by
  unfold inputTakeOut
  repeat'
    first
      | intro q | with_reducible assumption | with_reducible apply inLeaves_keeps | with_reducible apply inBits_keeps
      | with_reducible apply setV_keeps | with_reducible apply Keeps.ite | extract_lets | dsimp +zetaDelta only

theorem winEffect_keeps (code : Nat) (arg : Nat) (h : Keeps r s) : Keeps r (winEffect code arg s) := by
  unfold winEffect
  repeat'
    first
      | intro q | with_reducible assumption | with_reducible apply inputReadmit_keeps | with_reducible apply inputTakeOut_keeps
      | with_reducible apply Keeps.ite | extract_lets | dsimp +zetaDelta only

theorem winRestart_keeps (h : Keeps r s) : Keeps r (winRestart s) := by
  unfold winRestart
  repeat'
    first
      | intro q | with_reducible assumption | with_reducible apply winStatRefresh_keeps
      | with_reducible apply loadsRefresh_keeps | with_reducible apply eachBelow_keeps | with_reducible apply inRestart_keeps
      | with_reducible apply Keeps.ite | extract_lets | dsimp +zetaDelta only

theorem fastPeak_keeps (i : Nat) (x : State.Fast) (h : Keeps r s) : Keeps r (fastPeak i x s) := by
  unfold fastPeak
  repeat'
    first
      | intro q | with_reducible assumption | with_reducible apply setV_keeps | with_reducible apply Keeps.ite | extract_lets
      | dsimp +zetaDelta only

theorem mclkFault_keeps (k : Nat) (h : Keeps r s) : Keeps r (mclkFault k s) := by
  unfold mclkFault
  repeat'
    first
      | intro q | with_reducible assumption | with_reducible apply fault_keeps | with_reducible apply evt_keeps
      | with_reducible apply hwb_keeps | with_reducible apply winStatRefresh_keeps | with_reducible apply each_keeps
      | with_reducible apply inBit_keeps | with_reducible apply inEnterFault_keeps | with_reducible apply Keeps.ite
      | extract_lets | dsimp +zetaDelta only

theorem flagSpans_keeps (b : Nat) (h : Keeps r s) : Keeps r (flagSpans b s) := by
  unfold flagSpans
  repeat'
    first
      | intro q | with_reducible assumption | with_reducible apply Keeps.ite | extract_lets | dsimp +zetaDelta only
      | with_reducible apply Keeps.upd

theorem pubAcc_keeps (m : Nat) (p : Mp) (h : Keeps r s) : Keeps r (pubAcc m p s) := by
  unfold pubAcc
  repeat'
    first
      | intro q | with_reducible assumption | with_reducible apply hw_keeps | with_reducible apply eachBelow_keeps
      | with_reducible apply evt_keeps | with_reducible apply Keeps.ite | extract_lets | dsimp +zetaDelta only

theorem pubMp_keeps (m : Nat) (t' : Nat) (p : Mp) (h : Keeps r s) : Keeps r (pubMp m t' p s) := by
  unfold pubMp
  repeat'
    first
      | intro q | with_reducible assumption | with_reducible apply hw_keeps | with_reducible apply eachBelow_keeps
      | with_reducible apply pubAcc_keeps | with_reducible apply Keeps.ite | extract_lets | dsimp +zetaDelta only

theorem rateLatch_keeps (h : Keeps r s) : Keeps r (rateLatch s) := by
  unfold rateLatch
  repeat'
    first
      | intro q | with_reducible assumption | with_reducible apply setV_keeps | with_reducible apply Keeps.ite | extract_lets
      | dsimp +zetaDelta only

theorem readingBegin_keeps (m : Nat) (t' : Int) (h : Keeps r s) : Keeps r (readingBegin m t' s) := by
  unfold readingBegin
  repeat'
    first
      | intro q | with_reducible assumption | with_reducible apply Keeps.ite | extract_lets | dsimp +zetaDelta only
      | with_reducible apply Keeps.upd

theorem endSpan_keeps (acc : List Nat) (t' : Int) (x : Sess) (h : Keeps r s) : Keeps r (endSpan acc t' x s) := by
  unfold endSpan
  repeat'
    first
      | intro q | with_reducible assumption | with_reducible apply Keeps.ite | extract_lets | dsimp +zetaDelta only
      | with_reducible apply Keeps.upd

theorem beginSpan_keeps (acc : List Nat) (t' : Int) (x : Sess) (h : Keeps r s) : Keeps r (beginSpan acc t' x s) := by
  unfold beginSpan
  repeat'
    first
      | intro q | with_reducible assumption | with_reducible apply submit_keeps | with_reducible apply Keeps.ite | extract_lets
      | dsimp +zetaDelta only | with_reducible apply Keeps.upd

theorem spanReadings_keeps (m : Nat) (g : Nat) (h : Keeps r s) : Keeps r (spanReadings m g s) := by
  unfold spanReadings
  repeat'
    first
      | intro q | with_reducible assumption | with_reducible apply each_keeps | with_reducible apply beginSpan_keeps
      | with_reducible apply endSpan_keeps | with_reducible apply Keeps.ite | extract_lets | dsimp +zetaDelta only

theorem settleAt_keeps (m g : Nat) (h : Keeps r s) : Keeps r (settleAt m g s) := by
  unfold settleAt
  extract_lets p ty se k due tar p0 p1 s1 s2
  have hp : EvenFrom r p := (mp_even h m).settle _
  have h0 : EvenFrom r p0 := EvenFrom.ite hp (hp.of_acc rfl)
  have h2 : Keeps r s2 := setMp_keeps _ (h0.of_acc rfl) (spanReadings_keeps _ _ (setMp_keeps _ hp h))
  exact Keeps.ite h2 (evt_keeps _ _ h2)

theorem settleBy_keeps (m : Nat) (t' : Nat) (h : Keeps r s) : Keeps r (settleBy m t' s) := by
  unfold settleBy
  repeat'
    first
      | intro q | with_reducible assumption | with_reducible apply settleAt_keeps | with_reducible apply Keeps.ite
      | extract_lets | dsimp +zetaDelta only

theorem capTake_keeps (m g : Nat) (h : Keeps r s) : Keeps r (capTake m g s) := by
  unfold capTake
  extract_lets t s1
  have h1 : Keeps r s1 := settleBy_keeps _ _ h
  refine Keeps.ite h (h1.met fun e => ?_)
  have e' := metEven_iff.mp e
  refine metEven_iff.mpr { e' with capSet := fun x hx => ?_ }
  rcases List.mem_append.mp hx with hx | hx
  · exact e'.capSet x hx
  · obtain rfl := List.mem_singleton.mp hx
    exact mp_even (Keeps.refl s1) m e

theorem pqRestore_keeps (c : MetCopy) (h : Keeps r s) : Keeps r (pqRestore c s) := by
  unfold pqRestore
  repeat'
    first
      | intro q | with_reducible assumption | with_reducible apply each_keeps | with_reducible apply hw_keeps
      | with_reducible apply Keeps.ite | extract_lets | dsimp +zetaDelta only

theorem coreRestored_keeps (h : Keeps r s) : Keeps r (coreRestored s) := by
  unfold coreRestored
  split
  · exact h
  extract_lets c span s0 s1 s2 a old s3 s4
  have h0 : Keeps r s0 := h.met fun e => by
    have e' := metEven_iff.mp e
    refine metEven_iff.mpr { e' with mps := ?_, caps := nil_even, saveSet := by simp [s0], saving := by simp [s0] }
    show ∀ x ∈ (c.map (·.mps)).getD [], x.2.even = true
    generalize hc : c = o
    cases o with
    | none => simp
    | some c => exact e'.copies c (List.mem_of_find?_eq_some hc)
  have h1 : Keeps r s1 := by
    clear_value c
    cases c with
    | none => exact h0
    | some x => exact pqRestore_keeps _ h0
  have h2 : Keeps r s2 := eachBelow_keeps _
    (fun m _ q => Keeps.ite q (setMp_keeps _ (((mp_even q m).add 22 _ (by decide)).of_acc rfl) q)) h1
  exact fault_keeps _ _ _ _ _ (submit_keeps _ (evt_keeps _ _ (inc_keeps _ _ _ _ (hwb_keeps _ _ _ (hwb_keeps _ _ _ h2)))))

theorem windowEval_keeps (m : Nat) (h : Keeps r s) : Keeps r (windowEval m s) := by
  unfold windowEval
  extract_lets p f e energy pairs w any b d quad q0 p1 p2 s1
  have hp : EvenFrom r p := mp_even h m
  have hq : 18 ≤ quad := by
    show 18 ≤ (if 0 ≤ w.q then (if 0 ≤ energy then 18 else 19) else (if 0 ≤ energy then 21 else 20))
    clear_value energy w
    split <;> split <;> decide
  have h1 : EvenFrom r p1 := EvenFrom.ite ((hp.add quad _ hq).of_acc rfl) (hp.of_acc rfl)
  have k1 : Keeps r s1 := setV_keeps _ _ _ (drawn_keeps _ (setMp_keeps _ (h1.of_acc rfl) h.upd))
  exact Keeps.ite (evt_keeps _ _ k1) k1

theorem windowDue_keeps (m g : Nat) (h : Keeps r s) : Keeps r (windowDue m g s) := by
  unfold windowDue
  extract_lets s1 p k
  have h1 : Keeps r s1 := windowEval_keeps _ h
  exact Keeps.ite (setMp_keeps _ ((mp_even h1 m).of_acc rfl) h1) h

theorem pubCapture_keeps (m g : Nat) (h : Keeps r s) : Keeps r (pubCapture m g s) := by
  unfold pubCapture
  refine Keeps.ite (setMp_keeps _ ((mp_even h m).of_acc rfl) ?_) h
  refine h.met fun k => ?_
  have e := metEven_iff.mp k
  refine metEven_iff.mpr { e with caps := fun x hx => ?_ }
  rcases List.mem_append.mp hx with hx | hx
  · exact e.caps x hx
  · obtain rfl := List.mem_singleton.mp hx
    exact mp_even (Keeps.refl s) m k

theorem settleForPub_keeps (m : Nat) (g : Nat) (h : Keeps r s) : Keeps r (settleForPub m g s) := by
  unfold settleForPub
  repeat'
    first
      | intro q | with_reducible assumption | with_reducible apply windowDue_keeps | with_reducible apply settleAt_keeps
      | with_reducible apply Keeps.ite | extract_lets | dsimp +zetaDelta only

theorem demTake_keeps (m : Nat) (t' : Nat) (h : Keeps r s) : Keeps r (demTake m t' s) := by
  unfold demTake
  repeat'
    first
      | intro q | with_reducible assumption | with_reducible apply Keeps.ite | extract_lets | dsimp +zetaDelta only
      | with_reducible apply Keeps.upd

theorem demCapture_keeps (m : Nat) (g : Nat) (h : Keeps r s) : Keeps r (demCapture m g s) := by
  unfold demCapture
  repeat'
    first
      | intro q | with_reducible assumption | with_reducible apply each_keeps | with_reducible apply demTake_keeps
      | with_reducible apply settleBy_keeps | with_reducible apply Keeps.ite | extract_lets | dsimp +zetaDelta only

theorem mpEnergy_keeps (m n g d : Nat) (h : Keeps r s) : Keeps r (mpEnergy m n g d s) := by
  unfold mpEnergy
  extract_lets p f ps quals gap early sat bound a b e u p1 p2 p3 slot w p4 good p5 first s0 demand s1 s2
  have h1 : EvenFrom r p1 := (mp_even h m).of_acc rfl
  have h2 : EvenFrom r p2 := EvenFrom.ite (h1.settle _) (h1.of_acc rfl)
  have h5 : EvenFrom r p5 := (h2.add 22 u (by decide)).of_acc rfl
  have k0 : Keeps r s0 := Keeps.ite (setV_keeps _ _ _ h) h
  have k1 : Keeps r s1 := setMp_keeps _ h5 (Keeps.ite (setV_keeps _ _ _ (setV_keeps _ _ _ k0)) k0)
  have k2 : Keeps r s2 := Keeps.ite (evt_keeps _ _ k1) k1
  exact Keeps.ite (evt_keeps _ _ k2) k2

theorem mpSample_keeps (m : Nat) (f : Nat) (n : Nat) (h : Keeps r s) : Keeps r (mpSample m f n s) := by
  unfold mpSample
  repeat'
    first
      | intro q | with_reducible assumption | with_reducible apply windowDue_keeps | with_reducible apply pubCapture_keeps
      | with_reducible apply settleForPub_keeps | with_reducible apply capTake_keeps | with_reducible apply demCapture_keeps
      | with_reducible apply settleAt_keeps | with_reducible apply mpEnergy_keeps | with_reducible apply readingBegin_keeps
      | with_reducible apply Keeps.ite | extract_lets | dsimp +zetaDelta only

theorem metCopy_even (n : Nat) (b : Bool) {l : List (Nat × Mp)} (c : Nat) (t : Int) (hl : ∀ x ∈ l, x.2.even = true) :
    ∀ x ∈ (s.metCopy n b l c t).mps, x.2.even = true := by
  intro x hx
  obtain ⟨y, hy, rfl⟩ := List.mem_map.mp hx
  exact Mp.even_of_acc rfl (hl y hy)

theorem saveBegin_keeps (t' : Nat) {set : List (Nat × Mp)} (hs : s.even = true → ∀ x ∈ set, x.2.even = true) (h : Keeps r s) :
    Keeps r (saveBegin t' set s) := by
  unfold saveBegin
  extract_lets c
  have h0 : Keeps r ((s.setV .saveAt 0 (c + 1)).setV .saveWant 0 0) := setV_keeps _ _ _ (setV_keeps _ _ _ h)
  refine h0.met fun e => ?_
  refine metEven_iff.mpr { metEven_iff.mp e with saveSet := by simp, saving := fun y hy => ?_ }
  obtain rfl := Option.mem_some_iff.mp hy
  exact metCopy_even _ _ _ _ (hs e)

theorem sealClose_keeps (how : Nat) (h : Keeps r s) : Keeps r (sealClose how s) := by
  unfold sealClose
  repeat'
    first
      | intro q | with_reducible assumption | with_reducible apply eachBelow_keeps | with_reducible apply hw_keeps
      | with_reducible apply submit_keeps | with_reducible apply evt_keeps | with_reducible apply Keeps.ite | extract_lets
      | dsimp +zetaDelta only

theorem sealRoleEnds_keeps (m : Master) (h : Keeps r s) : Keeps r (sealRoleEnds m s) := by
  unfold sealRoleEnds
  repeat'
    first
      | intro q | with_reducible assumption | with_reducible apply sealClose_keeps | with_reducible apply Keeps.ite
      | extract_lets | dsimp +zetaDelta only

theorem coreLockstep_keeps (h : Keeps r s) : Keeps r (coreLockstep s) := by
  unfold coreLockstep
  repeat'
    first
      | intro q | with_reducible assumption | with_reducible apply fault_keeps | with_reducible apply commonOnce_keeps
      | with_reducible apply hwb_keeps | with_reducible apply Keeps.ite | extract_lets | dsimp +zetaDelta only

theorem saveDue_keeps (t' : Nat) {set : List (Nat × Mp)} (hs : s.even = true → ∀ x ∈ set, x.2.even = true) (h : Keeps r s) :
    Keeps r (saveDue t' set s) := by
  unfold saveDue
  extract_lets due
  clear_value due
  refine Keeps.ite (h.met fun e => metEven_iff.mpr { metEven_iff.mp e with saveSet := by simp })
    (Keeps.ite (saveBegin_keeps _ hs h) (h.met fun e => metEven_iff.mpr { metEven_iff.mp e with saveSet := fun y hy => ?_ }))
  dsimp only at hy
  split at hy
  · obtain rfl := Option.mem_some_iff.mp hy
    exact hs e
  · cases hy

theorem sealOpen_keeps (m : Master) (h : Keeps r s) : Keeps r (sealOpen m s) := by
  unfold sealOpen
  repeat'
    first
      | intro q | with_reducible assumption | with_reducible apply hw_keeps | with_reducible apply flagSpans_keeps
      | with_reducible apply submit_keeps | with_reducible apply evt_keeps | with_reducible apply Keeps.ite | extract_lets
      | dsimp +zetaDelta only

theorem settlementEnd_keeps (m : Nat) (h : Keeps r s) : Keeps r (settlementEnd m s) := by
  unfold settlementEnd
  repeat'
    first
      | intro q | with_reducible assumption | with_reducible apply settleAt_keeps | with_reducible apply Keeps.ite
      | extract_lets | dsimp +zetaDelta only

theorem pubStart_keeps (h : Keeps r s) : Keeps r (pubStart s) := by
  unfold pubStart
  extract_lets ns g resumed s1
  have h1 : Keeps r s1 := by
    have h0 : Keeps r { s with mps := s.mps.map fun (x : Nat × Mp) => (x.1, resumed x.2) } := map_mps_keeps (fun _ => rfl) h
    exact h0.met fun e => metEven_iff.mpr { metEven_iff.mp e with caps := nil_even }
  clear_value s1
  exact eachBelow_keeps _ (fun _ _ q => setV_keeps _ _ _ q) (setV_keeps _ _ _ (setV_keeps _ _ _ (setV_keeps _ _ _ h1)))

theorem setTariff_keeps (m idx g : Nat) (h : Keeps r s) : Keeps r (setTariff m idx g s) := by
  unfold setTariff
  extract_lets p s1
  have h1 : Keeps r s1 := setMp_keeps _ ((mp_even h m).of_acc rfl) h
  exact Keeps.ite (Keeps.ite h1 (evt_keeps _ _ h1)) (setMp_keeps _ ((mp_even h m).of_acc rfl) h)

theorem metCtlEffect_keeps (code : Nat) (m : Master) (h : Keeps r s) : Keeps r (metCtlEffect code m s) := by
  unfold metCtlEffect
  repeat'
    first
      | intro q | with_reducible assumption | with_reducible apply sealOpen_keeps | with_reducible apply sealClose_keeps
      | with_reducible apply setV_keeps | with_reducible apply Keeps.ite | split | extract_lets | dsimp +zetaDelta only

theorem harmShow_keeps (h : Keeps r s) : Keeps r (harmShow s) := by
  unfold harmShow
  repeat'
    first
      | intro q | with_reducible assumption | with_reducible apply each_keeps | with_reducible apply hw_keeps
      | with_reducible apply Keeps.ite | extract_lets | dsimp +zetaDelta only | with_reducible apply Keeps.upd

theorem mem_keepCopies {l : List MetCopy} {c : MetCopy} (h : c ∈ keepCopies l) : c ∈ l := by
  rcases List.mem_append.mp h with h | h <;> exact List.mem_of_mem_filter (List.mem_of_mem_take h)

theorem saveComplete_keeps (ok : Bool) (h : Keeps r s) : Keeps r (saveComplete ok s) := by
  unfold saveComplete
  generalize hc : s.saving = o
  cases o with
  | none => exact h
  | some c =>
    have hs (e : s.even = true) : ∀ x ∈ c.mps, x.2.even = true := (metEven_iff.mp e).saving c (by rw [hc]; rfl)
    dsimp only
    split
    · refine fault_keeps _ _ _ _ _ (hw_keeps _ _ (hw_keeps _ _ (setV_keeps _ _ _ (h.met fun e => ?_))))
      refine metEven_iff.mpr { metEven_iff.mp e with copies := fun y hy => ?_, saving := by simp }
      rcases List.mem_cons.mp (mem_keepCopies hy) with rfl | hy
      · exact hs e
      · exact (metEven_iff.mp e).copies y hy
    · refine fault_keeps _ _ _ _ _ (evt_keeps _ _ (setV_keeps _ _ _ (h.met fun e => ?_)))
      exact metEven_iff.mpr { metEven_iff.mp e with saving := by simp }

theorem analysisEnd_keeps (m : Nat) (h : Keeps r s) : Keeps r (analysisEnd m s) := by
  unfold analysisEnd
  exact Keeps.ite (windowDue_keeps _ _ h) h

theorem periodicSave_keeps (h : Keeps r s) : Keeps r (periodicSave s) := by
  unfold periodicSave
  split
  · next t set hy =>
    exact Keeps.ite (saveBegin_keeps _ (fun e => (metEven_iff.mp e).saveSet _ (by rw [hy]; rfl)) h) h
  · exact h

theorem gridInterval_keeps (f : Nat) (n : Nat) (h : Keeps r s) : Keeps r (gridInterval f n s) := by
  unfold gridInterval
  repeat'
    first
      | intro q | with_reducible assumption | with_reducible apply setV_keeps | with_reducible apply Keeps.ite | extract_lets
      | dsimp +zetaDelta only

theorem mainSamples_keeps (f : Nat) (n : Nat) (dt : Nat) (xs : List InSample) (h : Keeps r s) : Keeps r (mainSamples f n dt xs
    s) := by
  unfold mainSamples
  repeat'
    first
      | intro q | with_reducible assumption | with_reducible apply each_keeps | with_reducible apply inSample_keeps
      | with_reducible apply gridInterval_keeps | with_reducible apply eachBelow_keeps | with_reducible apply mpSample_keeps
      | with_reducible apply Keeps.ite | extract_lets | dsimp +zetaDelta only

theorem pubInput_keeps (i : Nat) (h : Keeps r s) : Keeps r (pubInput i s) := by
  unfold pubInput
  repeat'
    first
      | intro q | with_reducible assumption | with_reducible apply setV_keeps | with_reducible apply hw_keeps
      | with_reducible apply Keeps.ite | extract_lets | dsimp +zetaDelta only

theorem metPublication_keeps (h : Keeps r s) : Keeps r (metPublication s) := by
  unfold metPublication
  extract_lets t set s1 s2 s3 s4 u s5 ns
  have hs (e : s.even = true) : ∀ x ∈ set, x.2.even = true := fun x hx => by
    obtain ⟨m, -, hm⟩ := List.mem_filterMap.mp hx
    split at hm
    · cases hm
    · cases hm
      exact pubSet_even (Keeps.refl s) m e
  clear_value set ns
  have h1 : Keeps r s1 := saveDue_keeps _ hs h
  clear_value s1
  have h3 : Keeps r s3 := eachBelow_keeps _ (fun _ _ q => pubInput_keeps _ q) (eachBelow_keeps _ (fun _ _ q => pubMp_keeps _ _ _ q) h1)
  clear_value s3
  have h4 : Keeps r s4 := eachBelow_keeps _ (fun m _ q => Keeps.ite q (setMp_keeps _ ((mp_even q m).of_acc rfl) q)) h3
  clear_value s4
  have h5 : Keeps r s5 := (rateLatch_keeps h4).met fun e => metEven_iff.mpr { metEven_iff.mp e with caps := nil_even }
  clear_value s5
  exact Keeps.ite h (setV_keeps _ _ _ (setV_keeps _ _ _ (setV_keeps _ _ _ (setV_keeps _ _ _ h5))))

theorem instantReadings_keeps (stall : Nat) (h : Keeps r s) : Keeps r (instantReadings stall s) := by
  unfold instantReadings
  repeat'
    first
      | intro q | with_reducible assumption | with_reducible apply each_keeps | with_reducible apply beginSpan_keeps
      | with_reducible apply endSpan_keeps | with_reducible apply Keeps.ite | extract_lets | dsimp +zetaDelta only

theorem setVeh_keeps (stall : Nat) (x : Veh) (h : Keeps r s) : Keeps r (setVeh stall x s) := by
  unfold setVeh
  repeat'
    first
      | intro q | with_reducible assumption | with_reducible apply Keeps.ite | extract_lets | dsimp +zetaDelta only
      | with_reducible apply Keeps.upd

theorem askHost_keeps (stall : Nat) (kind : Nat) (seq : Nat) (h : Keeps r s) : Keeps r (askHost stall kind seq s) := by
  unfold askHost
  repeat'
    first
      | intro q | with_reducible assumption | with_reducible apply quePlace_keeps | with_reducible apply inc_keeps
      | with_reducible apply setVeh_keeps | with_reducible apply setV_keeps | with_reducible apply hwf_keeps
      | with_reducible apply hwb_keeps | with_reducible apply Keeps.ite | extract_lets | dsimp +zetaDelta only

theorem vhsPlug_keeps (stall : Nat) (h : Keeps r s) : Keeps r (vhsPlug stall s) := by
  unfold vhsPlug
  repeat'
    first
      | intro q | with_reducible assumption | with_reducible apply setV_keeps | with_reducible apply hw_keeps
      | with_reducible apply setVeh_keeps | with_reducible apply hwf_keeps | with_reducible apply askHost_keeps
      | with_reducible apply Keeps.ite | extract_lets | dsimp +zetaDelta only

theorem vhsClose_keeps (stall : Nat) (cause : Nat) (h : Keeps r s) : Keeps r (vhsClose stall cause s) := by
  unfold vhsClose
  repeat'
    first
      | intro q | with_reducible assumption | with_reducible apply hwf_keeps | with_reducible apply evt_keeps
      | with_reducible apply hwb_keeps | with_reducible apply setV_keeps | with_reducible apply setVeh_keeps
      | with_reducible apply Keeps.ite | extract_lets | dsimp +zetaDelta only

theorem checkpoint_keeps (stall : Nat) (h : Keeps r s) : Keeps r (checkpoint stall s) := by
  unfold checkpoint
  repeat'
    first
      | intro q | with_reducible assumption | with_reducible apply inc_keeps | with_reducible apply setVeh_keeps
      | with_reducible apply Keeps.ite | extract_lets | dsimp +zetaDelta only

theorem sessStep_keeps (stall : Nat) (msg : Nat) (resp : Nat) (values : List (Nat × Nat)) (h : Keeps r s) : Keeps r (sessStep
    stall msg resp values s) := by
  unfold sessStep
  repeat'
    first
      | intro q | with_reducible assumption | with_reducible apply hw_keeps | with_reducible apply submit_keeps
      | with_reducible apply Keeps.ite | extract_lets | dsimp +zetaDelta only

theorem demandRefresh_keeps (stall : Nat) (h : Keeps r s) : Keeps r (demandRefresh stall s) := by
  unfold demandRefresh
  repeat'
    first
      | intro q | with_reducible assumption | with_reducible apply hwf_keeps | with_reducible apply Keeps.ite | extract_lets
      | dsimp +zetaDelta only

theorem answered_keeps (stall : Nat) (h : Keeps r s) : Keeps r (answered stall s) := by
  unfold answered
  repeat'
    first
      | intro q | with_reducible assumption | with_reducible apply hwf_keeps | with_reducible apply hwb_keeps
      | with_reducible apply setV_keeps | with_reducible apply Keeps.ite | extract_lets | dsimp +zetaDelta only

theorem ephNew_keeps (i : Nat) (h : Keeps r s) : Keeps r (ephNew i s) := by
  unfold ephNew
  repeat'
    first
      | intro q | with_reducible assumption | with_reducible apply addV_keeps | with_reducible apply Keeps.ite | extract_lets
      | dsimp +zetaDelta only

theorem sendRes_keeps (stall : Nat) (len : Nat) (r' : V2gRes) (h : Keeps r s) : Keeps r (sendRes stall len r' s) := by
  unfold sendRes
  repeat'
    first
      | intro q | with_reducible assumption | with_reducible apply setVeh_keeps | with_reducible apply checkpoint_keeps
      | with_reducible apply setV_keeps | with_reducible apply Keeps.ite | extract_lets | dsimp +zetaDelta only

theorem sendFailure_keeps (stall : Nat) (msg : Nat) (c : V2gCode) (h : Keeps r s) : Keeps r (sendFailure stall msg c s) := by
  unfold sendFailure
  repeat'
    first
      | intro q | with_reducible assumption | with_reducible apply sendRes_keeps | with_reducible apply sessStep_keeps
      | with_reducible apply Keeps.ite | extract_lets | dsimp +zetaDelta only

theorem vhsRefuse_keeps (stall : Nat) (h : Keeps r s) : Keeps r (vhsRefuse stall s) := by
  unfold vhsRefuse
  repeat'
    first
      | intro q | with_reducible assumption | with_reducible apply vhsClose_keeps | with_reducible apply sendFailure_keeps
      | with_reducible apply hwf_keeps | with_reducible apply setVeh_keeps | with_reducible apply Keeps.ite | split
      | extract_lets | dsimp +zetaDelta only

theorem insSw_keeps (stall : Nat) (high : Bool) (h : Keeps r s) : Keeps r (insSw stall high s) := by
  unfold insSw
  repeat'
    first
      | intro q | with_reducible assumption | with_reducible apply inc_keeps | with_reducible apply hwb_keeps
      | with_reducible apply Keeps.ite | extract_lets | dsimp +zetaDelta only

theorem insRun_keeps (stall : Nat) (h : Keeps r s) : Keeps r (insRun stall s) := by
  unfold insRun
  repeat'
    first
      | intro q | with_reducible assumption | with_reducible apply hwb_keeps | with_reducible apply setV_keeps
      | with_reducible apply Keeps.ite | extract_lets | dsimp +zetaDelta only

theorem insHeld_keeps (stall : Nat) (h : Keeps r s) : Keeps r (insHeld stall s) := by
  unfold insHeld
  repeat'
    first
      | intro q | with_reducible assumption | with_reducible apply insSw_keeps | with_reducible apply insRun_keeps
      | with_reducible apply setV_keeps | with_reducible apply Keeps.ite | extract_lets | dsimp +zetaDelta only

theorem excessRefresh_keeps (stall : Nat) (h : Keeps r s) : Keeps r (excessRefresh stall s) := by
  unfold excessRefresh
  repeat'
    first
      | intro q | with_reducible assumption | with_reducible apply setV_keeps | with_reducible apply hwb_keeps
      | with_reducible apply Keeps.ite | extract_lets | dsimp +zetaDelta only

theorem dutyRefresh_keeps (stall : Nat) (h : Keeps r s) : Keeps r (dutyRefresh stall s) := by
  unfold dutyRefresh
  repeat'
    first
      | intro q | with_reducible assumption | with_reducible apply setV_keeps | with_reducible apply hwf_keeps
      | with_reducible apply Keeps.ite | extract_lets | dsimp +zetaDelta only

theorem stlSum_keeps (stall : Nat) (h : Keeps r s) : Keeps r (stlSum stall s) := by
  unfold stlSum
  repeat'
    first
      | intro q | with_reducible assumption | with_reducible apply hwb_keeps | with_reducible apply hwf_keeps
      | with_reducible apply Keeps.ite | extract_lets | dsimp +zetaDelta only

theorem setMode_keeps (stall : Nat) (new : Nat) (cause : Nat) (h : Keeps r s) : Keeps r (setMode stall new cause s) := by
  unfold setMode
  repeat'
    first
      | intro q | with_reducible assumption | with_reducible apply inc_keeps | with_reducible apply hwf_keeps
      | with_reducible apply submit_keeps | with_reducible apply evt_keeps | with_reducible apply insHeld_keeps
      | with_reducible apply excessRefresh_keeps | with_reducible apply demandRefresh_keeps
      | with_reducible apply dutyRefresh_keeps | with_reducible apply tripOuts_keeps | with_reducible apply stlSum_keeps
      | with_reducible apply Keeps.ite | extract_lets | dsimp +zetaDelta only

theorem lockDemand_keeps (stall : Nat) (on : Bool) (h : Keeps r s) : Keeps r (lockDemand stall on s) := by
  unfold lockDemand
  repeat'
    first
      | intro q | with_reducible assumption | with_reducible apply each_keeps | with_reducible apply setDemand_keeps
      | with_reducible apply Keeps.ite | extract_lets | dsimp +zetaDelta only

theorem prepare_keeps (stall : Nat) (cause : Nat) (h : Keeps r s) : Keeps r (prepare stall cause s) := by
  unfold prepare
  repeat'
    first
      | intro q | with_reducible assumption | with_reducible apply setMode_keeps | with_reducible apply setV_keeps
      | with_reducible apply trigger_keeps | with_reducible apply lockDemand_keeps | with_reducible apply Keeps.ite
      | extract_lets | dsimp +zetaDelta only

theorem vehicleLift_keeps (stall : Nat) (h : Keeps r s) : Keeps r (vehicleLift stall s) := by
  unfold vehicleLift
  repeat'
    first
      | intro q | with_reducible assumption | with_reducible apply trigger_keeps | with_reducible apply Keeps.ite | extract_lets
      | dsimp +zetaDelta only

theorem liftPause_keeps (stall : Nat) (cause : Nat) (h : Keeps r s) : Keeps r (liftPause stall cause s) := by
  unfold liftPause
  repeat'
    first
      | intro q | with_reducible assumption | with_reducible apply hwb_keeps | with_reducible apply prepare_keeps
      | with_reducible apply vehicleLift_keeps | with_reducible apply demandRefresh_keeps
      | with_reducible apply dutyRefresh_keeps | with_reducible apply Keeps.ite | extract_lets | dsimp +zetaDelta only

theorem lostContact_keeps (stall : Nat) (h : Keeps r s) : Keeps r (lostContact stall s) := by
  unfold lostContact
  repeat'
    first
      | intro q | with_reducible assumption | with_reducible apply withdraw_keeps | with_reducible apply Keeps.ite
      | extract_lets | dsimp +zetaDelta only

theorem pilotBWithdraw_keeps (stall : Nat) (h : Keeps r s) : Keeps r (pilotBWithdraw stall s) := by
  unfold pilotBWithdraw
  repeat'
    first
      | intro q | with_reducible assumption | with_reducible apply setV_keeps | with_reducible apply lostContact_keeps
      | with_reducible apply Keeps.ite | extract_lets | dsimp +zetaDelta only

theorem safeCauseCleared_keeps (stall : Nat) (h : Keeps r s) : Keeps r (safeCauseCleared stall s) := by
  unfold safeCauseCleared
  repeat'
    first
      | intro q | with_reducible assumption | with_reducible apply trigger_keeps | with_reducible apply Keeps.ite | extract_lets
      | dsimp +zetaDelta only

theorem sessMap_keeps (stall : Nat) (f : Sess → Sess) (h : Keeps r s) : Keeps r (sessMap stall f s) := by
  unfold sessMap
  repeat'
    first
      | intro q | with_reducible assumption | with_reducible apply Keeps.ite | extract_lets | dsimp +zetaDelta only
      | with_reducible apply Keeps.upd

theorem sessionOver_keeps (stall : Nat) (h : Keeps r s) : Keeps r (sessionOver stall s) := by
  unfold sessionOver
  repeat'
    first
      | intro q | with_reducible assumption | with_reducible apply hwf_keeps | with_reducible apply hw_keeps
      | with_reducible apply insRun_keeps | with_reducible apply demandRefresh_keeps | with_reducible apply setV_keeps
      | with_reducible apply vhsClose_keeps | with_reducible apply Keeps.ite | extract_lets | dsimp +zetaDelta only

theorem toSafe_keeps (stall : Nat) (cause : Nat) (h : Keeps r s) : Keeps r (toSafe stall cause s) := by
  unfold toSafe
  repeat'
    first
      | intro q | with_reducible assumption | with_reducible apply setV_keeps | with_reducible apply hwb_keeps
      | with_reducible apply hwf_keeps | with_reducible apply sessMap_keeps | with_reducible apply withdraw_keeps
      | with_reducible apply lockDemand_keeps | with_reducible apply answered_keeps | with_reducible apply setMode_keeps
      | with_reducible apply vhsClose_keeps | with_reducible apply sessionOver_keeps | with_reducible apply Keeps.ite
      | extract_lets | dsimp +zetaDelta only

theorem setLead_keeps (stall : Nat) (p : Nat) (h : Keeps r s) : Keeps r (setLead stall p s) := by
  unfold setLead
  repeat'
    first
      | intro q | with_reducible assumption | with_reducible apply hwf_keeps | with_reducible apply Keeps.ite | extract_lets
      | dsimp +zetaDelta only

theorem leadBack_keeps (stall : Nat) (h : Keeps r s) : Keeps r (leadBack stall s) := by
  unfold leadBack
  repeat'
    first
      | intro q | with_reducible assumption | with_reducible apply setLead_keeps | with_reducible apply Keeps.ite | extract_lets
      | dsimp +zetaDelta only

theorem enterIdle_keeps (stall : Nat) (cause : Nat) (h : Keeps r s) : Keeps r (enterIdle stall cause s) := by
  unfold enterIdle
  repeat'
    first
      | intro q | with_reducible assumption | with_reducible apply hwb_keeps | with_reducible apply leadBack_keeps
      | with_reducible apply setV_keeps | with_reducible apply setMode_keeps | with_reducible apply Keeps.ite | extract_lets
      | dsimp +zetaDelta only

theorem idleAfterProof_keeps (stall : Nat) (cause : Nat) (h : Keeps r s) : Keeps r (idleAfterProof stall cause s) := by
  unfold idleAfterProof
  repeat'
    first
      | intro q | with_reducible assumption | with_reducible apply enterIdle_keeps | with_reducible apply setV_keeps
      | with_reducible apply Keeps.ite | extract_lets | dsimp +zetaDelta only

theorem engineEnd_keeps (stall : Nat) (cause : Nat) (h : Keeps r s) : Keeps r (engineEnd stall cause s) := by
  unfold engineEnd
  repeat'
    first
      | intro q | with_reducible assumption | with_reducible apply vhsClose_keeps | with_reducible apply setV_keeps
      | with_reducible apply setVeh_keeps | with_reducible apply vhsRefuse_keeps | with_reducible apply Keeps.ite | extract_lets
      | dsimp +zetaDelta only

theorem toEnding_keeps (stall : Nat) (cause : Nat) (h : Keeps r s) : Keeps r (toEnding stall cause s) := by
  unfold toEnding
  repeat'
    first
      | intro q | with_reducible assumption | with_reducible apply hwf_keeps | with_reducible apply sessMap_keeps
      | with_reducible apply engineEnd_keeps | with_reducible apply answered_keeps | with_reducible apply trigger_keeps
      | with_reducible apply setMode_keeps | with_reducible apply Keeps.ite | extract_lets | dsimp +zetaDelta only

theorem connect_keeps (stall : Nat) (cause : Nat) (h : Keeps r s) : Keeps r (connect stall cause s) := by
  unfold connect
  repeat'
    first
      | intro q | with_reducible assumption | with_reducible apply hwb_keeps | with_reducible apply hwf_keeps
      | with_reducible apply hw_keeps | with_reducible apply setV_keeps | with_reducible apply vhsPlug_keeps
      | with_reducible apply setMode_keeps | with_reducible apply Keeps.ite | extract_lets | dsimp +zetaDelta only
      | with_reducible apply Keeps.upd

theorem raisePause_keeps (stall : Nat) (cause : Nat) (h : Keeps r s) : Keeps r (raisePause stall cause s) := by
  unfold raisePause
  repeat'
    first
      | intro q | with_reducible assumption | with_reducible apply setV_keeps | with_reducible apply hwb_keeps
      | with_reducible apply setMode_keeps | with_reducible apply demandRefresh_keeps | with_reducible apply dutyRefresh_keeps
      | with_reducible apply Keeps.ite | extract_lets | dsimp +zetaDelta only

theorem endingDone_keeps (stall : Nat) (h : Keeps r s) : Keeps r (endingDone stall s) := by
  unfold endingDone
  repeat'
    first
      | intro q | with_reducible assumption | with_reducible apply sessionOver_keeps | with_reducible apply setMode_keeps
      | with_reducible apply hwb_keeps | with_reducible apply setV_keeps | with_reducible apply idleAfterProof_keeps | with_reducible apply Keeps.ite
      | extract_lets | dsimp +zetaDelta only

theorem endingOpen_keeps (stall : Nat) (h : Keeps r s) : Keeps r (endingOpen stall s) := by
  unfold endingOpen
  repeat'
    first
      | intro q | with_reducible assumption | with_reducible apply lockDemand_keeps | with_reducible apply vhsClose_keeps
      | with_reducible apply endingDone_keeps | with_reducible apply dutyRefresh_keeps | with_reducible apply Keeps.ite
      | extract_lets | dsimp +zetaDelta only

theorem pilotActs_keeps (stall : Nat) (cls : Nat) (h : Keeps r s) : Keeps r (pilotActs stall cls s) := by
  unfold pilotActs
  repeat'
    first
      | intro q | with_reducible assumption | with_reducible apply idleAfterProof_keeps | with_reducible apply toEnding_keeps
      | with_reducible apply setV_keeps | with_reducible apply proofAbort_keeps | with_reducible apply hwb_keeps
      | with_reducible apply connect_keeps | with_reducible apply endingOpen_keeps | with_reducible apply raisePause_keeps | with_reducible apply Keeps.ite
      | extract_lets | dsimp +zetaDelta only

theorem contactorsAct_keeps (stall : Nat) (h : Keeps r s) : Keeps r (contactorsAct stall s) := by
  unfold contactorsAct
  repeat'
    first
      | intro q | with_reducible assumption | with_reducible apply setMode_keeps | with_reducible apply endingOpen_keeps
      | with_reducible apply Keeps.ite | extract_lets | dsimp +zetaDelta only

theorem proofEnds_keeps (stall : Nat) (held : Bool) (h : Keeps r s) : Keeps r (proofEnds stall held s) := by
  unfold proofEnds
  repeat'
    first
      | intro q | with_reducible assumption | with_reducible apply setV_keeps | with_reducible apply toSafe_keeps
      | with_reducible apply enterIdle_keeps | with_reducible apply setMode_keeps | with_reducible apply hwb_keeps
      | with_reducible apply sessionOver_keeps | with_reducible apply endingOpen_keeps | with_reducible apply trigger_keeps | with_reducible apply Keeps.ite
      | extract_lets | dsimp +zetaDelta only

theorem enableActs_keeps (stall : Nat) (on : Bool) (h : Keeps r s) : Keeps r (enableActs stall on s) := by
  unfold enableActs
  repeat'
    first
      | intro q | with_reducible assumption | with_reducible apply setV_keeps | with_reducible apply proofAbort_keeps
      | with_reducible apply setMode_keeps | with_reducible apply Keeps.ite | extract_lets | dsimp +zetaDelta only

theorem hardPauseRec_keeps (stall : Nat) (cause : Nat) (on : Bool) (h : Keeps r s) : Keeps r (hardPauseRec stall cause on s) := by
  unfold hardPauseRec
  repeat'
    first
      | intro q | with_reducible assumption | with_reducible apply submit_keeps | with_reducible apply Keeps.ite | extract_lets
      | dsimp +zetaDelta only

theorem hardPauseEnd_keeps (stall : Nat) (cause : Nat) (h : Keeps r s) : Keeps r (hardPauseEnd stall cause s) := by
  unfold hardPauseEnd
  repeat'
    first
      | intro q | with_reducible assumption | with_reducible apply hardPauseRec_keeps | with_reducible apply hwb_keeps
      | with_reducible apply Keeps.ite | extract_lets | dsimp +zetaDelta only

theorem offActs_keeps (stall : Nat) (h : Keeps r s) : Keeps r (offActs stall s) := by
  unfold offActs
  repeat'
    first
      | intro q | with_reducible assumption | with_reducible apply toEnding_keeps | with_reducible apply hardPauseEnd_keeps
      | with_reducible apply Keeps.ite | extract_lets | dsimp +zetaDelta only

theorem takeOutActs_keeps (stall : Nat) (h : Keeps r s) : Keeps r (takeOutActs stall s) := by
  unfold takeOutActs
  repeat'
    first
      | intro q | with_reducible assumption | with_reducible apply setMode_keeps | with_reducible apply proofAbort_keeps
      | with_reducible apply setV_keeps | with_reducible apply stlSum_keeps | with_reducible apply hwb_keeps
      | with_reducible apply toEnding_keeps | with_reducible apply endingOpen_keeps | with_reducible apply hardPauseEnd_keeps | with_reducible apply Keeps.ite
      | extract_lets | dsimp +zetaDelta only

theorem authorise_keeps (stall : Nat) (h : Keeps r s) : Keeps r (authorise stall s) := by
  unfold authorise
  repeat'
    first
      | intro q | with_reducible assumption | with_reducible apply trigger_keeps | with_reducible apply sessMap_keeps
      | with_reducible apply prepare_keeps | with_reducible apply answered_keeps | with_reducible apply Keeps.ite | extract_lets
      | dsimp +zetaDelta only

theorem onActs_keeps (stall : Nat) (ref : Nat) (h : Keeps r s) : Keeps r (onActs stall ref s) := by
  unfold onActs
  repeat'
    first
      | intro q | with_reducible assumption | with_reducible apply hw_keeps | with_reducible apply connect_keeps
      | with_reducible apply sessMap_keeps | with_reducible apply authorise_keeps | with_reducible apply liftPause_keeps
      | with_reducible apply Keeps.ite | extract_lets | dsimp +zetaDelta only

theorem returnAsked_keeps (stall : Nat) (h : Keeps r s) : Keeps r (returnAsked stall s) := by
  unfold returnAsked
  repeat'
    first
      | intro q | with_reducible assumption | with_reducible apply setV_keeps | with_reducible apply Keeps.ite | extract_lets
      | dsimp +zetaDelta only

theorem stlTrig_keeps (stall : Nat) (t' : Trig) (h : Keeps r s) : Keeps r (stlTrig stall t' s) := by
  unfold stlTrig
  repeat'
    first
      | intro q | with_reducible assumption | with_reducible apply toSafe_keeps | with_reducible apply pilotActs_keeps
      | with_reducible apply toEnding_keeps | with_reducible apply contactorsAct_keeps | with_reducible apply proofEnds_keeps
      | with_reducible apply enableActs_keeps | with_reducible apply offActs_keeps | with_reducible apply takeOutActs_keeps
      | with_reducible apply raisePause_keeps | with_reducible apply demandRefresh_keeps | with_reducible apply hwf_keeps
      | with_reducible apply onActs_keeps | with_reducible apply authorise_keeps | with_reducible apply liftPause_keeps
      | with_reducible apply returnAsked_keeps | with_reducible apply setMode_keeps | with_reducible apply endingOpen_keeps
      | with_reducible apply Keeps.ite | split | extract_lets | dsimp +zetaDelta only

theorem stlStep_keeps (r' : Nat) (h : Keeps r s) : Keeps r (stlStep r' s) := by
  unfold stlStep
  repeat'
    first
      | intro q | with_reducible assumption | with_reducible apply eachBelow_keeps | with_reducible apply each_keeps
      | with_reducible apply stlTrig_keeps | with_reducible apply Keeps.ite | extract_lets | dsimp +zetaDelta only
      | with_reducible apply Keeps.upd

theorem cableCheckEnd_keeps (p : Partition) (stall : Nat) (h : Keeps r s) : Keeps r (cableCheckEnd p stall s) := by
  unfold cableCheckEnd
  repeat'
    first
      | intro q | with_reducible assumption | with_reducible apply insRun_keeps | with_reducible apply setV_keeps
      | with_reducible apply Keeps.ite | extract_lets | dsimp +zetaDelta only

theorem idleProof_keeps (stall : Nat) (held : Bool) (h : Keeps r s) : Keeps r (idleProof stall held s) := by
  unfold idleProof
  repeat'
    first
      | intro q | with_reducible assumption | with_reducible apply trigger_keeps | with_reducible apply Keeps.ite | extract_lets
      | dsimp +zetaDelta only

theorem dutyApply_keeps (stall : Nat) (h : Keeps r s) : Keeps r (dutyApply stall s) := by
  unfold dutyApply
  repeat'
    first
      | intro q | with_reducible assumption | with_reducible apply hwf_keeps | with_reducible apply setV_keeps
      | with_reducible apply vehicleLift_keeps | with_reducible apply Keeps.ite | extract_lets | dsimp +zetaDelta only

theorem pilotDutyApply_keeps (stall : Nat) (h : Keeps r s) : Keeps r (pilotDutyApply stall s) := by
  unfold pilotDutyApply
  repeat'
    first
      | intro q | with_reducible assumption | with_reducible apply dutyApply_keeps | with_reducible apply Keeps.ite
      | extract_lets | dsimp +zetaDelta only

theorem ppAccept_keeps (stall : Nat) (code : Nat) (h : Keeps r s) : Keeps r (ppAccept stall code s) := by
  unfold ppAccept
  repeat'
    first
      | intro q | with_reducible assumption | with_reducible apply hwf_keeps | with_reducible apply evt_keeps
      | with_reducible apply trigger_keeps | with_reducible apply lostContact_keeps | with_reducible apply Keeps.ite
      | extract_lets | dsimp +zetaDelta only

theorem ppAccepted_keeps (stall : Nat) (ohms : Nat) (h : Keeps r s) : Keeps r (ppAccepted stall ohms s) := by
  unfold ppAccepted
  repeat'
    first
      | intro q | with_reducible assumption | with_reducible apply ppAccept_keeps | with_reducible apply hwf_keeps
      | with_reducible apply Keeps.ite | extract_lets | dsimp +zetaDelta only

theorem grantActs_keeps (stall : Nat) (g : Nat) (h : Keeps r s) : Keeps r (grantActs stall g s) := by
  unfold grantActs
  repeat'
    first
      | intro q | with_reducible assumption | with_reducible apply trigger_keeps | with_reducible apply setV_keeps
      | with_reducible apply hwf_keeps | with_reducible apply drawn_keeps | with_reducible apply excessRefresh_keeps
      | with_reducible apply dutyRefresh_keeps | with_reducible apply Keeps.ite | extract_lets | dsimp +zetaDelta only

theorem pilotAccepted_keeps (stall : Nat) (hi : Int) (lo : Int) (h : Keeps r s) : Keeps r (pilotAccepted stall hi lo s) := by
  unfold pilotAccepted
  repeat'
    first
      | intro q | with_reducible assumption | with_reducible apply setV_keeps | with_reducible apply dutyApply_keeps
      | with_reducible apply hwf_keeps | with_reducible apply evt_keeps | with_reducible apply trigger_keeps
      | with_reducible apply withdraw_keeps | with_reducible apply hwb_keeps | with_reducible apply vehicleLift_keeps
      | with_reducible apply Keeps.ite | extract_lets | dsimp +zetaDelta only

theorem stlCfgSet_keeps (stall : Nat) (old : Nat) (h : Keeps r s) : Keeps r (stlCfgSet stall old s) := by
  unfold stlCfgSet
  repeat'
    first
      | intro q | with_reducible assumption | with_reducible apply trigger_keeps | with_reducible apply hwf_keeps
      | with_reducible apply Keeps.ite | extract_lets | dsimp +zetaDelta only

theorem pilotInvalid_keeps (stall : Nat) (h : Keeps r s) : Keeps r (pilotInvalid stall s) := by
  unfold pilotInvalid
  repeat'
    first
      | intro q | with_reducible assumption | with_reducible apply hwf_keeps | with_reducible apply setV_keeps
      | with_reducible apply trigger_keeps | with_reducible apply evt_keeps | with_reducible apply Keeps.ite | extract_lets
      | dsimp +zetaDelta only

theorem diodeFault_keeps (stall : Nat) (lo : Int) (h : Keeps r s) : Keeps r (diodeFault stall lo s) := by
  unfold diodeFault
  repeat'
    first
      | intro q | with_reducible assumption | with_reducible apply trigger_keeps | with_reducible apply hwf_keeps
      | with_reducible apply hwb_keeps | with_reducible apply Keeps.ite | extract_lets | dsimp +zetaDelta only

theorem stlEffect_keeps (stall : Nat) (code : Nat) (arg : Nat) (h : Keeps r s) : Keeps r (stlEffect stall code arg s) := by
  unfold stlEffect
  repeat'
    first
      | intro q | with_reducible assumption | with_reducible apply stlTrig_keeps | with_reducible apply Keeps.ite | split
      | extract_lets | dsimp +zetaDelta only

theorem frontEndFail_keeps (stall : Nat) (bit : Nat) (h : Keeps r s) : Keeps r (frontEndFail stall bit s) := by
  unfold frontEndFail
  repeat'
    first
      | intro q | with_reducible assumption | with_reducible apply trigger_keeps | with_reducible apply setV_keeps
      | with_reducible apply Keeps.ite | extract_lets | dsimp +zetaDelta only

theorem overdraw_keeps (stall : Nat) (h : Keeps r s) : Keeps r (overdraw stall s) := by
  unfold overdraw
  repeat'
    first
      | intro q | with_reducible assumption | with_reducible apply trigger_keeps | with_reducible apply lostContact_keeps
      | with_reducible apply Keeps.ite | extract_lets | dsimp +zetaDelta only

theorem excessWindow_keeps (m : Nat) (h : Keeps r s) : Keeps r (excessWindow m s) := by
  unfold excessWindow
  repeat'
    first
      | intro q | with_reducible assumption | with_reducible apply eachBelow_keeps | with_reducible apply excessRefresh_keeps
      | with_reducible apply setV_keeps | with_reducible apply Keeps.ite | extract_lets | dsimp +zetaDelta only

theorem excessWindows_keeps (h : Keeps r s) : Keeps r (excessWindows s) := by
  unfold excessWindows
  repeat'
    first
      | intro q | with_reducible assumption | with_reducible apply eachBelow_keeps | with_reducible apply excessWindow_keeps
      | with_reducible apply Keeps.ite | extract_lets | dsimp +zetaDelta only

theorem ppTimeout_keeps (stall : Nat) (h : Keeps r s) : Keeps r (ppTimeout stall s) := by
  unfold ppTimeout
  repeat'
    first
      | intro q | with_reducible assumption | with_reducible apply ppAccept_keeps | with_reducible apply Keeps.ite
      | extract_lets | dsimp +zetaDelta only

theorem stlPowerOn_keeps (h : Keeps r s) : Keeps r (stlPowerOn s) := by
  unfold stlPowerOn
  repeat'
    first
      | intro q | with_reducible assumption | with_reducible apply eachBelow_keeps | with_reducible apply hw_keeps
      | with_reducible apply setV_keeps | with_reducible apply stlSum_keeps | with_reducible apply Keeps.ite | extract_lets
      | dsimp +zetaDelta only | with_reducible apply Keeps.upd

theorem cableCheckStart_keeps (p : Partition) (stall : Nat) (h : Keeps r s) : Keeps r (cableCheckStart p stall s) := by
  unfold cableCheckStart
  repeat'
    first
      | intro q | with_reducible assumption | with_reducible apply insRun_keeps | with_reducible apply setV_keeps
      | with_reducible apply Keeps.ite | extract_lets | dsimp +zetaDelta only

theorem pullInEnd_keeps (o : Nat) (h : Keeps r s) : Keeps r (pullInEnd o s) := by
  unfold pullInEnd
  repeat'
    first
      | intro q | with_reducible assumption | with_reducible apply drvRefresh_keeps | with_reducible apply setV_keeps
      | with_reducible apply Keeps.ite | extract_lets | dsimp +zetaDelta only

theorem drvFaults_keeps (o : Nat) (h : Keeps r s) : Keeps r (drvFaults o s) := by
  unfold drvFaults
  repeat'
    first
      | intro q | with_reducible assumption | with_reducible apply trip_keeps | with_reducible apply setV_keeps
      | with_reducible apply fault_keeps | with_reducible apply Keeps.ite | split | extract_lets | dsimp +zetaDelta only

theorem drvRaise_keeps (o : Nat) (bits : List Nat) (h : Keeps r s) : Keeps r (drvRaise o bits s) := by
  unfold drvRaise
  repeat'
    first
      | intro q | with_reducible assumption | with_reducible apply drvRefresh_keeps | with_reducible apply hwb_keeps
      | with_reducible apply drvFaultSum_keeps | with_reducible apply evt_keeps | with_reducible apply drvFaults_keeps
      | with_reducible apply Keeps.ite | with_reducible apply foldl_keeps | with_reducible apply foldl_fst_keeps | extract_lets
      | dsimp +zetaDelta only

theorem tripCount_keeps (o : Nat) (h : Keeps r s) : Keeps r (tripCount o s) := by
  unfold tripCount
  repeat'
    first
      | intro q | with_reducible assumption | with_reducible apply inc_keeps | with_reducible apply Keeps.ite | extract_lets
      | dsimp +zetaDelta only

theorem thermalShutdown_keeps (o : Nat) (h : Keeps r s) : Keeps r (thermalShutdown o s) := by
  unfold thermalShutdown
  repeat'
    first
      | intro q | with_reducible assumption | with_reducible apply drvRaise_keeps | with_reducible apply setV_keeps
      | with_reducible apply tripCount_keeps | with_reducible apply Keeps.ite | extract_lets | dsimp +zetaDelta only

theorem shortCircuit_keeps (o : Nat) (us : Nat) (h : Keeps r s) : Keeps r (shortCircuit o us s) := by
  unfold shortCircuit
  repeat'
    first
      | intro q | with_reducible assumption | with_reducible apply thermalShutdown_keeps | with_reducible apply tripCount_keeps
      | with_reducible apply drvRaise_keeps | with_reducible apply setV_keeps | with_reducible apply Keeps.ite | extract_lets
      | dsimp +zetaDelta only

theorem bankActs_keeps (b : Nat) (fresh : Bool) (h : Keeps r s) : Keeps r (bankActs b fresh s) := by
  unfold bankActs
  repeat'
    first
      | intro q | with_reducible assumption | with_reducible apply eachBelow_keeps | with_reducible apply drvRefresh_keeps
      | with_reducible apply evt_keeps | with_reducible apply trip_keeps | with_reducible apply fault_keeps
      | with_reducible apply Keeps.ite | split | extract_lets | dsimp +zetaDelta only

theorem gndRestored_keeps (b : Nat) (h : Keeps r s) : Keeps r (gndRestored b s) := by
  unfold gndRestored
  repeat'
    first
      | intro q | with_reducible assumption | with_reducible apply bankActs_keeps | with_reducible apply hwb_keeps
      | with_reducible apply Keeps.ite | extract_lets | dsimp +zetaDelta only

theorem pulseDrop_keeps (o : Nat) (h : Keeps r s) : Keeps r (pulseDrop o s) := by
  unfold pulseDrop
  repeat'
    first
      | intro q | with_reducible assumption | with_reducible apply giveFree_keeps | with_reducible apply dropEnables_keeps
      | with_reducible apply Keeps.ite | extract_lets | dsimp +zetaDelta only

theorem clampEvent_keeps (o : Nat) (uj : Nat) (inPwm : Bool) (h : Keeps r s) : Keeps r (clampEvent o uj inPwm s) := by
  unfold clampEvent
  repeat'
    first
      | intro q | with_reducible assumption | with_reducible apply inc_keeps | with_reducible apply drvRaise_keeps
      | with_reducible apply setV_keeps | with_reducible apply Keeps.ite | extract_lets | dsimp +zetaDelta only
      | with_reducible apply Keeps.upd

theorem bankOver_keeps (b : Nat) (h : Keeps r s) : Keeps r (bankOver b s) := by
  unfold bankOver
  repeat'
    first
      | intro q | with_reducible assumption | with_reducible apply wrf_keeps | with_reducible apply evt_keeps
      | with_reducible apply setV_keeps | with_reducible apply Keeps.ite | extract_lets | dsimp +zetaDelta only

theorem bankTick_keeps (h : Keeps r s) : Keeps r (bankTick s) := by
  unfold bankTick
  repeat'
    first
      | intro q | with_reducible assumption | with_reducible apply eachBelow_keeps | with_reducible apply setV_keeps
      | with_reducible apply bankOver_keeps | with_reducible apply Keeps.ite | extract_lets | dsimp +zetaDelta only

theorem bankShed_keeps (b : Nat) (h : Keeps r s) : Keeps r (bankShed b s) := by
  unfold bankShed
  repeat'
    first
      | intro q | with_reducible assumption | with_reducible apply bankTick_keeps | with_reducible apply drvRaise_keeps
      | with_reducible apply setV_keeps | with_reducible apply inc_keeps | with_reducible apply Keeps.ite | split | extract_lets
      | dsimp +zetaDelta only

theorem fuseStep_keeps (o : Nat) (ma : Int) (h : Keeps r s) : Keeps r (fuseStep o ma s) := by
  unfold fuseStep
  repeat'
    first
      | intro q | with_reducible assumption | with_reducible apply setV_keeps | with_reducible apply wrf_keeps
      | with_reducible apply drvRaise_keeps | with_reducible apply tripCount_keeps | with_reducible apply Keeps.ite
      | extract_lets | dsimp +zetaDelta only

theorem fuseUpdate_keeps (o : Nat) (h : Keeps r s) : Keeps r (fuseUpdate o s) := by
  unfold fuseUpdate
  repeat'
    first
      | intro q | with_reducible assumption | with_reducible apply fuseStep_keeps | with_reducible apply setV_keeps
      | with_reducible apply Keeps.ite | extract_lets | dsimp +zetaDelta only

theorem drvClear_keeps (o : Nat) (bits : List Nat) (h : Keeps r s) : Keeps r (drvClear o bits s) := by
  unfold drvClear
  repeat'
    first
      | intro q | with_reducible assumption | with_reducible apply drvFaults_keeps | with_reducible apply drvFaultSum_keeps
      | with_reducible apply drvRefresh_keeps | with_reducible apply hwb_keeps | with_reducible apply Keeps.ite
      | with_reducible apply foldl_keeps | with_reducible apply foldl_fst_keeps | extract_lets | dsimp +zetaDelta only

theorem clampHotEnd_keeps (o : Nat) (h : Keeps r s) : Keeps r (clampHotEnd o s) := by
  unfold clampHotEnd
  repeat'
    first
      | intro q | with_reducible assumption | with_reducible apply drvClear_keeps | with_reducible apply Keeps.ite
      | extract_lets | dsimp +zetaDelta only

theorem reenable_keeps (o : Nat) (h : Keeps r s) : Keeps r (reenable o s) := by
  unfold reenable
  repeat'
    first
      | intro q | with_reducible assumption | with_reducible apply hwf_keeps | with_reducible apply setV_keeps
      | with_reducible apply drvClear_keeps | with_reducible apply Keeps.ite | extract_lets | dsimp +zetaDelta only

theorem drvEffect_keeps (b : Nat) (code : Nat) (arg : Nat) (h : Keeps r s) : Keeps r (drvEffect b code arg s) := by
  unfold drvEffect
  repeat'
    first
      | intro q | with_reducible assumption | with_reducible apply setDemand_keeps | with_reducible apply pulseDrop_keeps
      | with_reducible apply reenable_keeps | with_reducible apply Keeps.ite | split | extract_lets | dsimp +zetaDelta only

theorem openLoad_keeps (o : Nat) (h : Keeps r s) : Keeps r (openLoad o s) := by
  unfold openLoad
  repeat'
    first
      | intro q | with_reducible assumption | with_reducible apply drvRaise_keeps | with_reducible apply Keeps.ite
      | extract_lets | dsimp +zetaDelta only

theorem retry_keeps (o : Nat) (h : Keeps r s) : Keeps r (retry o s) := by
  unfold retry
  repeat'
    first
      | intro q | with_reducible assumption | with_reducible apply setV_keeps | with_reducible apply hwf_keeps
      | with_reducible apply drvClear_keeps | with_reducible apply evt_keeps | with_reducible apply Keeps.ite | extract_lets
      | dsimp +zetaDelta only

theorem vauxWatch_keeps (b : Nat) (mv : Int) (h : Keeps r s) : Keeps r (vauxWatch b mv s) := by
  unfold vauxWatch
  repeat'
    first
      | intro q | with_reducible assumption | with_reducible apply eachBelow_keeps | with_reducible apply setV_keeps
      | with_reducible apply Keeps.ite | extract_lets | dsimp +zetaDelta only

theorem vauxSet_keeps (b : Nat) (mv : Int) (h : Keeps r s) : Keeps r (vauxSet b mv s) := by
  unfold vauxSet
  repeat'
    first
      | intro q | with_reducible assumption | with_reducible apply wrf_keeps | with_reducible apply setV_keeps
      | with_reducible apply Keeps.ite | extract_lets | dsimp +zetaDelta only

theorem vauxCondition_keeps (b : Nat) (mv : Int) (h : Keeps r s) : Keeps r (vauxCondition b mv s) := by
  unfold vauxCondition
  repeat'
    first
      | intro q | with_reducible assumption | with_reducible apply vauxWatch_keeps | with_reducible apply vauxSet_keeps
      | with_reducible apply hwb_keeps | with_reducible apply inc_keeps | with_reducible apply bankActs_keeps
      | with_reducible apply Keeps.ite | extract_lets | dsimp +zetaDelta only

theorem vauxRelease_keeps (b : Nat) (mv : Int) (h : Keeps r s) : Keeps r (vauxRelease b mv s) := by
  unfold vauxRelease
  repeat'
    first
      | intro q | with_reducible assumption | with_reducible apply vauxWatch_keeps | with_reducible apply vauxSet_keeps
      | with_reducible apply bankActs_keeps | with_reducible apply eachBelow_keeps | with_reducible apply hwb_keeps
      | with_reducible apply Keeps.ite | extract_lets | dsimp +zetaDelta only

theorem powerTick_keeps (h : Keeps r s) : Keeps r (powerTick s) := by
  unfold powerTick
  repeat'
    first
      | intro q | with_reducible assumption | with_reducible apply eachBelow_keeps | with_reducible apply setV_keeps
      | with_reducible apply wrf_keeps | with_reducible apply evt_keeps | with_reducible apply Keeps.ite | extract_lets
      | dsimp +zetaDelta only

theorem drvPowerOn_keeps (h : Keeps r s) : Keeps r (drvPowerOn s) := by
  unfold drvPowerOn
  repeat'
    first
      | intro q | with_reducible assumption | with_reducible apply drvFaults_keeps
      | with_reducible apply eachBelow_keeps | with_reducible apply hw_keeps
      | with_reducible apply setV_keeps | with_reducible apply hwf_keeps | with_reducible apply drvFaultSum_keeps
      | with_reducible apply drvRefresh_keeps | with_reducible apply Keeps.ite | extract_lets | dsimp +zetaDelta only
      | with_reducible apply Keeps.upd

theorem drvCurveSet_keeps (o : Nat) (h : Keeps r s) : Keeps r (drvCurveSet o s) := by
  unfold drvCurveSet
  repeat'
    first
      | intro q | with_reducible assumption | with_reducible apply wrf_keeps | with_reducible apply setDemand_keeps
      | with_reducible apply drvRefresh_keeps | with_reducible apply Keeps.ite | extract_lets | dsimp +zetaDelta only

theorem currentMeasurement_keeps (o : Nat) (ma : Int) (mv10 : Int) (tj : Int) (h : Keeps r s) : Keeps r (currentMeasurement o ma
    mv10 tj s) := by
  unfold currentMeasurement
  repeat'
    first
      | intro q | with_reducible assumption | with_reducible apply wr_keeps | with_reducible apply bankTick_keeps
      | with_reducible apply powerTick_keeps | with_reducible apply wrf_keeps | with_reducible apply addV_keeps
      | with_reducible apply setV_keeps | with_reducible apply drvClear_keeps | with_reducible apply Keeps.ite | extract_lets
      | dsimp +zetaDelta only

theorem gndLoss_keeps (b : Nat) (h : Keeps r s) : Keeps r (gndLoss b s) := by
  unfold gndLoss
  repeat'
    first
      | intro q | with_reducible assumption | with_reducible apply bankActs_keeps | with_reducible apply hwb_keeps
      | with_reducible apply Keeps.ite | extract_lets | dsimp +zetaDelta only

theorem retriesRestore_keeps (o : Nat) (h : Keeps r s) : Keeps r (retriesRestore o s) := by
  unfold retriesRestore
  repeat'
    first
      | intro q | with_reducible assumption | with_reducible apply hwf_keeps | with_reducible apply Keeps.ite | extract_lets
      | dsimp +zetaDelta only

theorem feedLost_keeps (h : Keeps r s) : Keeps r (feedLost s) := by
  unfold feedLost
  repeat'
    first
      | intro q | with_reducible assumption | with_reducible apply commonOnce_keeps | with_reducible apply setV_keeps
      | with_reducible apply hwb_keeps | with_reducible apply Keeps.ite | extract_lets | dsimp +zetaDelta only

theorem proofOver_keeps (stall : Nat) (h : Keeps r s) : Keeps r (proofOver stall s) := by
  unfold proofOver
  repeat'
    first
      | intro q | with_reducible assumption | with_reducible apply withdraw_keeps | with_reducible apply hwb_keeps
      | with_reducible apply setV_keeps | with_reducible apply Keeps.ite | extract_lets | dsimp +zetaDelta only

theorem proofPass_keeps (stall : Nat) (h : Keeps r s) : Keeps r (proofPass stall s) := by
  unfold proofPass
  repeat'
    first
      | intro q | with_reducible assumption | with_reducible apply proofOver_keeps | with_reducible apply evt_keeps
      | with_reducible apply inc_keeps | with_reducible apply setV_keeps | with_reducible apply proofRec_keeps
      | with_reducible apply hwf_keeps | with_reducible apply fault_keeps | with_reducible apply hwb_keeps
      | with_reducible apply Keeps.ite | extract_lets | dsimp +zetaDelta only

theorem proofFail_keeps (stall : Nat) (fb : Nat) (welded : Bool) (h : Keeps r s) : Keeps r (proofFail stall fb welded s) := by
  unfold proofFail
  repeat'
    first
      | intro q | with_reducible assumption | with_reducible apply proofRec_keeps | with_reducible apply tripAs_keeps
      | with_reducible apply proofOver_keeps | with_reducible apply Keeps.ite | extract_lets | dsimp +zetaDelta only

theorem proofStep_keeps (stall : Nat) (k : Nat) (h : Keeps r s) : Keeps r (proofStep stall k s) := by
  unfold proofStep
  repeat'
    first
      | intro q | with_reducible assumption | with_reducible apply setV_keeps | with_reducible apply setDemand_keeps
      | with_reducible apply setEnables_keeps | with_reducible apply drvRefresh_keeps | with_reducible apply hwb_keeps
      | with_reducible apply Keeps.ite | split | extract_lets | dsimp +zetaDelta only

theorem proofGoOn_keeps (stall : Nat) (h : Keeps r s) : Keeps r (proofGoOn stall s) := by
  unfold proofGoOn
  repeat'
    first
      | intro q | with_reducible assumption | with_reducible apply proofPass_keeps | with_reducible apply proofFail_keeps
      | with_reducible apply proofStep_keeps | with_reducible apply setDemand_keeps | with_reducible apply dropEnables_keeps
      | with_reducible apply Keeps.ite | split | extract_lets | dsimp +zetaDelta only

theorem proofStart_keeps (stall : Nat) (h : Keeps r s) : Keeps r (proofStart stall s) := by
  unfold proofStart
  repeat'
    first
      | intro q | with_reducible assumption | with_reducible apply proofStep_keeps | with_reducible apply hwb_keeps
      | with_reducible apply Keeps.ite | extract_lets | dsimp +zetaDelta only

theorem proofTest_keeps (stall : Nat) (h : Keeps r s) : Keeps r (proofTest stall s) := by
  unfold proofTest
  repeat'
    first
      | intro q | with_reducible assumption | with_reducible apply proofGoOn_keeps | with_reducible apply proofStart_keeps
      | with_reducible apply Keeps.ite | extract_lets | dsimp +zetaDelta only

theorem enablesReturn_keeps (h : Keeps r s) : Keeps r (enablesReturn s) := by
  unfold enablesReturn
  repeat'
    first
      | intro q | with_reducible assumption | with_reducible apply eachBelow_keeps | with_reducible apply giveFree_keeps
      | with_reducible apply setEnables_keeps | with_reducible apply Keeps.ite | split | extract_lets | dsimp +zetaDelta only

theorem untrip_keeps (stall : Nat) (h : Keeps r s) : Keeps r (untrip stall s) := by
  unfold untrip
  repeat'
    first
      | intro q | with_reducible assumption | with_reducible apply hwb_keeps | with_reducible apply tripOuts_keeps
      | with_reducible apply enablesReturn_keeps | with_reducible apply lockRefresh_keeps | with_reducible apply Keeps.ite
      | extract_lets | dsimp +zetaDelta only

theorem releaseStall_keeps (stall : Nat) (h : Keeps r s) : Keeps r (releaseStall stall s) := by
  unfold releaseStall
  repeat'
    first
      | intro q | with_reducible assumption | with_reducible apply untrip_keeps | with_reducible apply submit_keeps
      | with_reducible apply faultMove_keeps | with_reducible apply Keeps.ite | extract_lets | dsimp +zetaDelta only
      | with_reducible apply Keeps.upd

theorem fbCloseTimeout_keeps (stall : Nat) (h : Keeps r s) : Keeps r (fbCloseTimeout stall s) := by
  unfold fbCloseTimeout
  repeat'
    first
      | intro q | with_reducible assumption | with_reducible apply trip_keeps | with_reducible apply Keeps.ite | extract_lets
      | dsimp +zetaDelta only

theorem driveFault_keeps (o : Nat) (h : Keeps r s) : Keeps r (driveFault o s) := by
  unfold driveFault
  repeat'
    first
      | intro q | with_reducible assumption | with_reducible apply setV_keeps | with_reducible apply trip_keeps
      | with_reducible apply drvFaults_keeps | with_reducible apply Keeps.ite | split | extract_lets | dsimp +zetaDelta only

theorem isoEvaluate_keeps (stall : Nat) (h : Keeps r s) : Keeps r (isoEvaluate stall s) := by
  unfold isoEvaluate
  repeat'
    first
      | intro q | with_reducible assumption | with_reducible apply drawn_keeps | with_reducible apply hw_keeps
      | with_reducible apply hwb_keeps | with_reducible apply submit_keeps | with_reducible apply evt_keeps
      | with_reducible apply trip_keeps | with_reducible apply Keeps.ite | extract_lets | dsimp +zetaDelta only

theorem isoAdd_keeps (stall : Nat) (f : State.FeedStall) (h : Keeps r s) : Keeps r (isoAdd stall f s) := by
  unfold isoAdd
  repeat'
    first
      | intro q | with_reducible assumption | with_reducible apply addV_keeps | with_reducible apply setV_keeps | split

theorem isoClose_keeps (stall : Nat) (high : Bool) (h : Keeps r s) : Keeps r (isoClose stall high s) := by
  unfold isoClose
  repeat'
    first
      | intro q | with_reducible assumption | with_reducible apply isoEvaluate_keeps | with_reducible apply setV_keeps
      | with_reducible apply Keeps.ite | extract_lets | dsimp +zetaDelta only

theorem isoBlock_keeps (stall : Nat) (b : Nat) (f : State.FeedStall) (h : Keeps r s) : Keeps r (isoBlock stall b f s) := by
  unfold isoBlock
  repeat'
    first
      | intro q | with_reducible assumption | with_reducible apply isoAdd_keeps | with_reducible apply isoClose_keeps
      | with_reducible apply Keeps.ite | extract_lets | dsimp +zetaDelta only

theorem fastLoad_keeps (h : Keeps r s) : Keeps r (fastLoad s) := by
  unfold fastLoad
  repeat'
    first
      | intro q | with_reducible assumption | with_reducible apply Keeps.ite | extract_lets | dsimp +zetaDelta only
      | with_reducible apply Keeps.upd

theorem pulseStart_keeps (o : Nat) (ch : Nat) (h : Keeps r s) : Keeps r (pulseStart o ch s) := by
  unfold pulseStart
  repeat'
    first
      | intro q | with_reducible assumption | with_reducible apply drvRefresh_keeps | with_reducible apply hwb_keeps
      | with_reducible apply setV_keeps | with_reducible apply Keeps.ite | extract_lets | dsimp +zetaDelta only

theorem pulseRetry_keeps (o : Nat) (h : Keeps r s) : Keeps r (pulseRetry o s) := by
  unfold pulseRetry
  repeat'
    first
      | intro q | with_reducible assumption | with_reducible apply inc_keeps | with_reducible apply setV_keeps
      | with_reducible apply pulseStart_keeps | with_reducible apply Keeps.ite | extract_lets | dsimp +zetaDelta only

theorem insFlip_keeps (stall : Nat) (k : Nat) (h : Keeps r s) : Keeps r (insFlip stall k s) := by
  unfold insFlip
  repeat'
    first
      | intro q | with_reducible assumption | with_reducible apply isoClose_keeps | with_reducible apply setV_keeps
      | with_reducible apply insSw_keeps | with_reducible apply Keeps.ite | extract_lets | dsimp +zetaDelta only

theorem insStep_keeps (stall : Nat) (o : Option Nat) (h : Keeps r s) : Keeps r (insStep stall o s) := by
  unfold insStep
  repeat'
    first
      | intro q | with_reducible assumption | with_reducible apply setV_keeps | with_reducible apply insSw_keeps
      | with_reducible apply insFlip_keeps | with_reducible apply Keeps.ite | split | extract_lets | dsimp +zetaDelta only

theorem confirmOpen_keeps (stall : Nat) (h : Keeps r s) : Keeps r (confirmOpen stall s) := by
  unfold confirmOpen
  repeat'
    first
      | intro q | with_reducible assumption | with_reducible apply trigger_keeps | with_reducible apply lockRefresh_keeps
      | with_reducible apply setV_keeps | with_reducible apply instantReadings_keeps | with_reducible apply Keeps.ite
      | extract_lets | dsimp +zetaDelta only | with_reducible apply Keeps.upd

theorem fbSupervise_keeps (stall : Nat) (h : Keeps r s) : Keeps r (fbSupervise stall s) := by
  unfold fbSupervise
  repeat'
    first
      | intro q | with_reducible assumption | with_reducible apply hwb_keeps | with_reducible apply trigger_keeps
      | with_reducible apply setV_keeps | with_reducible apply trip_keeps | with_reducible apply confirmOpen_keeps
      | with_reducible apply lockRefresh_keeps | with_reducible apply Keeps.ite | split | extract_lets | dsimp +zetaDelta only

theorem currentBlock_keeps (stall : Nat) (f : State.FeedStall) (h : Keeps r s) : Keeps r (currentBlock stall f s) := by
  unfold currentBlock
  repeat'
    first
      | intro q | with_reducible assumption | with_reducible apply setV_keeps | with_reducible apply fbSupervise_keeps
      | with_reducible apply withdraw_keeps | with_reducible apply Keeps.ite | split | extract_lets | dsimp +zetaDelta only

theorem commonEnds_keeps (h : Keeps r s) : Keeps r (commonEnds s) := by
  unfold commonEnds
  repeat'
    first
      | intro q | with_reducible assumption | with_reducible apply hwb_keeps | with_reducible apply eachBelow_keeps
      | with_reducible apply untrip_keeps | with_reducible apply evt_keeps | with_reducible apply tripOuts_keeps
      | with_reducible apply enablesReturn_keeps | with_reducible apply Keeps.ite | extract_lets | dsimp +zetaDelta only
      | with_reducible apply Keeps.upd

theorem sourcesSeen_keeps (h : Keeps r s) : Keeps r (sourcesSeen s) := by
  unfold sourcesSeen
  repeat'
    first
      | intro q | with_reducible assumption | with_reducible apply each_keeps | with_reducible apply setV_keeps
      | with_reducible apply Keeps.ite | extract_lets | dsimp +zetaDelta only

theorem fbOpenTimeout_keeps (stall : Nat) (h : Keeps r s) : Keeps r (fbOpenTimeout stall s) := by
  unfold fbOpenTimeout
  repeat'
    first
      | intro q | with_reducible assumption | with_reducible apply trip_keeps | with_reducible apply instantReadings_keeps
      | with_reducible apply Keeps.ite | extract_lets | dsimp +zetaDelta only | with_reducible apply Keeps.upd

theorem fastCopy_keeps (i : Nat) (h : Keeps r s) : Keeps r (fastCopy i s) := by
  unfold fastCopy
  repeat'
    first
      | intro q | with_reducible assumption | with_reducible apply Keeps.ite | extract_lets | dsimp +zetaDelta only
      | with_reducible apply Keeps.upd

theorem requestRec_keeps (p : Partition) (stall : Nat) (kind : Nat) (ok : Bool) (q : Nat) (h : Keeps r s) : Keeps r (requestRec
    p stall kind ok q s) := by
  unfold requestRec
  repeat'
    first
      | intro q | with_reducible assumption | with_reducible apply submit_keeps | with_reducible apply Keeps.ite | split
      | extract_lets | dsimp +zetaDelta only

theorem fbChange_keeps (i : Nat) (open_ : Bool) (h : Keeps r s) : Keeps r (fbChange i open_ s) := by
  unfold fbChange
  repeat'
    first
      | intro q | with_reducible assumption | with_reducible apply sourcesSeen_keeps | with_reducible apply setV_keeps
      | with_reducible apply eachBelow_keeps | with_reducible apply proofGoOn_keeps | with_reducible apply fbSupervise_keeps
      | with_reducible apply Keeps.ite | extract_lets | dsimp +zetaDelta only

theorem pulseEnd_keeps (o : Nat) (passed : Bool) (h : Keeps r s) : Keeps r (pulseEnd o passed s) := by
  unfold pulseEnd
  repeat'
    first
      | intro q | with_reducible assumption | with_reducible apply drvRefresh_keeps | with_reducible apply hwb_keeps
      | with_reducible apply setV_keeps | with_reducible apply inc_keeps | with_reducible apply evt_keeps
      | with_reducible apply trip_keeps | with_reducible apply fault_keeps | with_reducible apply dropEnables_keeps
      | with_reducible apply Keeps.ite | split | extract_lets | dsimp +zetaDelta only

theorem insToggle_keeps (stall : Nat) (h : Keeps r s) : Keeps r (insToggle stall s) := by
  unfold insToggle
  repeat'
    first
      | intro q | with_reducible assumption | with_reducible apply insStep_keeps | with_reducible apply Keeps.ite | extract_lets
      | dsimp +zetaDelta only

theorem tinScope_keeps (k : Nat) (h : Keeps r s) : Keeps r (tinScope k s) := by
  unfold tinScope
  repeat'
    first
      | intro q | with_reducible assumption | with_reducible apply tripMask_keeps | with_reducible apply commonOnce_keeps
      | with_reducible apply Keeps.ite | extract_lets | dsimp +zetaDelta only

theorem tinRec_keeps (k : Nat) (st : Nat) (h : Keeps r s) : Keeps r (tinRec k st s) := by
  unfold tinRec
  repeat'
    first
      | intro q | with_reducible assumption | with_reducible apply submit_keeps | with_reducible apply Keeps.ite | extract_lets
      | dsimp +zetaDelta only

theorem tinRefresh_keeps (k : Nat) (h : Keeps r s) : Keeps r (tinRefresh k s) := by
  unfold tinRefresh
  repeat'
    first
      | intro q | with_reducible assumption | with_reducible apply tripOuts_keeps | with_reducible apply hwb_keeps
      | with_reducible apply tinScope_keeps | with_reducible apply tinRec_keeps | with_reducible apply evt_keeps
      | with_reducible apply Keeps.ite | extract_lets | dsimp +zetaDelta only

theorem tripFilter_keeps (k : Nat) (h : Keeps r s) : Keeps r (tripFilter k s) := by
  unfold tripFilter
  repeat'
    first
      | intro q | with_reducible assumption | with_reducible apply tinRefresh_keeps | with_reducible apply setV_keeps
      | with_reducible apply Keeps.ite | extract_lets | dsimp +zetaDelta only

theorem closeContactors_keeps (stall : Nat) (h : Keeps r s) : Keeps r (closeContactors stall s) := by
  unfold closeContactors
  repeat'
    first
      | intro q | with_reducible assumption | with_reducible apply setDemand_keeps | with_reducible apply setEnables_keeps
      | with_reducible apply setV_keeps | with_reducible apply hwb_keeps | with_reducible apply inc_keeps
      | with_reducible apply instantReadings_keeps | with_reducible apply sessMap_keeps | with_reducible apply Keeps.ite
      | with_reducible apply foldl_keeps | with_reducible apply foldl_fst_keeps | extract_lets | dsimp +zetaDelta only

theorem chatter_keeps (k : Nat) (h : Keeps r s) : Keeps r (chatter k s) := by
  unfold chatter
  repeat'
    first
      | intro q | with_reducible assumption | with_reducible apply hwb_keeps | with_reducible apply tinRefresh_keeps
      | with_reducible apply tinRec_keeps | with_reducible apply Keeps.ite | extract_lets | dsimp +zetaDelta only

theorem residualTrip_keeps (stall : Nat) (dc : Bool) (h : Keeps r s) : Keeps r (residualTrip stall dc s) := by
  unfold residualTrip
  repeat'
    first
      | intro q | with_reducible assumption | with_reducible apply trip_keeps | with_reducible apply Keeps.ite | extract_lets
      | dsimp +zetaDelta only

theorem rcBlock_keeps (stall : Nat) (f : State.FeedStall) (h : Keeps r s) : Keeps r (rcBlock stall f s) := by
  unfold rcBlock
  repeat'
    first
      | intro q | with_reducible assumption | with_reducible apply hw_keeps | with_reducible apply eachBelow_keeps
      | with_reducible apply addV_keeps | with_reducible apply setV_keeps | with_reducible apply residualTrip_keeps
      | with_reducible apply Keeps.ite | split | extract_lets | dsimp +zetaDelta only

theorem disagree_keeps (h : Keeps r s) : Keeps r (disagree s) := by
  unfold disagree
  repeat'
    first
      | intro q | with_reducible assumption | with_reducible apply commonOnce_keeps | with_reducible apply evt_keeps
      | with_reducible apply inc_keeps | with_reducible apply hwb_keeps | with_reducible apply Keeps.ite | extract_lets
      | dsimp +zetaDelta only

theorem releaseCommon_keeps (h : Keeps r s) : Keeps r (releaseCommon s) := by
  unfold releaseCommon
  repeat'
    first
      | intro q | with_reducible assumption | with_reducible apply commonEnds_keeps | with_reducible apply hwf_keeps
      | with_reducible apply hwb_keeps | with_reducible apply each_keeps | with_reducible apply faultMove_keeps
      | with_reducible apply submit_keeps | with_reducible apply Keeps.ite | split | extract_lets | dsimp +zetaDelta only
      | with_reducible apply Keeps.upd

theorem safetyRelease_keeps (target : Option Nat) (h : Keeps r s) : Keeps r (safetyRelease target s) := by
  unfold safetyRelease
  repeat'
    first
      | intro q | with_reducible assumption | with_reducible apply releaseStall_keeps | with_reducible apply sourcesSeen_keeps
      | with_reducible apply releaseCommon_keeps | with_reducible apply Keeps.ite | split | extract_lets | dsimp +zetaDelta only

theorem feedBlock_keeps (b : Nat) (h : Keeps r s) : Keeps r (feedBlock b s) := by
  unfold feedBlock
  repeat'
    first
      | intro q | with_reducible assumption | with_reducible apply eachBelow_keeps | with_reducible apply currentBlock_keeps
      | with_reducible apply rcBlock_keeps | with_reducible apply isoBlock_keeps | with_reducible apply hwf_keeps
      | with_reducible apply setV_keeps | with_reducible apply Keeps.ite | extract_lets | dsimp +zetaDelta only

theorem feedRecord_keeps (seq : Nat) (h : Keeps r s) : Keeps r (feedRecord seq s) := by
  unfold feedRecord
  repeat'
    first
      | intro q | with_reducible assumption | with_reducible apply setV_keeps | with_reducible apply wrf_keeps
      | with_reducible apply feedBlock_keeps | with_reducible apply Keeps.ite | extract_lets | dsimp +zetaDelta only

theorem ackTrip_keeps (k : Nat) (h : Keeps r s) : Keeps r (ackTrip k s) := by
  unfold ackTrip
  repeat'
    first
      | intro q | with_reducible assumption | with_reducible apply tinRefresh_keeps | with_reducible apply hwb_keeps
      | with_reducible apply sourcesSeen_keeps | with_reducible apply Keeps.ite | extract_lets | dsimp +zetaDelta only

theorem closeRequest_keeps (p : Partition) (stall : Nat) (q : Nat) (h : Keeps r s) : Keeps r (closeRequest p stall q s) := by
  unfold closeRequest
  repeat'
    first
      | intro q | with_reducible assumption | with_reducible apply inc_keeps | with_reducible apply setV_keeps
      | with_reducible apply requestRec_keeps | with_reducible apply fbSupervise_keeps
      | with_reducible apply closeContactors_keeps | with_reducible apply Keeps.ite | extract_lets | dsimp +zetaDelta only

theorem proofOverdue_keeps (stall : Nat) (h : Keeps r s) : Keeps r (proofOverdue stall s) := by
  unfold proofOverdue
  repeat'
    first
      | intro q | with_reducible assumption | with_reducible apply fault_keeps | with_reducible apply hwb_keeps
      | with_reducible apply Keeps.ite | extract_lets | dsimp +zetaDelta only

theorem channelExchange_keeps (verdictsDiffer : Bool) (h : Keeps r s) : Keeps r (channelExchange verdictsDiffer s) := by
  unfold channelExchange
  repeat'
    first
      | intro q | with_reducible assumption | with_reducible apply eachBelow_keeps | with_reducible apply proofGoOn_keeps
      | with_reducible apply fbSupervise_keeps | with_reducible apply sourcesSeen_keeps | with_reducible apply setV_keeps
      | with_reducible apply Keeps.ite | extract_lets | dsimp +zetaDelta only

theorem tripOutHoldEnd_keeps (j : Nat) (h : Keeps r s) : Keeps r (tripOutHoldEnd j s) := by
  unfold tripOutHoldEnd
  repeat'
    first
      | intro q | with_reducible assumption | with_reducible apply tripOutRefresh_keeps | with_reducible apply setV_keeps
      | with_reducible apply hwb_keeps | with_reducible apply Keeps.ite | extract_lets | dsimp +zetaDelta only

theorem overcurrent_keeps (i : Nat) (h : Keeps r s) : Keeps r (overcurrent i s) := by
  unfold overcurrent
  repeat'
    first
      | intro q | with_reducible assumption | with_reducible apply commonOnce_keeps | with_reducible apply each_keeps
      | with_reducible apply trip_keeps | with_reducible apply Keeps.ite | extract_lets | dsimp +zetaDelta only

theorem fastPathTimeout_keeps (h : Keeps r s) : Keeps r (fastPathTimeout s) := by
  unfold fastPathTimeout
  repeat'
    first
      | intro q | with_reducible assumption | with_reducible apply commonOnce_keeps | with_reducible apply Keeps.ite
      | extract_lets | dsimp +zetaDelta only

theorem chatterEnd_keeps (k : Nat) (h : Keeps r s) : Keeps r (chatterEnd k s) := by
  unfold chatterEnd
  repeat'
    first
      | intro q | with_reducible assumption | with_reducible apply tinRefresh_keeps | with_reducible apply tinRec_keeps
      | with_reducible apply hwb_keeps | with_reducible apply sourcesSeen_keeps | with_reducible apply Keeps.ite | extract_lets
      | dsimp +zetaDelta only

theorem channelLoss_keeps (c : Nat) (osc : Bool) (h : Keeps r s) : Keeps r (channelLoss c osc s) := by
  unfold channelLoss
  repeat'
    first
      | intro q | with_reducible assumption | with_reducible apply hwb_keeps | with_reducible apply fault_keeps
      | with_reducible apply commonOnce_keeps | with_reducible apply Keeps.ite | extract_lets | dsimp +zetaDelta only

theorem tripInChange_keeps (k : Nat) (high : Bool) (h : Keeps r s) : Keeps r (tripInChange k high s) := by
  unfold tripInChange
  repeat'
    first
      | intro q | with_reducible assumption | with_reducible apply sourcesSeen_keeps | with_reducible apply setV_keeps
      | with_reducible apply hwb_keeps | with_reducible apply tinRefresh_keeps | with_reducible apply Keeps.ite | extract_lets
      | dsimp +zetaDelta only | with_reducible apply Keeps.upd

theorem pulseDue_keeps (o : Nat) (h : Keeps r s) : Keeps r (pulseDue o s) := by
  unfold pulseDue
  repeat'
    first
      | intro q | with_reducible assumption | with_reducible apply pulseStart_keeps | with_reducible apply setV_keeps
      | with_reducible apply Keeps.ite | extract_lets | dsimp +zetaDelta only

theorem releaseOut_keeps (o : Nat) (h : Keeps r s) : Keeps r (releaseOut o s) := by
  unfold releaseOut
  repeat'
    first
      | intro q | with_reducible assumption | with_reducible apply setV_keeps | with_reducible apply hwb_keeps
      | with_reducible apply sourcesSeen_keeps | with_reducible apply fault_keeps | with_reducible apply giveFree_keeps
      | with_reducible apply Keeps.ite | extract_lets | dsimp +zetaDelta only

theorem openRequest_keeps (p : Partition) (stall : Nat) (kind : OpenKind) (q : Nat) (h : Keeps r s) : Keeps r (openRequest p
    stall kind q s) := by
  unfold openRequest
  repeat'
    first
      | intro q | with_reducible assumption | with_reducible apply fbSupervise_keeps | with_reducible apply withdraw_keeps
      | with_reducible apply inc_keeps | with_reducible apply requestRec_keeps | with_reducible apply setV_keeps
      | with_reducible apply Keeps.ite | split | extract_lets | dsimp +zetaDelta only

theorem pqSheaf_keeps (seq : Nat) (body : List (Nat × Nat)) (h : Keeps r s) : Keeps r (pqSheaf seq body s) := by
  unfold pqSheaf
  repeat'
    first
      | intro q | with_reducible assumption | with_reducible apply quePlace_keeps | with_reducible apply inc_keeps
      | with_reducible apply evt_keeps | with_reducible apply Keeps.ite | extract_lets | dsimp +zetaDelta only

theorem pqJournal_keeps (r' : PqRec) (h : Keeps r s) : Keeps r (pqJournal r' s) := by
  unfold pqJournal
  repeat'
    first
      | intro q | with_reducible assumption | with_reducible apply hw_keeps | with_reducible apply pqSheaf_keeps
      | with_reducible apply submitAt_keeps | with_reducible apply Keeps.ite | extract_lets | dsimp +zetaDelta only

theorem pqFlush_keeps (h : Keeps r s) : Keeps r (pqFlush s) := by
  unfold pqFlush
  repeat'
    first
      | intro q | with_reducible assumption | with_reducible apply each_keeps | with_reducible apply pqJournal_keeps
      | with_reducible apply Keeps.ite | with_reducible apply foldl_keeps | with_reducible apply foldl_fst_keeps | extract_lets
      | dsimp +zetaDelta only | with_reducible apply Keeps.upd

theorem pqRecord_keeps (det : Nat) (at_ : Nat) (code : Nat) (flags : Nat) (c : Nat) (ext : Nat) (dur : Nat) (h : Keeps r s) :
    Keeps r (pqRecord det at_ code flags c ext dur s) := by
  unfold pqRecord
  repeat'
    first
      | intro q | with_reducible assumption | with_reducible apply Keeps.ite | extract_lets | dsimp +zetaDelta only
      | with_reducible apply Keeps.upd

theorem pqOpenEvent_keeps (d : Nat) (at_ : Nat) (c : Nat) (ext : Nat) (ch : Nat) (h : Keeps r s) : Keeps r (pqOpenEvent d at_ c
    ext ch s) := by
  unfold pqOpenEvent
  repeat'
    first
      | intro q | with_reducible assumption | with_reducible apply setV_keeps | with_reducible apply evt_keeps
      | with_reducible apply inc_keeps | with_reducible apply pqRecord_keeps | with_reducible apply Keeps.ite | extract_lets
      | dsimp +zetaDelta only | with_reducible apply Keeps.upd

theorem peakSample_keeps (i : Nat) (c : Nat) (x : State.Fast) (h : Keeps r s) : Keeps r (peakSample i c x s) := by
  unfold peakSample
  repeat'
    first
      | intro q | with_reducible assumption | with_reducible apply setV_keeps | with_reducible apply hwf_keeps
      | with_reducible apply evt_keeps | with_reducible apply hwb_keeps | with_reducible apply pqOpenEvent_keeps
      | with_reducible apply Keeps.ite | extract_lets | dsimp +zetaDelta only

theorem fastSample_keeps (i : Nat) (m : Nat) (dt : Nat) (line : Nat) (h : Keeps r s) : Keeps r (fastSample i m dt line s) := by
  unfold fastSample
  repeat'
    first
      | intro q | with_reducible assumption | with_reducible apply peakSample_keeps | with_reducible apply fastPeak_keeps
      | with_reducible apply setV_keeps | with_reducible apply Keeps.ite | extract_lets | dsimp +zetaDelta only

theorem overcurrentDecision_keeps (i : Nat) (h : Keeps r s) : Keeps r (overcurrentDecision i s) := by
  unfold overcurrentDecision
  repeat'
    first
      | intro q | with_reducible assumption | with_reducible apply overcurrent_keeps | with_reducible apply setV_keeps
      | with_reducible apply Keeps.ite | extract_lets | dsimp +zetaDelta only

theorem pqCloseEvent_keeps (d : Nat) (at_ : Nat) (c : Nat) (uncertain : Bool) (h : Keeps r s) : Keeps r (pqCloseEvent d at_ c
    uncertain s) := by
  unfold pqCloseEvent
  repeat'
    first
      | intro q | with_reducible assumption | with_reducible apply setV_keeps | with_reducible apply pqRecord_keeps
      | with_reducible apply evt_keeps | with_reducible apply hw_keeps | with_reducible apply Keeps.ite | extract_lets
      | dsimp +zetaDelta only

theorem pqSummary_keeps (m : Nat) (h : Keeps r s) : Keeps r (pqSummary m s) := by
  unfold pqSummary
  repeat'
    first
      | intro q | with_reducible assumption | with_reducible apply hwb_keeps | with_reducible apply Keeps.ite | extract_lets
      | dsimp +zetaDelta only

theorem pqCloseMp_keeps (m : Nat) (h : Keeps r s) : Keeps r (pqCloseMp m s) := by
  unfold pqCloseMp
  repeat'
    first
      | intro q | with_reducible assumption | with_reducible apply pqCloseEvent_keeps | with_reducible apply hwb_keeps
      | with_reducible apply pqSummary_keeps | with_reducible apply Keeps.ite | extract_lets | dsimp +zetaDelta only

theorem pqInvalidTimeout_keeps (m : Nat) (h : Keeps r s) : Keeps r (pqInvalidTimeout m s) := by
  unfold pqInvalidTimeout
  repeat'
    first
      | intro q | with_reducible assumption | with_reducible apply each_keeps | with_reducible apply setV_keeps
      | with_reducible apply pqCloseMp_keeps | with_reducible apply Keeps.ite | extract_lets | dsimp +zetaDelta only

theorem pkClose_keeps (i : Nat) (c : Nat) (uncertain : Bool) (h : Keeps r s) : Keeps r (pkClose i c uncertain s) := by
  unfold pkClose
  repeat'
    first
      | intro q | with_reducible assumption | with_reducible apply setV_keeps | with_reducible apply pqCloseEvent_keeps
      | with_reducible apply hwb_keeps | with_reducible apply Keeps.ite | extract_lets | dsimp +zetaDelta only

theorem peakClose_keeps (i : Nat) (h : Keeps r s) : Keeps r (peakClose i s) := by
  unfold peakClose
  repeat'
    first
      | intro q | with_reducible assumption | with_reducible apply pkClose_keeps | with_reducible apply Keeps.ite | extract_lets
      | dsimp +zetaDelta only

theorem pqStop_keeps (m : Nat) (h : Keeps r s) : Keeps r (pqStop m s) := by
  unfold pqStop
  repeat'
    first
      | intro q | with_reducible assumption | with_reducible apply setV_keeps | with_reducible apply pqCloseMp_keeps
      | with_reducible apply eachBelow_keeps | with_reducible apply Keeps.ite | extract_lets | dsimp +zetaDelta only

theorem pqExtreme_keeps (d : Nat) (low : Bool) (h' : Nat → HalfChan) (cs : List Nat) (h : Keeps r s) : Keeps r (pqExtreme d low
    h' cs s) := by
  unfold pqExtreme
  repeat'
    first
      | intro q | with_reducible assumption | with_reducible apply setV_keeps | with_reducible apply Keeps.ite | extract_lets
      | dsimp +zetaDelta only

theorem halfDetect_keeps (m : Nat) (start : Nat) (stop : Nat) (h' : Nat → HalfChan) (h : Keeps r s) : Keeps r (halfDetect m
    start stop h' s) := by
  unfold halfDetect
  repeat'
    first
      | intro q | with_reducible assumption | with_reducible apply pqExtreme_keeps | with_reducible apply pqOpenEvent_keeps
      | with_reducible apply evt_keeps | with_reducible apply hwb_keeps | with_reducible apply setV_keeps
      | with_reducible apply pqCloseEvent_keeps | with_reducible apply pqSummary_keeps | with_reducible apply Keeps.ite
      | extract_lets | dsimp +zetaDelta only

theorem pkCfgSet_keeps (i : Nat) (h : Keeps r s) : Keeps r (pkCfgSet i s) := by
  unfold pkCfgSet
  repeat'
    first
      | intro q | with_reducible assumption | with_reducible apply pkClose_keeps | with_reducible apply Keeps.ite | extract_lets
      | dsimp +zetaDelta only

theorem overcurrentDue_keeps (h : Keeps r s) : Keeps r (overcurrentDue s) := by
  unfold overcurrentDue
  repeat'
    first
      | intro q | with_reducible assumption | with_reducible apply eachBelow_keeps
      | with_reducible apply overcurrentDecision_keeps | with_reducible apply Keeps.ite | extract_lets | dsimp +zetaDelta only

theorem pqMpCfgSet_keeps (m : Nat) (h : Keeps r s) : Keeps r (pqMpCfgSet m s) := by
  unfold pqMpCfgSet
  repeat'
    first
      | intro q | with_reducible assumption | with_reducible apply pqStop_keeps | with_reducible apply Keeps.ite | extract_lets
      | dsimp +zetaDelta only

theorem halfCycleEnd_keeps (m : Nat) (h : Keeps r s) : Keeps r (halfCycleEnd m s) := by
  unfold halfCycleEnd
  repeat'
    first
      | intro q | with_reducible assumption | with_reducible apply setV_keeps | with_reducible apply hwb_keeps
      | with_reducible apply each_keeps | with_reducible apply hw_keeps | with_reducible apply halfDetect_keeps
      | with_reducible apply Keeps.ite | split | extract_lets | dsimp +zetaDelta only

theorem pqCloseAll_keeps (h : Keeps r s) : Keeps r (pqCloseAll s) := by
  unfold pqCloseAll
  repeat'
    first
      | intro q | with_reducible assumption | with_reducible apply eachBelow_keeps | with_reducible apply pqStop_keeps
      | with_reducible apply pkClose_keeps | with_reducible apply Keeps.ite | extract_lets | dsimp +zetaDelta only

theorem balAlarmRec_keeps (g : Nat) (code : Nat) (low : Nat) (h : Keeps r s) : Keeps r (balAlarmRec g code low s) := by
  unfold balAlarmRec
  repeat'
    first
      | intro q | with_reducible assumption | with_reducible apply submit_keeps | with_reducible apply Keeps.ite | extract_lets
      | dsimp +zetaDelta only

theorem balRaise_keeps (g : Nat) (low : Nat) (h : Keeps r s) : Keeps r (balRaise g low s) := by
  unfold balRaise
  repeat'
    first
      | intro q | with_reducible assumption | with_reducible apply balAlarmRec_keeps | with_reducible apply evt_keeps
      | with_reducible apply inc_keeps | with_reducible apply hwb_keeps | with_reducible apply Keeps.ite | extract_lets
      | dsimp +zetaDelta only

theorem balClear_keeps (g : Nat) (low : Nat) (h : Keeps r s) : Keeps r (balClear g low s) := by
  unfold balClear
  repeat'
    first
      | intro q | with_reducible assumption | with_reducible apply balAlarmRec_keeps | with_reducible apply evt_keeps
      | with_reducible apply hwb_keeps | with_reducible apply Keeps.ite | extract_lets | dsimp +zetaDelta only

theorem balRun_keeps (g : Nat) (n : Nat) (r' : Int) (b : Int) (h : Keeps r s) : Keeps r (balRun g n r' b s) := by
  unfold balRun
  repeat'
    first
      | intro q | with_reducible assumption | with_reducible apply setV_keeps | with_reducible apply hwf_keeps
      | with_reducible apply balRaise_keeps | with_reducible apply balClear_keeps | with_reducible apply Keeps.ite
      | extract_lets | dsimp +zetaDelta only

theorem setBal_keeps (g : Nat) (l : List BalPeriod) (h : Keeps r s) : Keeps r (setBal g l s) := by
  unfold setBal
  repeat'
    first
      | intro q | with_reducible assumption | with_reducible apply Keeps.ite | extract_lets | dsimp +zetaDelta only
      | with_reducible apply Keeps.upd

theorem balUpdate_keeps (g : Nat) (secs : Nat) (tick : Nat) (f : BalPeriod → BalPeriod) (h : Keeps r s) : Keeps r (balUpdate g
    secs tick f s) := by
  unfold balUpdate
  repeat'
    first
      | intro q | with_reducible assumption | with_reducible apply setBal_keeps | with_reducible apply Keeps.ite | extract_lets
      | dsimp +zetaDelta only

theorem balOpen_keeps (g : Nat) (secs : Nat) (tick : Nat) (h : Keeps r s) : Keeps r (balOpen g secs tick s) := by
  unfold balOpen
  repeat'
    first
      | intro q | with_reducible assumption | with_reducible apply setBal_keeps | with_reducible apply Keeps.ite | extract_lets
      | dsimp +zetaDelta only

theorem balGroupTick_keeps (u : State) (g : Nat) (tick : Nat) (h : Keeps r s) : Keeps r (balGroupTick u g tick s) := by
  unfold balGroupTick
  repeat'
    first
      | intro q | with_reducible assumption | with_reducible apply balUpdate_keeps | with_reducible apply balOpen_keeps
      | with_reducible apply inc_keeps | with_reducible apply Keeps.ite | extract_lets | dsimp +zetaDelta only
      | with_reducible apply Keeps.upd

theorem balAnew_keeps (old : State) (tick : Nat) (g : Nat) (h : Keeps r s) : Keeps r (balAnew old tick g s) := by
  unfold balAnew
  repeat'
    first
      | intro q | with_reducible assumption | with_reducible apply setBal_keeps | with_reducible apply Keeps.ite | extract_lets
      | dsimp +zetaDelta only

theorem balLatch_keeps (h : Keeps r s) : Keeps r (balLatch s) := by
  unfold balLatch
  repeat'
    first
      | intro q | with_reducible assumption | with_reducible apply eachBelow_keeps | with_reducible apply balAnew_keeps
      | with_reducible apply Keeps.ite | extract_lets | dsimp +zetaDelta only | with_reducible apply Keeps.upd

theorem balBreak_keeps (h : Keeps r s) : Keeps r (balBreak s) := by
  unfold balBreak
  repeat'
    first
      | intro q | with_reducible assumption | with_reducible apply setV_keeps | with_reducible apply Keeps.ite | extract_lets
      | dsimp +zetaDelta only | with_reducible apply Keeps.upd

theorem balanceTick_keeps (h : Keeps r s) : Keeps r (balanceTick s) := by
  unfold balanceTick
  repeat'
    first
      | intro q | with_reducible assumption | with_reducible apply eachBelow_keeps | with_reducible apply balGroupTick_keeps
      | with_reducible apply setV_keeps | with_reducible apply Keeps.ite | extract_lets | dsimp +zetaDelta only
      | with_reducible apply Keeps.upd

theorem balancePeriodEnd_keeps (g : Nat) (h : Keeps r s) : Keeps r (balancePeriodEnd g s) := by
  unfold balancePeriodEnd
  repeat'
    first
      | intro q | with_reducible assumption | with_reducible apply hw_keeps | with_reducible apply setBal_keeps
      | with_reducible apply balRun_keeps | with_reducible apply hwb_keeps | with_reducible apply evt_keeps
      | with_reducible apply inc_keeps | with_reducible apply Keeps.ite | split | extract_lets | dsimp +zetaDelta only

theorem balRemote_keeps (u : State) (g : Nat) (r' : Nat) (nb : Nat) (f : List Byte) (h : Keeps r s) : Keeps r (balRemote u g r'
    nb f s) := by
  unfold balRemote
  repeat'
    first
      | intro q | with_reducible assumption | with_reducible apply balUpdate_keeps | with_reducible apply balOpen_keeps
      | with_reducible apply Keeps.ite | extract_lets | dsimp +zetaDelta only

theorem balanceFrame_keeps (f : List Byte) (h : Keeps r s) : Keeps r (balanceFrame f s) := by
  unfold balanceFrame
  repeat'
    first
      | intro q | with_reducible assumption | with_reducible apply eachBelow_keeps | with_reducible apply balRemote_keeps
      | with_reducible apply inc_keeps | with_reducible apply Keeps.ite | split | extract_lets | dsimp +zetaDelta only

theorem writeCapture_keeps {l : List (Nat × Mp)} (t' : Nat) (hl : s.even = true → ∀ x ∈ l, x.2.even = true) (h : Keeps r s) :
    Keeps r (writeCapture l t' s) := by
  unfold writeCapture
  extract_lets k c s1
  have h1 : Keeps r s1 := setV_keeps _ _ _ (h.met fun e => by
    refine metEven_iff.mpr { metEven_iff.mp e with copies := fun y hy => ?_ }
    rcases List.mem_cons.mp (mem_keepCopies hy) with rfl | hy
    · exact metCopy_even _ _ _ _ (hl e)
    · exact (metEven_iff.mp e).copies y hy)
  exact Keeps.ite (incSat_keeps _ _ _ _ h1) h1

theorem captureDue_keeps (h : Keeps r s) : Keeps r (captureDue s) := by
  unfold captureDue
  extract_lets t u s1
  have hl (e : s.even = true) : ∀ x ∈ s.capMps, x.2.even = true := fun x hx => by
    have e' := metEven_iff.mp e
    obtain ⟨y, hy, rfl⟩ := List.mem_map.mp hx
    dsimp only
    generalize hf : s.capSet.find? (fun z => decide (z.1 = y.1)) = o
    cases o with
    | none => exact e'.mps y hy
    | some z => exact e'.capSet z (List.mem_of_find?_eq_some hf)
  have h1 : Keeps r s1 := (writeCapture_keeps _ hl h).met fun e => metEven_iff.mpr { metEven_iff.mp e with capSet := nil_even }
  clear_value s1
  exact Keeps.ite h (setV_keeps _ _ _ h1)

theorem addBound_keeps (m b : Nat) (u v : Bool) (h : Keeps r s) : Keeps r (addBound m b u v s) := by
  unfold addBound
  exact submit_keeps _ (setMp_keeps _ ((mp_even h m).add 22 b (by decide)) h)

theorem pilotsToF_keeps (h : Keeps r s) : Keeps r (pilotsToF s) := by
  unfold pilotsToF
  repeat'
    first
      | intro q | with_reducible assumption | with_reducible apply eachBelow_keeps | with_reducible apply setV_keeps
      | with_reducible apply hwf_keeps | with_reducible apply Keeps.ite | extract_lets | dsimp +zetaDelta only

theorem captureNow_keeps (h : Keeps r s) : Keeps r (captureNow s) := by
  unfold captureNow
  exact writeCapture_keeps _ (fun e => (metEven_iff.mp e).mps) h

theorem settleOpen_keeps (h : Keeps r s) : Keeps r (settleOpen s) := by
  unfold settleOpen
  repeat'
    first
      | intro q | with_reducible assumption | with_reducible apply eachBelow_keeps | with_reducible apply settleAt_keeps
      | with_reducible apply Keeps.ite | extract_lets | dsimp +zetaDelta only

theorem drainAll_keeps (h : Keeps r s) : Keeps r (drainAll s) := by
  unfold drainAll
  repeat'
    first
      | intro q | with_reducible assumption | with_reducible apply setV_keeps | with_reducible apply Keeps.ite | extract_lets
      | dsimp +zetaDelta only

theorem gleaningEnd_keeps (b : Bool) (mw : Nat) (h : Keeps r s) : Keeps r (gleaningEnd b mw s) := by
  unfold gleaningEnd
  extract_lets us s1 s2 s3 u s4
  have h1 : Keeps r s1 := Keeps.ite (captureNow_keeps (settleOpen_keeps (drainAll_keeps (pqFlush_keeps (pqCloseAll_keeps h))))) h
  clear_value s1
  have h2 : Keeps r s2 := wr_keeps _ _ (wr_keeps _ _ h1)
  clear_value s2
  have h3 : Keeps r s3 := Keeps.ite (setV_keeps _ _ _ h2) (inc_keeps _ _ _ _ h2)
  clear_value s3
  have h4 : Keeps r s4 := (setV_keeps .capAt 0 0 h3).met fun e => metEven_iff.mpr { metEven_iff.mp e with capSet := nil_even }
  clear_value s4
  exact Keeps.ite h (setV_keeps _ _ _ (setV_keeps _ _ _ (setV_keeps _ _ _ (hwb_keeps _ _ _ h4))))

theorem newestCopy_mem {c : MetCopy} (h : s.newestCopy = some c) : c ∈ s.copies := by
  have key (l : List MetCopy) (b : Option MetCopy) (hb : ∀ x, b = some x → x ∈ s.copies) (hl : ∀ x ∈ l, x ∈ s.copies) :
      ∀ x, l.foldl (fun (b : Option MetCopy) c => match b with
        | none => some c
        | some d => if d.num < c.num then some c else b) b = some x → x ∈ s.copies := by
    induction l generalizing b with
    | nil => exact hb
    | cons y l ih =>
      refine ih _ (fun x hx => ?_) (fun x hx => hl x (by simp [hx]))
      cases b with
      | none => cases hx; exact hl _ (by simp)
      | some d =>
        dsimp only at hx
        split at hx
        · cases hx; exact hl _ (by simp)
        · exact hb _ hx
  exact key s.copies none (by simp) (fun _ hx => hx) c h

theorem gleanRecover_keeps (rtc : Option Nat) (h : Keeps r s) : Keeps r (gleanRecover rtc s) := by
  unfold gleanRecover
  split
  · exact h.met fun e => metEven_iff.mpr { metEven_iff.mp e with mps := by simp, caps := nil_even, saving := by simp }
  · next c hc =>
    extract_lets short out s0 s1 lost s2 s3 s4 s5 s6
    have h0 : Keeps r s0 := h.met fun e => by
      have e' := metEven_iff.mp e
      exact metEven_iff.mpr { e' with mps := e'.copies c (newestCopy_mem hc), caps := nil_even, saving := by simp [s0] }
    have h1 : Keeps r s1 := setV_keeps _ _ _ (hw_keeps _ _ h0)
    have h2 : Keeps r s2 := Keeps.ite h1 (eachBelow_keeps _ (fun _ _ q => Keeps.upd (Keeps.ite
      (setV_keeps _ _ _ (setV_keeps _ _ _ q)) (addBound_keeps _ _ _ _ (setV_keeps _ _ _ (setV_keeps _ _ _ q))))) h1)
    have h3 : Keeps r s3 := Keeps.ite h2 (eachBelow_keeps _ (fun _ _ q => by
      clear_value out
      cases out with
      | none => exact Keeps.ite q (addBound_keeps _ _ _ _ q)
      | some d => exact Keeps.ite q (Keeps.ite q (addBound_keeps _ _ _ _ q))) h2)
    have h4 : Keeps r s4 := hwf_keeps _ _ _ _ h3
    have h5 : Keeps r s5 := Keeps.ite (evt_keeps _ _ h4) h4
    have h6 : Keeps r s6 := Keeps.ite (evt_keeps _ _ h5) h5
    exact setV_keeps _ _ _ (setV_keeps _ _ _ h6)

theorem confirmNow_keeps (h : Keeps r s) : Keeps r (confirmNow s) := by
  unfold confirmNow
  repeat'
    first
      | intro q | with_reducible assumption | with_reducible apply eachBelow_keeps | with_reducible apply setV_keeps
      | with_reducible apply Keeps.ite | extract_lets | dsimp +zetaDelta only

theorem supplyCommit_keeps (cause mv rail : Nat) (h : Keeps r s) : Keeps r (supplyCommit cause mv rail s) := by
  unfold supplyCommit
  split
  · exact h
  extract_lets s0 s1 s2 s3 t s4 s5 s6
  clear_value t
  have h1 : Keeps r s1 := (confirmNow_keeps (setV_keeps _ _ _ (setV_keeps _ _ _ (setV_keeps _ _ _ h)))).upd
  clear_value s1
  have h3 : Keeps r s3 := submit_keeps _ (pilotsToF_keeps (hwf_keeps _ _ _ _ (commonOnce_keeps _ _ h1)))
  clear_value s3
  have h4 : Keeps r s4 := inc_keeps _ _ _ _ (wr_keeps _ _ (wr_keeps _ _ h3))
  clear_value s4
  have h5 : Keeps r s5 := balBreak_keeps (setV_keeps _ _ _ (setV_keeps _ _ _ (hwf_keeps _ _ _ _ h4)))
  exact drainAll_keeps (hwb_keeps _ _ _ h5.upd)

theorem rollingCapture_keeps (h : Keeps r s) : Keeps r (rollingCapture s) := by
  unfold rollingCapture
  repeat'
    first
      | intro q | with_reducible assumption | with_reducible apply captureDue_keeps | with_reducible apply Keeps.ite
      | extract_lets | dsimp +zetaDelta only

theorem preCaptureCancelled_keeps (h : Keeps r s) : Keeps r (preCaptureCancelled s) := by
  unfold preCaptureCancelled
  repeat'
    first
      | intro q | with_reducible assumption | with_reducible apply hwb_keeps | with_reducible apply evt_keeps
      | with_reducible apply setV_keeps | with_reducible apply inc_keeps | with_reducible apply Keeps.ite | extract_lets
      | dsimp +zetaDelta only

theorem supplyLossCommit_keeps (mv : Nat) (h : Keeps r s) : Keeps r (supplyLossCommit mv s) := by
  unfold supplyLossCommit
  repeat'
    first
      | intro q | with_reducible assumption | with_reducible apply supplyCommit_keeps | with_reducible apply Keeps.ite
      | extract_lets | dsimp +zetaDelta only

theorem gleanProof_keeps (t' : Nat) (held : Bool) (h : Keeps r s) : Keeps r (gleanProof t' held s) := by
  unfold gleanProof
  repeat'
    first
      | intro q | with_reducible assumption | with_reducible apply setV_keeps | with_reducible apply addBound_keeps
      | with_reducible apply Keeps.ite | extract_lets | dsimp +zetaDelta only | with_reducible apply Keeps.upd

theorem pfwAsserted_keeps (us : Nat) (h : Keeps r s) : Keeps r (pfwAsserted us s) := by
  unfold pfwAsserted
  extract_lets s1 t u s2
  have h1 : Keeps r s1 := Keeps.ite h (evt_keeps _ _ (hwb_keeps _ _ _ h))
  clear_value s1
  have h2 : Keeps r s2 := (drainAll_keeps (hwb_keeps _ _ _ h1)).met fun e => metEven_iff.mpr { metEven_iff.mp e with capSet := nil_even }
  clear_value s2
  exact Keeps.ite h (Keeps.ite h1 (setV_keeps _ _ _ h2))

theorem remember_keeps (m : Master) (tok : Nat) (seq : Nat) (h : Keeps r s) : Keeps r (remember m tok seq s) := by
  unfold remember
  repeat'
    first
      | intro q | with_reducible assumption | with_reducible apply hwf_keeps | with_reducible apply Keeps.ite | split
      | extract_lets | dsimp +zetaDelta only | with_reducible apply Keeps.upd

theorem rateRefresh_keeps (h : Keeps r s) : Keeps r (rateRefresh s) := by
  unfold rateRefresh
  repeat'
    first
      | intro q | with_reducible assumption | with_reducible apply hw_keeps | with_reducible apply Keeps.ite | extract_lets
      | dsimp +zetaDelta only

theorem stagingDrain_keeps (h : Keeps r s) : Keeps r (stagingDrain s) := by
  unfold stagingDrain
  repeat'
    first
      | intro q | with_reducible assumption | with_reducible apply setV_keeps | with_reducible apply hw_keeps
      | with_reducible apply Keeps.ite | extract_lets | dsimp +zetaDelta only

theorem granaryMismatch_keeps (h : Keeps r s) : Keeps r (granaryMismatch s) := by
  unfold granaryMismatch
  repeat'
    first
      | intro q | with_reducible assumption | with_reducible apply commonOnce_keeps | with_reducible apply fault_keeps
      | with_reducible apply setV_keeps | with_reducible apply Keeps.ite | extract_lets | dsimp +zetaDelta only

theorem freeRefresh_keeps (h : Keeps r s) : Keeps r (freeRefresh s) := by
  unfold freeRefresh
  repeat'
    first
      | intro q | with_reducible assumption | with_reducible apply hwf_keeps | with_reducible apply hwb_keeps
      | with_reducible apply setV_keeps | with_reducible apply Keeps.ite | extract_lets | dsimp +zetaDelta only

theorem ackSet_keeps (old : Nat) (h : Keeps r s) : Keeps r (ackSet old s) := by
  unfold ackSet
  repeat'
    first
      | intro q | with_reducible assumption | with_reducible apply notifyCheck_keeps | with_reducible apply spaceCheck_keeps
      | with_reducible apply freeRefresh_keeps | with_reducible apply setV_keeps | with_reducible apply Keeps.ite | split
      | extract_lets | dsimp +zetaDelta only

theorem granaryRepaired_keeps (h : Keeps r s) : Keeps r (granaryRepaired s) := by
  unfold granaryRepaired
  repeat'
    first
      | intro q | with_reducible assumption | with_reducible apply fault_keeps | with_reducible apply setV_keeps
      | with_reducible apply Keeps.ite | extract_lets | dsimp +zetaDelta only

theorem numberWaiting_keeps (h : Keeps r s) : Keeps r (numberWaiting s) := by
  unfold numberWaiting
  repeat'
    first
      | intro q | with_reducible assumption | with_reducible apply each_keeps | with_reducible apply submitAs_keeps
      | with_reducible apply Keeps.ite | extract_lets | dsimp +zetaDelta only | with_reducible apply Keeps.upd

theorem jnlRecover_keeps (short : Bool) (restored : Nat) (h : Keeps r s) : Keeps r (jnlRecover short restored s) := by
  unfold jnlRecover
  repeat'
    first
      | intro q | with_reducible assumption | with_reducible apply setV_keeps | with_reducible apply hw_keeps
      | with_reducible apply freeRefresh_keeps | with_reducible apply hwb_keeps | with_reducible apply drawn_keeps
      | with_reducible apply submit_keeps | with_reducible apply numberWaiting_keeps | with_reducible apply Keeps.ite
      | extract_lets | dsimp +zetaDelta only | with_reducible apply Keeps.upd

theorem scrubPass_keeps (corrected : Nat) (h : Keeps r s) : Keeps r (scrubPass corrected s) := by
  unfold scrubPass
  repeat'
    first
      | intro q | with_reducible assumption | with_reducible apply inc_keeps | with_reducible apply submit_keeps
      | with_reducible apply granaryRepaired_keeps | with_reducible apply evt_keeps | with_reducible apply Keeps.ite
      | extract_lets | dsimp +zetaDelta only

theorem recordsPending_keeps (h : Keeps r s) : Keeps r (recordsPending s) := by
  unfold recordsPending
  repeat'
    first
      | intro q | with_reducible assumption | with_reducible apply notifyCheck_keeps | with_reducible apply setV_keeps
      | with_reducible apply evt_keeps | with_reducible apply Keeps.ite | extract_lets | dsimp +zetaDelta only

theorem jnlBack_keeps (h : Keeps r s) : Keeps r (jnlBack s) := by
  unfold jnlBack
  repeat'
    first
      | intro q | with_reducible assumption | with_reducible apply setV_keeps | with_reducible apply numberWaiting_keeps
      | with_reducible apply granaryRepaired_keeps | with_reducible apply Keeps.ite | extract_lets | dsimp +zetaDelta only

theorem granaryUncorrectable_keeps (h : Keeps r s) : Keeps r (granaryUncorrectable s) := by
  unfold granaryUncorrectable
  repeat'
    first
      | intro q | with_reducible assumption | with_reducible apply fault_keeps | with_reducible apply commonOnce_keeps
      | with_reducible apply setV_keeps | with_reducible apply inc_keeps | with_reducible apply Keeps.ite | extract_lets
      | dsimp +zetaDelta only

theorem setPart_keeps (p : Nat) (new : Nat) (cause : Nat) (h : Keeps r s) : Keeps r (setPart p new cause s) := by
  unfold setPart
  repeat'
    first
      | intro q | with_reducible assumption | with_reducible apply hwf_keeps | with_reducible apply submit_keeps
      | with_reducible apply evt_keeps | with_reducible apply Keeps.ite | extract_lets | dsimp +zetaDelta only

theorem leadHome_keeps (h : Keeps r s) : Keeps r (leadHome s) := by
  unfold leadHome
  repeat'
    first
      | intro q | with_reducible assumption | with_reducible apply eachBelow_keeps | with_reducible apply leadBack_keeps
      | with_reducible apply Keeps.ite | extract_lets | dsimp +zetaDelta only

theorem partServe_keeps (p : Nat) (h : Keeps r s) : Keeps r (partServe p s) := by
  unfold partServe
  repeat'
    first
      | intro q | with_reducible assumption | with_reducible apply hw_keeps | with_reducible apply faultMove_keeps
      | with_reducible apply setPart_keeps | with_reducible apply fault_keeps | with_reducible apply setV_keeps
      | with_reducible apply leadHome_keeps | with_reducible apply Keeps.ite | extract_lets | dsimp +zetaDelta only

theorem supervision_keeps (p : Nat) (h : Keeps r s) : Keeps r (supervision p s) := by
  unfold supervision
  repeat'
    first
      | intro q | with_reducible assumption | with_reducible apply setV_keeps | with_reducible apply Keeps.ite | extract_lets
      | dsimp +zetaDelta only

theorem partStage_keeps (p : Nat) (h : Keeps r s) : Keeps r (partStage p s) := by
  unfold partStage
  repeat'
    first
      | intro q | with_reducible assumption | with_reducible apply setPart_keeps | with_reducible apply partServe_keeps
      | with_reducible apply Keeps.ite | extract_lets | dsimp +zetaDelta only

theorem noServe_keeps (h : Keeps r s) : Keeps r (noServe s) := by
  unfold noServe
  repeat'
    first
      | intro q | with_reducible assumption | with_reducible apply setV_keeps | with_reducible apply Keeps.ite | extract_lets
      | dsimp +zetaDelta only

theorem takeoverBegin_keeps (p : Nat) (h : Keeps r s) : Keeps r (takeoverBegin p s) := by
  unfold takeoverBegin
  repeat'
    first
      | intro q | with_reducible assumption | with_reducible apply setV_keeps | with_reducible apply evt_keeps
      | with_reducible apply each_keeps | with_reducible apply hwb_keeps | with_reducible apply Keeps.ite | extract_lets
      | dsimp +zetaDelta only

theorem partFail_keeps (p : Nat) (cause : Nat) (h : Keeps r s) : Keeps r (partFail p cause s) := by
  unfold partFail
  repeat'
    first
      | intro q | with_reducible assumption | with_reducible apply setV_keeps | with_reducible apply inc_keeps
      | with_reducible apply hwf_keeps | with_reducible apply setPart_keeps | with_reducible apply faultMove_keeps
      | with_reducible apply noServe_keeps | with_reducible apply takeoverBegin_keeps | with_reducible apply Keeps.ite
      | extract_lets | dsimp +zetaDelta only

theorem partFailure_keeps (p : Nat) (cause : Nat) (h : Keeps r s) : Keeps r (partFailure p cause s) := by
  unfold partFailure
  repeat'
    first
      | intro q | with_reducible assumption | with_reducible apply partFail_keeps | with_reducible apply Keeps.ite
      | extract_lets | dsimp +zetaDelta only

theorem takeOver_keeps (n : Nat) (h : Keeps r s) : Keeps r (takeOver n s) := by
  unfold takeOver
  repeat'
    first
      | intro q | with_reducible assumption | with_reducible apply hwb_keeps | with_reducible apply setLead_keeps
      | with_reducible apply sessMap_keeps | with_reducible apply leadBack_keeps | with_reducible apply evt_keeps
      | with_reducible apply setV_keeps | with_reducible apply hwf_keeps | with_reducible apply inc_keeps
      | with_reducible apply Keeps.ite | split | extract_lets | dsimp +zetaDelta only

theorem partsRestart_keeps (h : Keeps r s) : Keeps r (partsRestart s) := by
  unfold partsRestart
  repeat'
    first
      | intro q | with_reducible assumption | with_reducible apply eachBelow_keeps | with_reducible apply setLead_keeps
      | with_reducible apply hwb_keeps | with_reducible apply setV_keeps | with_reducible apply takeoverBegin_keeps
      | with_reducible apply hwf_keeps | with_reducible apply Keeps.ite | extract_lets | dsimp +zetaDelta only

theorem partitionsUnavailable_keeps (h : Keeps r s) : Keeps r (partitionsUnavailable s) := by
  unfold partitionsUnavailable
  repeat'
    first
      | intro q | with_reducible assumption | with_reducible apply commonOnce_keeps | with_reducible apply fault_keeps
      | with_reducible apply Keeps.ite | extract_lets | dsimp +zetaDelta only

theorem readmitPart_keeps (p : Nat) (h : Keeps r s) : Keeps r (readmitPart p s) := by
  unfold readmitPart
  repeat'
    first
      | intro q | with_reducible assumption | with_reducible apply setPart_keeps | with_reducible apply setV_keeps
      | with_reducible apply hwf_keeps | with_reducible apply Keeps.ite | extract_lets | dsimp +zetaDelta only

theorem ringRebuilt_keeps (p : Nat) (h : Keeps r s) : Keeps r (ringRebuilt p s) := by
  unfold ringRebuilt
  repeat'
    first
      | intro q | with_reducible assumption | with_reducible apply partServe_keeps | with_reducible apply Keeps.ite
      | extract_lets | dsimp +zetaDelta only

theorem fltEffect_keeps (arg : Nat) (h : Keeps r s) : Keeps r (fltEffect arg s) := by
  unfold fltEffect
  repeat'
    first
      | intro q | with_reducible assumption | with_reducible apply readmitPart_keeps | with_reducible apply Keeps.ite
      | extract_lets | dsimp +zetaDelta only

theorem fltLog_keeps (f : FaultEvent) (h : Keeps r s) : Keeps r (fltLog f s) := by
  unfold fltLog
  repeat'
    first
      | intro q | with_reducible assumption | with_reducible apply addV_keeps | with_reducible apply hw_keeps
      | with_reducible apply setV_keeps | with_reducible apply Keeps.ite | extract_lets | dsimp +zetaDelta only
      | with_reducible apply Keeps.upd

theorem fltShow_keeps (h : Keeps r s) : Keeps r (fltShow s) := by
  unfold fltShow
  repeat'
    first
      | intro q | with_reducible assumption | with_reducible apply hw_keeps | with_reducible apply eachBelow_keeps
      | with_reducible apply evt_keeps | with_reducible apply each_keeps | with_reducible apply sendMsi_keeps
      | with_reducible apply Keeps.ite | with_reducible apply foldl_keeps | with_reducible apply foldl_fst_keeps | extract_lets
      | dsimp +zetaDelta only

theorem fltTable_keeps (f : FaultEvent) (h : Keeps r s) : Keeps r (fltTable f s) := by
  unfold fltTable
  repeat'
    first
      | intro q | with_reducible assumption | with_reducible apply evt_keeps | with_reducible apply sendMsi_keeps
      | with_reducible apply Keeps.ite | extract_lets | dsimp +zetaDelta only | with_reducible apply Keeps.upd

theorem fltBoundary_keeps (h : Keeps r s) : Keeps r (fltBoundary s) := by
  unfold fltBoundary
  repeat'
    first
      | intro q | with_reducible assumption | with_reducible apply fltShow_keeps | with_reducible apply each_keeps
      | with_reducible apply fltTable_keeps | with_reducible apply fltLog_keeps | with_reducible apply Keeps.ite | extract_lets
      | dsimp +zetaDelta only | with_reducible apply Keeps.upd

theorem slotRec_keeps (i : Nat) (code : Nat) (h : Keeps r s) : Keeps r (slotRec i code s) := by
  unfold slotRec
  repeat'
    first
      | intro q | with_reducible assumption | with_reducible apply evt_keeps | with_reducible apply submit_keeps
      | with_reducible apply Keeps.ite | extract_lets | dsimp +zetaDelta only

theorem cacheShow_keeps (h : Keeps r s) : Keeps r (cacheShow s) := by
  unfold cacheShow
  repeat'
    first
      | intro q | with_reducible assumption | with_reducible apply hwf_keeps | with_reducible apply Keeps.ite | extract_lets
      | dsimp +zetaDelta only

theorem clearBelow_keeps (h' : Nat) (self : Bool) (h : Keeps r s) : Keeps r (clearBelow h' self s) := by
  unfold clearBelow
  repeat'
    first
      | intro q | with_reducible assumption | with_reducible apply cacheShow_keeps | with_reducible apply Keeps.ite
      | extract_lets | dsimp +zetaDelta only | with_reducible apply Keeps.upd

theorem genNext_keeps (i : Nat) (h : Keeps r s) : Keeps r (genNext i s) := by
  unfold genNext
  repeat'
    first
      | intro q | with_reducible assumption | with_reducible apply clearBelow_keeps | with_reducible apply hwf_keeps
      | with_reducible apply Keeps.ite | extract_lets | dsimp +zetaDelta only

theorem opEnd_keeps (id : Nat) (status : Nat) (handle : Nat) (h : Keeps r s) : Keeps r (opEnd id status handle s) := by
  unfold opEnd
  repeat'
    first
      | intro q | with_reducible assumption | with_reducible apply Keeps.ite | extract_lets | dsimp +zetaDelta only
      | with_reducible apply Keeps.upd

theorem engineShow_keeps (h : Keeps r s) : Keeps r (engineShow s) := by
  unfold engineShow
  repeat'
    first
      | intro q | with_reducible assumption | with_reducible apply hwf_keeps | with_reducible apply eachBelow_keeps
      | with_reducible apply hwb_keeps | with_reducible apply Keeps.ite | with_reducible apply foldl_keeps
      | with_reducible apply foldl_fst_keeps | extract_lets | dsimp +zetaDelta only

theorem staleCount_keeps (h : Keeps r s) : Keeps r (staleCount s) := by
  unfold staleCount
  repeat'
    first
      | intro q | with_reducible assumption | with_reducible apply inc_keeps | with_reducible apply Keeps.ite | extract_lets
      | dsimp +zetaDelta only

theorem cacheEvict_keeps (h : Keeps r s) : Keeps r (cacheEvict s) := by
  unfold cacheEvict
  repeat'
    first
      | intro q | with_reducible assumption | with_reducible apply inc_keeps | with_reducible apply Keeps.ite | split
      | with_reducible apply foldl_keeps | with_reducible apply foldl_fst_keeps | extract_lets | dsimp +zetaDelta only
      | with_reducible apply Keeps.upd

theorem cacheTouch_keeps (i : Nat) (h : Keeps r s) : Keeps r (cacheTouch i s) := by
  unfold cacheTouch
  repeat'
    first
      | intro q | with_reducible assumption | with_reducible apply cacheEvict_keeps | with_reducible apply cacheShow_keeps
      | with_reducible apply setV_keeps | with_reducible apply Keeps.ite | split | extract_lets | dsimp +zetaDelta only
      | with_reducible apply Keeps.upd

theorem engineStart_keeps (e : Nat) (h : Keeps r s) : Keeps r (engineStart e s) := by
  unfold engineStart
  repeat'
    first
      | intro q | with_reducible assumption | with_reducible apply opEnd_keeps | with_reducible apply staleCount_keeps
      | with_reducible apply cacheTouch_keeps | with_reducible apply Keeps.ite | split | with_reducible apply foldl_keeps
      | with_reducible apply foldl_fst_keeps | extract_lets | dsimp +zetaDelta only | with_reducible apply Keeps.upd

theorem opsStale_keeps (h : Keeps r s) : Keeps r (opsStale s) := by
  unfold opsStale
  repeat'
    first
      | intro q | with_reducible assumption | with_reducible apply each_keeps | with_reducible apply opEnd_keeps
      | with_reducible apply staleCount_keeps | with_reducible apply Keeps.ite | extract_lets | dsimp +zetaDelta only

theorem enginesRun_keeps (h : Keeps r s) : Keeps r (enginesRun s) := by
  unfold enginesRun
  repeat'
    first
      | intro q | with_reducible assumption | with_reducible apply engineShow_keeps | with_reducible apply engineStart_keeps
      | with_reducible apply opsStale_keeps | with_reducible apply Keeps.ite | with_reducible apply foldl_keeps
      | with_reducible apply foldl_fst_keeps | extract_lets | dsimp +zetaDelta only

theorem slotSum_keeps (h : Keeps r s) : Keeps r (slotSum s) := by
  unfold slotSum
  repeat'
    first
      | intro q | with_reducible assumption | with_reducible apply hwf_keeps | with_reducible apply Keeps.ite | extract_lets
      | dsimp +zetaDelta only

theorem slotPut_keeps (i : Nat) (alg : Nat) (usage : Nat) (code : Nat) (h : Keeps r s) : Keeps r (slotPut i alg usage code s) :=
    by
  unfold slotPut
  repeat'
    first
      | intro q | with_reducible assumption | with_reducible apply genNext_keeps | with_reducible apply fault_keeps
      | with_reducible apply hwb_keeps | with_reducible apply hwf_keeps | with_reducible apply enginesRun_keeps
      | with_reducible apply slotRec_keeps | with_reducible apply slotSum_keeps | with_reducible apply drawn_keeps
      | with_reducible apply setV_keeps | with_reducible apply Keeps.ite | extract_lets | dsimp +zetaDelta only

theorem identCert_keeps (ok : Bool) (h : Keeps r s) : Keeps r (identCert ok s) := by
  unfold identCert
  repeat'
    first
      | intro q | with_reducible assumption | with_reducible apply hwb_keeps | with_reducible apply Keeps.ite | extract_lets
      | dsimp +zetaDelta only

theorem stgPut_keeps (m : Master) (content : Nat) (bs : List Byte) (h : Keeps r s) : Keeps r (stgPut m content bs s) := by
  unfold stgPut
  repeat'
    first
      | intro q | with_reducible assumption | with_reducible apply eachBelow_keeps | with_reducible apply wrB_keeps
      | with_reducible apply Keeps.ite | extract_lets | dsimp +zetaDelta only

theorem zeroSessions_keeps (h : Keeps r s) : Keeps r (zeroSessions s) := by
  unfold zeroSessions
  repeat'
    first
      | intro q | with_reducible assumption | with_reducible apply eachBelow_keeps | with_reducible apply trigger_keeps
      | with_reducible apply Keeps.ite | extract_lets | dsimp +zetaDelta only

theorem zeroise_keeps (cause : Nat) (src : Nat) (h : Keeps r s) : Keeps r (zeroise cause src s) := by
  unfold zeroise
  repeat'
    first
      | intro q | with_reducible assumption | with_reducible apply inc_keeps | with_reducible apply hwf_keeps
      | with_reducible apply hwb_keeps | with_reducible apply eachBelow_keeps | with_reducible apply zeroSessions_keeps
      | with_reducible apply engineShow_keeps | with_reducible apply cacheShow_keeps | with_reducible apply slotSum_keeps
      | with_reducible apply submit_keeps | with_reducible apply setV_keeps | with_reducible apply hw_keeps
      | with_reducible apply evt_keeps | with_reducible apply fault_keeps | with_reducible apply Keeps.ite | extract_lets
      | dsimp +zetaDelta only | with_reducible apply Keeps.upd

theorem tamperLog_keeps (src : Nat) (dormant : Bool) (h : Keeps r s) : Keeps r (tamperLog src dormant s) := by
  unfold tamperLog
  repeat'
    first
      | intro q | with_reducible assumption | with_reducible apply drawn_keeps | with_reducible apply hwf_keeps
      | with_reducible apply hw_keeps | with_reducible apply eachBelow_keeps | with_reducible apply Keeps.ite | extract_lets
      | dsimp +zetaDelta only

theorem measure_keeps (h : Keeps r s) : Keeps r (measure s) := by
  unfold measure
  repeat'
    first
      | intro q | with_reducible assumption | with_reducible apply eachBelow_keeps | with_reducible apply hw_keeps
      | with_reducible apply Keeps.ite | extract_lets | dsimp +zetaDelta only

theorem meterKeyNew_keeps (h : Keeps r s) : Keeps r (meterKeyNew s) := by
  unfold meterKeyNew
  repeat'
    first
      | intro q | with_reducible assumption | with_reducible apply drawn_keeps | with_reducible apply setV_keeps
      | with_reducible apply hw_keeps | with_reducible apply submit_keeps | with_reducible apply Keeps.ite | extract_lets
      | dsimp +zetaDelta only

theorem recommission_keeps (h : Keeps r s) : Keeps r (recommission s) := by
  unfold recommission
  repeat'
    first
      | intro q | with_reducible assumption | with_reducible apply hwf_keeps | with_reducible apply hwb_keeps
      | with_reducible apply eachBelow_keeps | with_reducible apply measure_keeps | with_reducible apply drawn_keeps
      | with_reducible apply setV_keeps | with_reducible apply slotSum_keeps | with_reducible apply submit_keeps
      | with_reducible apply fault_keeps | with_reducible apply evt_keeps | with_reducible apply meterKeyNew_keeps
      | with_reducible apply Keeps.ite | extract_lets | dsimp +zetaDelta only

theorem keyEffect_keeps (code : Nat) (arg : Nat) (m : Master) (h : Keeps r s) : Keeps r (keyEffect code arg m s) := by
  unfold keyEffect
  repeat'
    first
      | intro q | with_reducible assumption | with_reducible apply slotPut_keeps | with_reducible apply setV_keeps
      | with_reducible apply identCert_keeps | with_reducible apply enginesRun_keeps | with_reducible apply slotRec_keeps
      | with_reducible apply genNext_keeps | with_reducible apply clearBelow_keeps | with_reducible apply fault_keeps
      | with_reducible apply slotSum_keeps | with_reducible apply hwf_keeps | with_reducible apply stgPut_keeps
      | with_reducible apply drawn_keeps | with_reducible apply zeroise_keeps | with_reducible apply evt_keeps
      | with_reducible apply hwb_keeps | with_reducible apply tamperLog_keeps | with_reducible apply recommission_keeps
      | with_reducible apply Keeps.ite | split | extract_lets | dsimp +zetaDelta only

theorem derive_keeps (parent : Nat) (label : List Byte) (context : List Byte) (alg usage : Nat) (h : Keeps r s) : Keeps r (derive
    parent label context alg usage s).1 := by
  unfold derive
  repeat'
    first
      | intro q | with_reducible assumption | with_reducible apply cacheTouch_keeps | with_reducible apply Keeps.ite | split
      | extract_lets | dsimp +zetaDelta only | with_reducible apply Keeps.upd

theorem keyComplete_keeps (id : Nat) (h : Keeps r s) : Keeps r (keyComplete id s) := by
  unfold keyComplete
  repeat'
    first
      | intro q | with_reducible assumption | with_reducible apply derive_keeps | with_reducible apply enginesRun_keeps
      | with_reducible apply opEnd_keeps | with_reducible apply Keeps.ite | split | extract_lets | dsimp +zetaDelta only
      | with_reducible apply Keeps.upd

theorem keyRestart_keeps (h : Keeps r s) : Keeps r (keyRestart s) := by
  unfold keyRestart
  repeat'
    first
      | intro q | with_reducible assumption | with_reducible apply engineShow_keeps | with_reducible apply cacheShow_keeps
      | with_reducible apply Keeps.ite | extract_lets | dsimp +zetaDelta only | with_reducible apply Keeps.upd

theorem ephRefresh_keeps (h : Keeps r s) : Keeps r (ephRefresh s) := by
  unfold ephRefresh
  repeat'
    first
      | intro q | with_reducible assumption | with_reducible apply hw_keeps | with_reducible apply Keeps.ite | extract_lets
      | dsimp +zetaDelta only

theorem rewrap_keeps (svn : Nat) (h : Keeps r s) : Keeps r (rewrap svn s) := by
  unfold rewrap
  repeat'
    first
      | intro q | with_reducible assumption | with_reducible apply hwf_keeps | with_reducible apply setV_keeps
      | with_reducible apply hwb_keeps | with_reducible apply Keeps.ite | extract_lets | dsimp +zetaDelta only

theorem slotLost_keeps (i : Nat) (h : Keeps r s) : Keeps r (slotLost i s) := by
  unfold slotLost
  repeat'
    first
      | intro q | with_reducible assumption | with_reducible apply fault_keeps | with_reducible apply hwb_keeps
      | with_reducible apply hwf_keeps | with_reducible apply genNext_keeps | with_reducible apply Keeps.ite | extract_lets
      | dsimp +zetaDelta only

theorem rewrapDone_keeps (svn : Nat) (h : Keeps r s) : Keeps r (rewrapDone svn s) := by
  unfold rewrapDone
  repeat'
    first
      | intro q | with_reducible assumption | with_reducible apply measure_keeps | with_reducible apply hwf_keeps
      | with_reducible apply hwb_keeps | with_reducible apply setV_keeps | with_reducible apply evt_keeps
      | with_reducible apply submit_keeps | with_reducible apply meterKeyNew_keeps | with_reducible apply cacheShow_keeps
      | with_reducible apply Keeps.ite | extract_lets | dsimp +zetaDelta only | with_reducible apply Keeps.upd

theorem rewrapDue_keeps (h : Keeps r s) : Keeps r (rewrapDue s) := by
  unfold rewrapDue
  repeat'
    first
      | intro q | with_reducible assumption | with_reducible apply rewrapDone_keeps | with_reducible apply Keeps.ite
      | extract_lets | dsimp +zetaDelta only

theorem keyOperation_keeps (r' : KeyReq) (h : Keeps r s) : Keeps r (keyOperation r' s) := by
  unfold keyOperation
  repeat'
    first
      | intro q | with_reducible assumption | with_reducible apply opEnd_keeps | with_reducible apply staleCount_keeps
      | with_reducible apply enginesRun_keeps | with_reducible apply Keeps.ite | extract_lets | dsimp +zetaDelta only
      | with_reducible apply Keeps.upd

theorem tamperEvent_keeps (src : Nat) (h : Keeps r s) : Keeps r (tamperEvent src s) := by
  unfold tamperEvent
  repeat'
    first
      | intro q | with_reducible assumption | with_reducible apply hwb_keeps | with_reducible apply tamperLog_keeps
      | with_reducible apply setV_keeps | with_reducible apply zeroise_keeps | with_reducible apply evt_keeps
      | with_reducible apply Keeps.ite | extract_lets | dsimp +zetaDelta only

theorem keyPowerOn_keeps (lost : List Nat) (h : Keeps r s) : Keeps r (keyPowerOn lost s) := by
  unfold keyPowerOn
  repeat'
    first
      | intro q | with_reducible assumption | with_reducible apply each_keeps | with_reducible apply slotLost_keeps
      | with_reducible apply drawn_keeps | with_reducible apply setV_keeps | with_reducible apply measure_keeps
      | with_reducible apply hwb_keeps | with_reducible apply slotSum_keeps | with_reducible apply engineShow_keeps
      | with_reducible apply cacheShow_keeps | with_reducible apply identCert_keeps | with_reducible apply zeroise_keeps
      | with_reducible apply rewrapDone_keeps | with_reducible apply Keeps.ite | extract_lets | dsimp +zetaDelta only
      | with_reducible apply Keeps.upd

theorem harvest_keeps (strength : Nat) (h : Keeps r s) : Keeps r (harvest strength s) := by
  unfold harvest
  repeat'
    first
      | intro q | with_reducible assumption | with_reducible apply hwf_keeps | with_reducible apply hwb_keeps
      | with_reducible apply Keeps.ite | extract_lets | dsimp +zetaDelta only

theorem fieldEntry_keeps (strength : Nat) (h : Keeps r s) : Keeps r (fieldEntry strength s) := by
  unfold fieldEntry
  repeat'
    first
      | intro q | with_reducible assumption | with_reducible apply harvest_keeps | with_reducible apply hwb_keeps
      | with_reducible apply setV_keeps | with_reducible apply drawn_keeps | with_reducible apply evt_keeps
      | with_reducible apply Keeps.ite | extract_lets | dsimp +zetaDelta only

theorem fieldSay_keeps (data : List Byte) (sw : Nat) (h : Keeps r s) : Keeps r (fieldSay data sw s) := by
  unfold fieldSay
  repeat'
    first
      | intro q | with_reducible assumption | with_reducible apply setV_keeps | with_reducible apply hwb_keeps
      | with_reducible apply inc_keeps | with_reducible apply Keeps.ite | extract_lets | dsimp +zetaDelta only
      | with_reducible apply Keeps.upd

theorem fieldRead_keeps (off : Nat) (le : Nat) (h : Keeps r s) : Keeps r (fieldRead off le s) := by
  unfold fieldRead
  repeat'
    first
      | intro q | with_reducible assumption | with_reducible apply fieldSay_keeps | with_reducible apply Keeps.ite
      | extract_lets | dsimp +zetaDelta only

theorem cardRec_keeps (code : Nat) (p : Present) (h : Keeps r s) : Keeps r (cardRec code p s) := by
  unfold cardRec
  repeat'
    first
      | intro q | with_reducible assumption | with_reducible apply submit_keeps | with_reducible apply Keeps.ite | extract_lets
      | dsimp +zetaDelta only

theorem cardReport_keeps (p : Present) (h : Keeps r s) : Keeps r (cardReport p s) := by
  unfold cardReport
  repeat'
    first
      | intro q | with_reducible assumption | with_reducible apply hw_keeps | with_reducible apply inc_keeps
      | with_reducible apply cardRec_keeps | with_reducible apply evt_keeps | with_reducible apply Keeps.ite | extract_lets
      | dsimp +zetaDelta only

theorem cardSeen_keeps (c : Nat) (multi : Bool) (exceeds : Bool) (x : Card) (h : Keeps r s) : Keeps r (cardSeen c multi exceeds
    x s) := by
  unfold cardSeen
  repeat'
    first
      | intro q | with_reducible assumption | with_reducible apply hwf_keeps | with_reducible apply cardReport_keeps
      | with_reducible apply Keeps.ite | extract_lets | dsimp +zetaDelta only | with_reducible apply Keeps.upd

theorem fieldRec_keeps (code : Nat) (inst : Nat) (fields : List (Nat × Nat)) (h : Keeps r s) : Keeps r (fieldRec code inst
    fields s) := by
  unfold fieldRec
  repeat'
    first
      | intro q | with_reducible assumption | with_reducible apply submit_keeps | with_reducible apply Keeps.ite | extract_lets
      | dsimp +zetaDelta only

theorem fieldAuth_keeps (role : Nat) (p2 : Nat) (len : Nat) (valid : Bool) (h : Keeps r s) : Keeps r (fieldAuth role p2 len
    valid s) := by
  unfold fieldAuth
  repeat'
    first
      | intro q | with_reducible assumption | with_reducible apply fieldSay_keeps | with_reducible apply setV_keeps
      | with_reducible apply fieldRec_keeps | with_reducible apply hwf_keeps | with_reducible apply evt_keeps
      | with_reducible apply inc_keeps | with_reducible apply Keeps.ite | extract_lets | dsimp +zetaDelta only

theorem readerOn_keeps (c : Nat) (h : Keeps r s) : Keeps r (readerOn c s) := by
  unfold readerOn
  repeat'
    first
      | intro q | with_reducible assumption | with_reducible apply hwb_keeps | with_reducible apply Keeps.ite | extract_lets
      | dsimp +zetaDelta only

theorem antennaRetry_keeps (c : Nat) (ok : Bool) (h : Keeps r s) : Keeps r (antennaRetry c ok s) := by
  unfold antennaRetry
  repeat'
    first
      | intro q | with_reducible assumption | with_reducible apply setV_keeps | with_reducible apply fault_keeps
      | with_reducible apply readerOn_keeps | with_reducible apply hwb_keeps | with_reducible apply Keeps.ite | extract_lets
      | dsimp +zetaDelta only

theorem memFill_keeps (bs : List Byte) (m : Master) (h : Keeps r s) : Keeps r (memFill bs m s) := by
  unfold memFill
  repeat'
    first
      | intro q | with_reducible assumption | with_reducible apply eachBelow_keeps | with_reducible apply wrB_keeps
      | with_reducible apply Keeps.ite | extract_lets | dsimp +zetaDelta only

theorem cardGone_keeps (p : Present) (h : Keeps r s) : Keeps r (cardGone p s) := by
  unfold cardGone
  repeat'
    first
      | intro q | with_reducible assumption | with_reducible apply cardRec_keeps | with_reducible apply hwf_keeps
      | with_reducible apply Keeps.ite | extract_lets | dsimp +zetaDelta only | with_reducible apply Keeps.upd

theorem antennaCheck_keeps (c : Nat) (bad : Bool) (h : Keeps r s) : Keeps r (antennaCheck c bad s) := by
  unfold antennaCheck
  repeat'
    first
      | intro q | with_reducible assumption | with_reducible apply setV_keeps | with_reducible apply fault_keeps
      | with_reducible apply evt_keeps | with_reducible apply readerOn_keeps | with_reducible apply hwb_keeps
      | with_reducible apply Keeps.ite | extract_lets | dsimp +zetaDelta only

theorem readerPoll_keeps (c : Nat) (found : List Card) (collisions : Nat) (bad : Bool) (h : Keeps r s) : Keeps r (readerPoll c
    found collisions bad s) := by
  unfold readerPoll
  repeat'
    first
      | intro q | with_reducible assumption | with_reducible apply hwb_keeps | with_reducible apply hwf_keeps
      | with_reducible apply readerOn_keeps | with_reducible apply inc_keeps | with_reducible apply each_keeps
      | with_reducible apply cardGone_keeps | with_reducible apply antennaCheck_keeps | with_reducible apply cardSeen_keeps
      | with_reducible apply setV_keeps | with_reducible apply Keeps.ite | extract_lets | dsimp +zetaDelta only
      | with_reducible apply Keeps.upd

theorem fmemWrite_keeps (off : Nat) (l : List Byte) (h : Keeps r s) : Keeps r (fmemWrite off l s) := by
  induction l generalizing off s with
  | nil => exact h
  | cons b l ih => exact ih _ (h.of_wf rfl id (fun _ => id) id (Tab.wf_put _ _ _))

theorem identityArea_keeps (h : Keeps r s) : Keeps r (identityArea s) := by
  unfold identityArea
  repeat'
    first
      | intro q | with_reducible assumption | with_reducible apply fmemWrite_keeps | with_reducible apply Keeps.ite
      | extract_lets | dsimp +zetaDelta only

theorem ctlPowerOn_keeps (h : Keeps r s) : Keeps r (ctlPowerOn s) := by
  unfold ctlPowerOn
  repeat'
    first
      | intro q | with_reducible assumption | with_reducible apply hwf_keeps | with_reducible apply identityArea_keeps
      | with_reducible apply readerOn_keeps | with_reducible apply setV_keeps | with_reducible apply Keeps.ite | extract_lets
      | dsimp +zetaDelta only | with_reducible apply Keeps.upd

theorem fieldLogout_keeps (how : Nat) (h : Keeps r s) : Keeps r (fieldLogout how s) := by
  unfold fieldLogout
  repeat'
    first
      | intro q | with_reducible assumption | with_reducible apply setV_keeps | with_reducible apply fieldRec_keeps
      | with_reducible apply hwf_keeps | with_reducible apply Keeps.ite | extract_lets | dsimp +zetaDelta only

theorem fieldOut_keeps (p1 : Nat) (p2 : Nat) (len : Nat) (h : Keeps r s) : Keeps r (fieldOut p1 p2 len s) := by
  unfold fieldOut
  repeat'
    first
      | intro q | with_reducible assumption | with_reducible apply fieldSay_keeps | with_reducible apply fieldLogout_keeps
      | with_reducible apply Keeps.ite | extract_lets | dsimp +zetaDelta only

theorem statusRefresh_keeps (h : Keeps r s) : Keeps r (statusRefresh s) := by
  unfold statusRefresh
  repeat'
    first
      | intro q | with_reducible assumption | with_reducible apply fmemWrite_keeps | with_reducible apply Keeps.ite
      | with_reducible apply foldl_keeps | with_reducible apply foldl_fst_keeps | extract_lets | dsimp +zetaDelta only

theorem memShow_keeps (o : MemOp) (st : Nat) (wait : Nat) (h : Keeps r s) : Keeps r (memShow o st wait s) := by
  unfold memShow
  repeat'
    first
      | intro q | with_reducible assumption | with_reducible apply touch_keeps | with_reducible apply each_keeps
      | with_reducible apply wrB_keeps | with_reducible apply Keeps.ite | extract_lets | dsimp +zetaDelta only

theorem memEnd_keeps (o : MemOp) (st : Nat) (wait : Nat) (h : Keeps r s) : Keeps r (memEnd o st wait s) := by
  unfold memEnd
  repeat'
    first
      | intro q | with_reducible assumption | with_reducible apply memShow_keeps | with_reducible apply evt_keeps
      | with_reducible apply inc_keeps | with_reducible apply submit_keeps | with_reducible apply Keeps.ite | extract_lets
      | dsimp +zetaDelta only | with_reducible apply Keeps.upd

theorem memTimeout_keeps (m : Master) (h : Keeps r s) : Keeps r (memTimeout m s) := by
  unfold memTimeout
  repeat'
    first
      | intro q | with_reducible assumption | with_reducible apply memEnd_keeps | with_reducible apply Keeps.ite | split
      | extract_lets | dsimp +zetaDelta only

theorem fieldSelect_keeps (cla : Nat) (ins : Nat) (p1 : Nat) (p2 : Nat) (aid : List Byte) (h : Keeps r s) : Keeps r (fieldSelect
    cla ins p1 p2 aid s) := by
  unfold fieldSelect
  repeat'
    first
      | intro q | with_reducible assumption | with_reducible apply fieldSay_keeps | with_reducible apply hwb_keeps
      | with_reducible apply drawn_keeps | with_reducible apply Keeps.ite | extract_lets | dsimp +zetaDelta only

theorem memBegin_keeps (dt : Nat) (reach : Bool) (h : Keeps r s) : Keeps r (memBegin dt reach s) := by
  unfold memBegin
  repeat'
    first
      | intro q | with_reducible assumption | with_reducible apply fault_keeps | with_reducible apply memEnd_keeps
      | with_reducible apply fmemWrite_keeps | with_reducible apply each_keeps | with_reducible apply memFill_keeps
      | with_reducible apply Keeps.ite | split | extract_lets | dsimp +zetaDelta only

theorem fieldTimeout_keeps (h : Keeps r s) : Keeps r (fieldTimeout s) := by
  unfold fieldTimeout
  repeat'
    first
      | intro q | with_reducible assumption | with_reducible apply fieldRec_keeps | with_reducible apply hwf_keeps
      | with_reducible apply setV_keeps | with_reducible apply Keeps.ite | extract_lets | dsimp +zetaDelta only

theorem ctlEffect_keeps (code : Nat) (arg : Nat) (m : Master) (both : Bool) (seq : Nat) (h : Keeps r s) : Keeps r (ctlEffect
    code arg m both seq s) := by
  unfold ctlEffect
  repeat'
    first
      | intro q | with_reducible assumption | with_reducible apply memShow_keeps | with_reducible apply Keeps.ite | extract_lets
      | dsimp +zetaDelta only | with_reducible apply Keeps.upd

theorem ctlReset_keeps (h : Keeps r s) : Keeps r (ctlReset s) := by
  unfold ctlReset
  repeat'
    first
      | intro q | with_reducible assumption | with_reducible apply fieldLogout_keeps | with_reducible apply hwf_keeps
      | with_reducible apply readerOn_keeps | with_reducible apply setV_keeps | with_reducible apply Keeps.ite | extract_lets
      | dsimp +zetaDelta only | with_reducible apply Keeps.upd

theorem fieldLoss_keeps (h : Keeps r s) : Keeps r (fieldLoss s) := by
  unfold fieldLoss
  repeat'
    first
      | intro q | with_reducible assumption | with_reducible apply fieldLogout_keeps | with_reducible apply harvest_keeps
      | with_reducible apply hwf_keeps | with_reducible apply Keeps.ite | extract_lets | dsimp +zetaDelta only

theorem fieldChallenge_keeps (p1 : Nat) (p2 : Nat) (le : Nat) (h : Keeps r s) : Keeps r (fieldChallenge p1 p2 le s) := by
  unfold fieldChallenge
  repeat'
    first
      | intro q | with_reducible assumption | with_reducible apply fieldSay_keeps | with_reducible apply drawn_keeps
      | with_reducible apply setV_keeps | with_reducible apply Keeps.ite | extract_lets | dsimp +zetaDelta only

theorem fieldWtx_keeps (waitUs : Nat) (h : Keeps r s) : Keeps r (fieldWtx waitUs s) := by
  unfold fieldWtx
  repeat'
    first
      | intro q | with_reducible assumption | with_reducible apply setV_keeps | with_reducible apply hwb_keeps
      | with_reducible apply inc_keeps | with_reducible apply Keeps.ite | extract_lets | dsimp +zetaDelta only

theorem fieldWrite_keeps (off : Nat) (bs : List Byte) (h : Keeps r s) : Keeps r (fieldWrite off bs s) := by
  unfold fieldWrite
  repeat'
    first
      | intro q | with_reducible assumption | with_reducible apply fieldSay_keeps | with_reducible apply evt_keeps
      | with_reducible apply inc_keeps | with_reducible apply fmemWrite_keeps | with_reducible apply Keeps.ite | extract_lets
      | dsimp +zetaDelta only

theorem fieldDeselect_keeps (h : Keeps r s) : Keeps r (fieldDeselect s) := by
  unfold fieldDeselect
  repeat'
    first
      | intro q | with_reducible assumption | with_reducible apply hwf_keeps | with_reducible apply fieldLogout_keeps
      | with_reducible apply Keeps.ite | extract_lets | dsimp +zetaDelta only

theorem cardAuth_keeps (c : Nat) (r0 : CardVerdict) (h : Keeps r s) : Keeps r (cardAuth c r0 s) := by
  unfold cardAuth
  repeat'
    first
      | intro q | with_reducible assumption | with_reducible apply cardReport_keeps | with_reducible apply inc_keeps
      | with_reducible apply Keeps.ite | split | extract_lets | dsimp +zetaDelta only | with_reducible apply Keeps.upd

theorem ctlRestart_keeps (h : Keeps r s) : Keeps r (ctlRestart s) := by
  unfold ctlRestart
  repeat'
    first
      | intro q | with_reducible assumption | with_reducible apply each_keeps | with_reducible apply memEnd_keeps
      | with_reducible apply Keeps.ite | extract_lets | dsimp +zetaDelta only

theorem ctlCfgSet_keeps (h : Keeps r s) : Keeps r (ctlCfgSet s) := by
  unfold ctlCfgSet
  repeat'
    first
      | intro q | with_reducible assumption | with_reducible apply readerOn_keeps | with_reducible apply harvest_keeps
      | with_reducible apply Keeps.ite | extract_lets | dsimp +zetaDelta only

theorem slPathSeen_keeps (p : Nat) (path : Nat) (h : Keeps r s) : Keeps r (slPathSeen p path s) := by
  unfold slPathSeen
  repeat'
    first
      | intro q | with_reducible assumption | with_reducible apply addV_keeps | with_reducible apply setV_keeps
      | with_reducible apply Keeps.ite | extract_lets | dsimp +zetaDelta only

theorem slStat_keeps (p : Nat) (new : Nat) (h : Keeps r s) : Keeps r (slStat p new s) := by
  unfold slStat
  repeat'
    first
      | intro q | with_reducible assumption | with_reducible apply submit_keeps | with_reducible apply hwf_keeps
      | with_reducible apply evt_keeps | with_reducible apply faultMove_keeps | with_reducible apply Keeps.ite | extract_lets
      | dsimp +zetaDelta only

theorem slRefresh_keeps (p : Nat) (h : Keeps r s) : Keeps r (slRefresh p s) := by
  unfold slRefresh
  repeat'
    first
      | intro q | with_reducible assumption | with_reducible apply setV_keeps | with_reducible apply slStat_keeps
      | with_reducible apply Keeps.ite | extract_lets | dsimp +zetaDelta only

theorem slAccept_keeps (p : Nat) (seq : Nat) (bits : Nat) (h : Keeps r s) : Keeps r (slAccept p seq bits s) := by
  unfold slAccept
  repeat'
    first
      | intro q | with_reducible assumption | with_reducible apply setV_keeps | with_reducible apply slRefresh_keeps
      | with_reducible apply hwf_keeps | with_reducible apply Keeps.ite | extract_lets | dsimp +zetaDelta only

theorem slApply_keeps (p : Nat) (h : Keeps r s) : Keeps r (slApply p s) := by
  unfold slApply
  repeat'
    first
      | intro q | with_reducible assumption | with_reducible apply sourcesSeen_keeps | with_reducible apply eachBelow_keeps
      | with_reducible apply tinRefresh_keeps | with_reducible apply setV_keeps | with_reducible apply commonOnce_keeps
      | with_reducible apply Keeps.ite | extract_lets | dsimp +zetaDelta only

theorem slCopy_keeps (path : Nat) (f : List Byte) (h : Keeps r s) : Keeps r (slCopy path f s) := by
  unfold slCopy
  repeat'
    first
      | intro q | with_reducible assumption | with_reducible apply inc_keeps | with_reducible apply setV_keeps
      | with_reducible apply slPathSeen_keeps | with_reducible apply slAccept_keeps | with_reducible apply slRefresh_keeps
      | with_reducible apply hwf_keeps | with_reducible apply slApply_keeps | with_reducible apply Keeps.ite | split
      | extract_lets | dsimp +zetaDelta only | with_reducible apply Keeps.upd

theorem slAwait_keeps (p : Nat) (h : Keeps r s) : Keeps r (slAwait p s) := by
  unfold slAwait
  repeat'
    first
      | intro q | with_reducible assumption | with_reducible apply setV_keeps | with_reducible apply eachBelow_keeps
      | with_reducible apply Keeps.ite | extract_lets | dsimp +zetaDelta only

theorem slPowerOn_keeps (h : Keeps r s) : Keeps r (slPowerOn s) := by
  unfold slPowerOn
  repeat'
    first
      | intro q | with_reducible assumption | with_reducible apply setV_keeps | with_reducible apply eachBelow_keeps
      | with_reducible apply slAwait_keeps | with_reducible apply hwf_keeps | with_reducible apply Keeps.ite | extract_lets
      | dsimp +zetaDelta only | with_reducible apply Keeps.upd

theorem slPairTimeout_keeps (p : Nat) (h : Keeps r s) : Keeps r (slPairTimeout p s) := by
  unfold slPairTimeout
  repeat'
    first
      | intro q | with_reducible assumption | with_reducible apply inc_keeps | with_reducible apply Keeps.ite | extract_lets
      | dsimp +zetaDelta only | with_reducible apply Keeps.upd

theorem slFollow_keeps (before : State) (h : Keeps r s) : Keeps r (slFollow before s) := by
  unfold slFollow
  repeat'
    first
      | intro q | with_reducible assumption | with_reducible apply eachBelow_keeps | with_reducible apply slApply_keeps
      | with_reducible apply slStat_keeps | with_reducible apply slAwait_keeps | with_reducible apply Keeps.ite | extract_lets
      | dsimp +zetaDelta only

theorem slWatchdog_keeps (p : Nat) (path : Option Nat) (h : Keeps r s) : Keeps r (slWatchdog p path s) := by
  unfold slWatchdog
  repeat'
    first
      | intro q | with_reducible assumption | with_reducible apply inc_keeps | with_reducible apply setV_keeps
      | with_reducible apply slApply_keeps | with_reducible apply slStat_keeps | with_reducible apply slRefresh_keeps
      | with_reducible apply Keeps.ite | split | extract_lets | dsimp +zetaDelta only

theorem slTransmit_keeps (same : Bool) (h : Keeps r s) : Keeps r (slTransmit same s) := by
  unfold slTransmit
  repeat'
    first
      | intro q | with_reducible assumption | with_reducible apply setV_keeps | with_reducible apply inc_keeps
      | with_reducible apply channelExchange_keeps | with_reducible apply Keeps.ite | extract_lets | dsimp +zetaDelta only
      | with_reducible apply Keeps.upd

theorem macsDrop_keeps (p : Nat) (h : Keeps r s) : Keeps r (macsDrop p s) := by
  unfold macsDrop
  repeat'
    first
      | intro q | with_reducible assumption | with_reducible apply Keeps.ite | extract_lets | dsimp +zetaDelta only
      | with_reducible apply Keeps.upd

theorem tally_keeps (a' : Nat) (lo : Nat) (w : Nat) (n : Nat) (h : Keeps r s) : Keeps r (tally a' lo w n s) := by
  unfold tally
  repeat'
    first
      | intro q | with_reducible assumption | with_reducible apply wrf_keeps | with_reducible apply Keeps.ite | extract_lets
      | dsimp +zetaDelta only

theorem portEmpty_keeps (p : Nat) (h : Keeps r s) : Keeps r (portEmpty p s) := by
  unfold portEmpty
  repeat'
    first
      | intro q | with_reducible assumption | with_reducible apply macsDrop_keeps | with_reducible apply tally_keeps
      | with_reducible apply hwf_keeps | with_reducible apply setV_keeps | with_reducible apply Keeps.ite | extract_lets
      | dsimp +zetaDelta only | with_reducible apply Keeps.upd

theorem netShow_keeps (h : Keeps r s) : Keeps r (netShow s) := by
  unfold netShow
  repeat'
    first
      | intro q | with_reducible assumption | with_reducible apply hw_keeps | with_reducible apply Keeps.ite
      | with_reducible apply foldl_keeps | with_reducible apply foldl_fst_keeps | extract_lets | dsimp +zetaDelta only

theorem setPort_keeps (p : Nat) (new : Nat) (cause : Nat) (h : Keeps r s) : Keeps r (setPort p new cause s) := by
  unfold setPort
  repeat'
    first
      | intro q | with_reducible assumption | with_reducible apply ptpPortDown_keeps | with_reducible apply portEmpty_keeps
      | with_reducible apply ptpPortUp_keeps | with_reducible apply hwf_keeps | with_reducible apply evt_keeps
      | with_reducible apply inc_keeps | with_reducible apply submit_keeps | with_reducible apply netShow_keeps
      | with_reducible apply faultMove_keeps | with_reducible apply Keeps.ite | extract_lets | dsimp +zetaDelta only

theorem portDown_keeps (p : Nat) (cause : Nat) (h : Keeps r s) : Keeps r (portDown p cause s) := by
  unfold portDown
  repeat'
    first
      | intro q | with_reducible assumption | with_reducible apply setPort_keeps | with_reducible apply Keeps.ite | extract_lets
      | dsimp +zetaDelta only | with_reducible apply Keeps.upd

theorem ethDrain_keeps (c p k : Nat) (h : Keeps r s) : Keeps r (ethDrain c p k s) := by
  induction k generalizing s with
  | zero => exact h
  | succ k ih =>
    unfold ethDrain
    split
    · exact h
    · exact Keeps.ite h (ih (tally_keeps _ _ _ _ (setV_keeps _ _ _ h.upd)))

theorem ethEnqueue_keeps (p : Nat) (queue : Nat) (len : Nat) (h : Keeps r s) : Keeps r (ethEnqueue p queue len s) := by
  unfold ethEnqueue
  repeat'
    first
      | intro q | with_reducible assumption | with_reducible apply ethDrain_keeps | with_reducible apply tally_keeps
      | with_reducible apply Keeps.ite | extract_lets | dsimp +zetaDelta only | with_reducible apply Keeps.upd

theorem slSentOut_keeps (before : State) (h : Keeps r s) : Keeps r (slSentOut before s) := by
  unfold slSentOut
  repeat'
    first
      | intro q | with_reducible assumption | with_reducible apply ethEnqueue_keeps | with_reducible apply Keeps.ite | split
      | extract_lets | dsimp +zetaDelta only

theorem netPowerOn_keeps (h : Keeps r s) : Keeps r (netPowerOn s) := by
  unfold netPowerOn
  repeat'
    first
      | intro q | with_reducible assumption | with_reducible apply netShow_keeps | with_reducible apply eachBelow_keeps
      | with_reducible apply setV_keeps | with_reducible apply hw_keeps | with_reducible apply Keeps.ite | extract_lets
      | dsimp +zetaDelta only | with_reducible apply Keeps.upd

theorem macsYoung_keeps (keep : Nat → Bool) (h : Keeps r s) : Keeps r (macsYoung s keep) := by
  unfold macsYoung
  repeat'
    first
      | intro q | with_reducible assumption | with_reducible apply netShow_keeps | with_reducible apply Keeps.ite | extract_lets
      | dsimp +zetaDelta only | with_reducible apply Keeps.upd

theorem netPost_keeps (p : Nat) (t' : NetTrig) (h : Keeps r s) : Keeps r (netPost p t' s) := by
  unfold netPost
  repeat'
    first
      | intro q | with_reducible assumption | with_reducible apply Keeps.ite | extract_lets | dsimp +zetaDelta only
      | with_reducible apply Keeps.upd

theorem portLinkDown_keeps (p : Nat) (h : Keeps r s) : Keeps r (portLinkDown p s) := by
  unfold portLinkDown
  repeat'
    first
      | intro q | with_reducible assumption | with_reducible apply netPost_keeps | with_reducible apply Keeps.ite | extract_lets
      | dsimp +zetaDelta only

theorem netRestart_keeps (h : Keeps r s) : Keeps r (netRestart s) := by
  unfold netRestart
  repeat'
    first
      | intro q | with_reducible assumption | with_reducible apply netShow_keeps | with_reducible apply Keeps.ite | extract_lets
      | dsimp +zetaDelta only | with_reducible apply Keeps.upd

theorem portQualified_keeps (p : Nat) (h : Keeps r s) : Keeps r (portQualified p s) := by
  unfold portQualified
  repeat'
    first
      | intro q | with_reducible assumption | with_reducible apply netPost_keeps | with_reducible apply Keeps.ite | extract_lets
      | dsimp +zetaDelta only

theorem ptpSent_keeps (h : Keeps r s) : Keeps r (ptpSent s) := by
  unfold ptpSent
  repeat'
    first
      | intro q | with_reducible assumption | with_reducible apply each_keeps | with_reducible apply ethEnqueue_keeps
      | with_reducible apply Keeps.ite | extract_lets | dsimp +zetaDelta only

theorem netTrigger_keeps (p : Nat) (t' : NetTrig) (h : Keeps r s) : Keeps r (netTrigger p t' s) := by
  unfold netTrigger
  repeat'
    first
      | intro q | with_reducible assumption | with_reducible apply setPort_keeps | with_reducible apply portDown_keeps
      | with_reducible apply hwf_keeps | with_reducible apply setV_keeps | with_reducible apply Keeps.ite | split | extract_lets
      | dsimp +zetaDelta only | with_reducible apply Keeps.upd

theorem balSentOut_keeps (before : State) (h : Keeps r s) : Keeps r (balSentOut before s) := by
  unfold balSentOut
  repeat'
    first
      | intro q | with_reducible assumption | with_reducible apply each_keeps | with_reducible apply eachBelow_keeps
      | with_reducible apply ethEnqueue_keeps | with_reducible apply Keeps.ite | extract_lets | dsimp +zetaDelta only

theorem portError_keeps (p : Nat) (h : Keeps r s) : Keeps r (portError p s) := by
  unfold portError
  repeat'
    first
      | intro q | with_reducible assumption | with_reducible apply tally_keeps | with_reducible apply netPost_keeps
      | with_reducible apply Keeps.ite | extract_lets | dsimp +zetaDelta only | with_reducible apply Keeps.upd

theorem macAge_keeps (a' : Nat) (h : Keeps r s) : Keeps r (macAge a' s) := by
  unfold macAge
  repeat'
    first
      | intro q | with_reducible assumption | with_reducible apply macsYoung_keeps | with_reducible apply Keeps.ite
      | extract_lets | dsimp +zetaDelta only

theorem ethSend_keeps (h : Keeps r s) : Keeps r (ethSend s) := by
  unfold ethSend
  repeat'
    first
      | intro q | with_reducible assumption | with_reducible apply eachBelow_keeps | with_reducible apply ethDrain_keeps
      | with_reducible apply Keeps.ite | extract_lets | dsimp +zetaDelta only

theorem portLinkUp_keeps (p : Nat) (speed : Nat) (full : Bool) (h : Keeps r s) : Keeps r (portLinkUp p speed full s) := by
  unfold portLinkUp
  repeat'
    first
      | intro q | with_reducible assumption | with_reducible apply netPost_keeps | with_reducible apply Keeps.ite | extract_lets
      | dsimp +zetaDelta only

theorem macLearn_keeps (p : Nat) (a' : Nat) (h : Keeps r s) : Keeps r (macLearn p a' s) := by
  unfold macLearn
  repeat'
    first
      | intro q | with_reducible assumption | with_reducible apply netShow_keeps | with_reducible apply Keeps.ite | extract_lets
      | dsimp +zetaDelta only | with_reducible apply Keeps.upd

theorem netStep_keeps (h : Keeps r s) : Keeps r (netStep s) := by
  unfold netStep
  repeat'
    first
      | intro q | with_reducible assumption | with_reducible apply macsYoung_keeps | with_reducible apply eachBelow_keeps
      | with_reducible apply netTrigger_keeps | with_reducible apply each_keeps | with_reducible apply Keeps.ite | extract_lets
      | dsimp +zetaDelta only | with_reducible apply Keeps.upd

theorem netPCfgSet_keeps (p : Nat) (old : Nat) (h : Keeps r s) : Keeps r (netPCfgSet p old s) := by
  unfold netPCfgSet
  repeat'
    first
      | intro q | with_reducible assumption | with_reducible apply netPost_keeps | with_reducible apply hwf_keeps
      | with_reducible apply Keeps.ite | extract_lets | dsimp +zetaDelta only

theorem frameReceived_keeps (p : Nat) (f : EthFrame) (h : Keeps r s) : Keeps r (frameReceived p f s) := by
  unfold frameReceived
  repeat'
    first
      | intro q | with_reducible assumption | with_reducible apply portError_keeps | with_reducible apply tally_keeps
      | with_reducible apply macLearn_keeps | with_reducible apply each_keeps | with_reducible apply ethEnqueue_keeps
      | with_reducible apply Keeps.ite | split | extract_lets | dsimp +zetaDelta only

theorem netEffect_keeps (code : Nat) (arg : Nat) (h : Keeps r s) : Keeps r (netEffect code arg s) := by
  unfold netEffect
  repeat'
    first
      | intro q | with_reducible assumption | with_reducible apply netPost_keeps | with_reducible apply netShow_keeps
      | with_reducible apply Keeps.ite | extract_lets | dsimp +zetaDelta only | with_reducible apply Keeps.upd

theorem beaconAbandoned_keeps (p : Nat) (h : Keeps r s) : Keeps r (beaconAbandoned p s) := by
  unfold beaconAbandoned
  repeat'
    first
      | intro q | with_reducible assumption | with_reducible apply inc_keeps | with_reducible apply Keeps.ite | split
      | extract_lets | dsimp +zetaDelta only | with_reducible apply Keeps.upd

theorem observe_keeps (p : Nat) (e : Nat) (cls : Nat) (angle : Nat) (h : Keeps r s) : Keeps r (observe p e cls angle s) := by
  unfold observe
  repeat'
    first
      | intro q | with_reducible assumption | with_reducible apply hwf_keeps | with_reducible apply setV_keeps
      | with_reducible apply evt_keeps | with_reducible apply hwb_keeps | with_reducible apply submit_keeps
      | with_reducible apply Keeps.ite | extract_lets | dsimp +zetaDelta only

theorem nbCount_keeps (p : Nat) (h : Keeps r s) : Keeps r (nbCount p s) := by
  unfold nbCount
  repeat'
    first
      | intro q | with_reducible assumption | with_reducible apply hwf_keeps | with_reducible apply Keeps.ite | extract_lets
      | dsimp +zetaDelta only

theorem beacon_keeps (p : Nat) (src : Nat) (c : Int) (attenDb : Nat) (payload : List Byte) (h : Keeps r s) : Keeps r (beacon p
    src c attenDb payload s) := by
  unfold beacon
  repeat'
    first
      | intro q | with_reducible assumption | with_reducible apply hwf_keeps | with_reducible apply setV_keeps
      | with_reducible apply observe_keeps | with_reducible apply inc_keeps | with_reducible apply hw_keeps
      | with_reducible apply evt_keeps | with_reducible apply nbCount_keeps | with_reducible apply Keeps.ite | split
      | extract_lets | dsimp +zetaDelta only

theorem mlkRefresh_keeps (h : Keeps r s) : Keeps r (mlkRefresh s) := by
  unfold mlkRefresh
  repeat'
    first
      | intro q | with_reducible assumption | with_reducible apply eachBelow_keeps | with_reducible apply hwf_keeps
      | with_reducible apply Keeps.ite | extract_lets | dsimp +zetaDelta only

theorem linkFault_keeps (p : Nat) (h : Keeps r s) : Keeps r (linkFault p s) := by
  unfold linkFault
  repeat'
    first
      | intro q | with_reducible assumption | with_reducible apply fault_keeps | with_reducible apply Keeps.ite | extract_lets
      | dsimp +zetaDelta only

theorem noiseTimeout_keeps (p : Nat) (h : Keeps r s) : Keeps r (noiseTimeout p s) := by
  unfold noiseTimeout
  repeat'
    first
      | intro q | with_reducible assumption | with_reducible apply inc_keeps | with_reducible apply Keeps.ite | extract_lets
      | dsimp +zetaDelta only

theorem nbEnded_keeps (p : Nat) (serial : Nat) (resends : Nat) (h : Keeps r s) : Keeps r (nbEnded p serial resends s) := by
  unfold nbEnded
  repeat'
    first
      | intro q | with_reducible assumption | with_reducible apply hwf_keeps | with_reducible apply Keeps.ite | split
      | extract_lets | dsimp +zetaDelta only | with_reducible apply Keeps.upd

theorem nbRemove_keeps (p : Nat) (e : Nat) (h : Keeps r s) : Keeps r (nbRemove p e s) := by
  unfold nbRemove
  repeat'
    first
      | intro q | with_reducible assumption | with_reducible apply evt_keeps | with_reducible apply nbCount_keeps
      | with_reducible apply hw_keeps | with_reducible apply Keeps.ite | extract_lets | dsimp +zetaDelta only
      | with_reducible apply Keeps.upd

theorem driverMoved_keeps (p : Nat) (entry : Bool) (h : Keeps r s) : Keeps r (driverMoved p entry s) := by
  unfold driverMoved
  repeat'
    first
      | intro q | with_reducible assumption | with_reducible apply linkFault_keeps | with_reducible apply submit_keeps
      | with_reducible apply Keeps.ite | extract_lets | dsimp +zetaDelta only

theorem linkStart_keeps (p : Nat) (h : Keeps r s) : Keeps r (linkStart p s) := by
  unfold linkStart
  extract_lets a s1
  have h1 : Keeps r s1 := h.upd
  clear_value s1
  have h2 : Keeps r ((s1.hwf a 0 2 (if s1.bit (Reg.mlkPCfg p) 0 then 2 else 0)).hwb a 2 false) := hwb_keeps _ _ _ (hwf_keeps _ _ _ _ h1)
  split
  · exact driverMoved_keeps _ _ h2
  · exact linkFault_keeps _ h2

theorem mlkCfgSet_keeps (p : Nat) (h : Keeps r s) : Keeps r (mlkCfgSet p s) := by
  unfold mlkCfgSet
  repeat'
    first
      | intro q | with_reducible assumption | with_reducible apply linkFault_keeps | with_reducible apply linkStart_keeps
      | with_reducible apply Keeps.ite | extract_lets | dsimp +zetaDelta only

theorem beaconDue_keeps (p : Nat) (h : Keeps r s) : Keeps r (beaconDue p s) := by
  unfold beaconDue
  repeat'
    first
      | intro q | with_reducible assumption | with_reducible apply setV_keeps | with_reducible apply Keeps.ite | extract_lets
      | dsimp +zetaDelta only | with_reducible apply Keeps.upd

theorem zxLoss_keeps (z : Nat) (h : Keeps r s) : Keeps r (zxLoss z s) := by
  unfold zxLoss
  repeat'
    first
      | intro q | with_reducible assumption | with_reducible apply evt_keeps | with_reducible apply hwb_keeps
      | with_reducible apply linkFault_keeps | with_reducible apply hwf_keeps | with_reducible apply Keeps.ite | extract_lets
      | dsimp +zetaDelta only

theorem beaconsLate_keeps (p : Nat) (h : Keeps r s) : Keeps r (beaconsLate p s) := by
  unfold beaconsLate
  repeat'
    first
      | intro q | with_reducible assumption | with_reducible apply inc_keeps | with_reducible apply Keeps.ite | extract_lets
      | dsimp +zetaDelta only | with_reducible apply Keeps.upd

theorem nbClear_keeps (p : Nat) (h : Keeps r s) : Keeps r (nbClear p s) := by
  unfold nbClear
  repeat'
    first
      | intro q | with_reducible assumption | with_reducible apply eachBelow_keeps | with_reducible apply nbRemove_keeps
      | with_reducible apply Keeps.ite | extract_lets | dsimp +zetaDelta only

theorem linkFrame_keeps (p : Nat) (b : List Byte) (dt attenDb : Nat) (h : Keeps r s) : Keeps r (linkFrame p b dt attenDb s).1 := by
  unfold linkFrame
  extract_lets
  split
  · exact h
  split
  · exact inc_keeps _ _ _ _ h
  split
  · exact h
  split
  · exact Keeps.ite (beacon_keeps _ _ _ _ _ (inc_keeps _ _ _ _ h)) (inc_keeps _ _ _ _ h)
  split
  · exact inc_keeps _ _ _ _ h
  · exact (inc_keeps _ _ _ _ h).upd

theorem mlkRestart_keeps (h : Keeps r s) : Keeps r (mlkRestart s) := by
  unfold mlkRestart
  repeat'
    first
      | intro q | with_reducible assumption | with_reducible apply linkStart_keeps | with_reducible apply Keeps.ite
      | extract_lets | dsimp +zetaDelta only

theorem backoffEnd_keeps (p : Nat) (h : Keeps r s) : Keeps r (backoffEnd p s) := by
  unfold backoffEnd
  repeat'
    first
      | intro q | with_reducible assumption | with_reducible apply beaconsLate_keeps | with_reducible apply inc_keeps
      | with_reducible apply setV_keeps | with_reducible apply Keeps.ite | split | extract_lets | dsimp +zetaDelta only
      | with_reducible apply Keeps.upd

theorem linkAck_keeps (p : Nat) (lseq : Nat) (ok : Bool) (h : Keeps r s) : Keeps r (linkAck p lseq ok s) := by
  unfold linkAck
  repeat'
    first
      | intro q | with_reducible assumption | with_reducible apply nbEnded_keeps | with_reducible apply inc_keeps
      | with_reducible apply Keeps.ite | split | extract_lets | dsimp +zetaDelta only | with_reducible apply Keeps.upd

theorem nbAge_keeps (p : Nat) (e : Nat) (h : Keeps r s) : Keeps r (nbAge p e s) := by
  unfold nbAge
  repeat'
    first
      | intro q | with_reducible assumption | with_reducible apply nbRemove_keeps | with_reducible apply Keeps.ite
      | extract_lets | dsimp +zetaDelta only

theorem driverRetry_keeps (p : Nat) (h : Keeps r s) : Keeps r (driverRetry p s) := by
  unfold driverRetry
  repeat'
    first
      | intro q | with_reducible assumption | with_reducible apply driverMoved_keeps | with_reducible apply hwb_keeps
      | with_reducible apply hwf_keeps | with_reducible apply Keeps.ite | extract_lets | dsimp +zetaDelta only

theorem linkRelay_keeps (dst : Nat) (prio : Nat) (payload : List Byte) (h : Keeps r s) : Keeps r (linkRelay dst prio payload s)
    := by
  unfold linkRelay
  repeat'
    first
      | intro q | with_reducible assumption | with_reducible apply eachBelow_keeps | with_reducible apply Keeps.ite
      | extract_lets | dsimp +zetaDelta only | with_reducible apply Keeps.upd

theorem driverOff_keeps (p : Nat) (h : Keeps r s) : Keeps r (driverOff p s) := by
  unfold driverOff
  repeat'
    first
      | intro q | with_reducible assumption | with_reducible apply driverMoved_keeps | with_reducible apply evt_keeps
      | with_reducible apply setV_keeps | with_reducible apply hwb_keeps | with_reducible apply hwf_keeps
      | with_reducible apply Keeps.ite | extract_lets | dsimp +zetaDelta only

theorem mlkEffect_keeps (code : Nat) (arg : Nat) (h : Keeps r s) : Keeps r (mlkEffect code arg s) := by
  unfold mlkEffect
  repeat'
    first
      | intro q | with_reducible assumption | with_reducible apply linkStart_keeps | with_reducible apply nbClear_keeps
      | with_reducible apply Keeps.ite | extract_lets | dsimp +zetaDelta only

theorem mlkPowerOn_keeps (h : Keeps r s) : Keeps r (mlkPowerOn s) := by
  unfold mlkPowerOn
  repeat'
    first
      | intro q | with_reducible assumption | with_reducible apply eachBelow_keeps | with_reducible apply setV_keeps
      | with_reducible apply mlkRestart_keeps | with_reducible apply Keeps.ite | extract_lets | dsimp +zetaDelta only
      | with_reducible apply Keeps.upd

theorem zeroCrossing_keeps (z : Nat) (dt : Nat) (h : Keeps r s) : Keeps r (zeroCrossing z dt s) := by
  unfold zeroCrossing
  repeat'
    first
      | intro q | with_reducible assumption | with_reducible apply setV_keeps | with_reducible apply hwb_keeps
      | with_reducible apply hwf_keeps | with_reducible apply linkFault_keeps | with_reducible apply Keeps.ite
      | with_reducible apply foldl_keeps | with_reducible apply foldl_fst_keeps | extract_lets | dsimp +zetaDelta only

theorem limitSet_keeps (w : Nat) (margin : Nat) (h : Keeps r s) : Keeps r (limitSet w margin s) := by
  unfold limitSet
  repeat'
    first
      | intro q | with_reducible assumption | with_reducible apply hw_keeps | with_reducible apply Keeps.ite | extract_lets
      | dsimp +zetaDelta only

theorem limitItem_keeps (q : Nat) (now : Nat) (h : Keeps r s) : Keeps r (limitItem q now s) := by
  unfold limitItem
  repeat'
    first
      | intro q | with_reducible assumption | with_reducible apply inc_keeps | with_reducible apply queTake_keeps
      | with_reducible apply setV_keeps | with_reducible apply limitSet_keeps | with_reducible apply submit_keeps
      | with_reducible apply remember_keeps | with_reducible apply Keeps.ite | split | extract_lets | dsimp +zetaDelta only

theorem limitItems_keeps (t' : Int) (h : Keeps r s) : Keeps r (limitItems t' s) := by
  unfold limitItems
  repeat'
    first
      | intro q | with_reducible assumption | with_reducible apply limitItem_keeps | with_reducible apply Keeps.ite | split
      | with_reducible apply foldl_keeps | with_reducible apply foldl_fst_keeps | extract_lets | dsimp +zetaDelta only

theorem hardRelease_keeps (t' : Nat) (cause : Nat) (h : Keeps r s) : Keeps r (hardRelease t' cause s) := by
  unfold hardRelease
  repeat'
    first
      | intro q | with_reducible assumption | with_reducible apply trigger_keeps | with_reducible apply setV_keeps
      | with_reducible apply hardPauseEnd_keeps | with_reducible apply Keeps.ite | extract_lets | dsimp +zetaDelta only

theorem alcEffect_keeps (code : Nat) (arg : Nat) (h : Keeps r s) : Keeps r (alcEffect code arg s) := by
  unfold alcEffect
  repeat'
    first
      | intro q | with_reducible assumption | with_reducible apply limitSet_keeps | with_reducible apply limitItems_keeps
      | with_reducible apply evt_keeps | with_reducible apply hardRelease_keeps | with_reducible apply Keeps.ite | extract_lets
      | dsimp +zetaDelta only

theorem noInstant_keeps (h : Keeps r s) : Keeps r (noInstant s) := by
  unfold noInstant
  repeat'
    first
      | intro q | with_reducible assumption | with_reducible apply Keeps.ite | extract_lets | dsimp +zetaDelta only
      | with_reducible apply Keeps.upd

theorem alcReset_keeps (h : Keeps r s) : Keeps r (alcReset s) := by
  unfold alcReset
  repeat'
    first
      | intro q | with_reducible assumption | with_reducible apply eachBelow_keeps | with_reducible apply setV_keeps
      | with_reducible apply hw_keeps | with_reducible apply noInstant_keeps | with_reducible apply hwf_keeps
      | with_reducible apply Keeps.ite | extract_lets | dsimp +zetaDelta only

theorem hardPause_keeps (i : AlcIn) (h : Keeps r s) : Keeps r (hardPause i s) := by
  unfold hardPause
  repeat'
    first
      | intro q | with_reducible assumption | with_reducible apply each_keeps | with_reducible apply trigger_keeps
      | with_reducible apply hardPauseRec_keeps | with_reducible apply hwb_keeps | with_reducible apply evt_keeps
      | with_reducible apply inc_keeps | with_reducible apply Keeps.ite | split | with_reducible apply foldl_keeps
      | with_reducible apply foldl_fst_keeps | extract_lets | dsimp +zetaDelta only

theorem overCount_keeps (i : AlcIn) (exceeds : Bool) (h : Keeps r s) : Keeps r (overCount i exceeds s) := by
  unfold overCount
  repeat'
    first
      | intro q | with_reducible assumption | with_reducible apply hardPause_keeps | with_reducible apply setV_keeps
      | with_reducible apply Keeps.ite | extract_lets | dsimp +zetaDelta only

theorem alcLatch_keeps (before : Bool) (h : Keeps r s) : Keeps r (alcLatch before s) := by
  unfold alcLatch
  repeat'
    first
      | intro q | with_reducible assumption | with_reducible apply limitItems_keeps | with_reducible apply inc_keeps
      | with_reducible apply setV_keeps | with_reducible apply Keeps.ite | extract_lets | dsimp +zetaDelta only
      | with_reducible apply Keeps.upd

theorem grantStall_keeps (t' : Nat) (h : Keeps r s) : Keeps r (grantStall t' s) := by
  unfold grantStall
  repeat'
    first
      | intro q | with_reducible assumption | with_reducible apply hwb_keeps | with_reducible apply setV_keeps
      | with_reducible apply hw_keeps | with_reducible apply quePlace_keeps | with_reducible apply inc_keeps
      | with_reducible apply grantActs_keeps | with_reducible apply Keeps.ite | extract_lets | dsimp +zetaDelta only

theorem hardPauseResume_keeps (h : Keeps r s) : Keeps r (hardPauseResume s) := by
  unfold hardPauseResume
  repeat'
    first
      | intro q | with_reducible assumption | with_reducible apply evt_keeps | with_reducible apply setV_keeps
      | with_reducible apply each_keeps | with_reducible apply hardRelease_keeps | with_reducible apply Keeps.ite
      | with_reducible apply foldl_keeps | with_reducible apply foldl_fst_keeps | extract_lets | dsimp +zetaDelta only

theorem resumeWatch_keeps (i : AlcIn) (run : Bool) (pg100 : Int) (h : Keeps r s) : Keeps r (resumeWatch i run pg100 s) := by
  unfold resumeWatch
  repeat'
    first
      | intro q | with_reducible assumption | with_reducible apply eachBelow_keeps | with_reducible apply setV_keeps
      | with_reducible apply Keeps.ite | extract_lets | dsimp +zetaDelta only

theorem allocationInstant_keeps (h : Keeps r s) : Keeps r (allocationInstant s) := by
  unfold allocationInstant
  repeat'
    first
      | intro q | with_reducible assumption | with_reducible apply setV_keeps | with_reducible apply hw_keeps
      | with_reducible apply hwb_keeps | with_reducible apply evt_keeps | with_reducible apply overCount_keeps
      | with_reducible apply resumeWatch_keeps | with_reducible apply eachBelow_keeps | with_reducible apply hwf_keeps
      | with_reducible apply Keeps.ite | extract_lets | dsimp +zetaDelta only

theorem grantCommit_keeps (h : Keeps r s) : Keeps r (grantCommit s) := by
  unfold grantCommit
  repeat'
    first
      | intro q | with_reducible assumption | with_reducible apply eachBelow_keeps | with_reducible apply grantStall_keeps
      | with_reducible apply setV_keeps | with_reducible apply Keeps.ite | extract_lets | dsimp +zetaDelta only

theorem hlcFail_keeps (stall : Nat) (h : Keeps r s) : Keeps r (hlcFail stall s) := by
  unfold hlcFail
  repeat'
    first
      | intro q | with_reducible assumption | with_reducible apply setV_keeps | with_reducible apply vhsClose_keeps
      | with_reducible apply hwb_keeps | with_reducible apply hwf_keeps | with_reducible apply demandRefresh_keeps | with_reducible apply dutyRefresh_keeps
      | with_reducible apply evt_keeps | with_reducible apply trigger_keeps | with_reducible apply Keeps.ite | extract_lets
      | dsimp +zetaDelta only

theorem recordTaken_keeps (stall : Nat) (r' : TlsRec) (h : Keeps r s) : Keeps r (recordTaken stall r' s) := by
  unfold recordTaken
  repeat'
    first
      | intro q | with_reducible assumption | with_reducible apply checkpoint_keeps | with_reducible apply setV_keeps
      | with_reducible apply setVeh_keeps | with_reducible apply ephNew_keeps | with_reducible apply Keeps.ite | extract_lets
      | dsimp +zetaDelta only

theorem slacParam_keeps (stall : Nat) (runId : Nat) (atten : Nat) (h : Keeps r s) : Keeps r (slacParam stall runId atten s) := by
  unfold slacParam
  repeat'
    first
      | intro q | with_reducible assumption | with_reducible apply setV_keeps | with_reducible apply addV_keeps
      | with_reducible apply hwf_keeps | with_reducible apply setVeh_keeps | with_reducible apply Keeps.ite | extract_lets
      | dsimp +zetaDelta only

theorem stopGrace_keeps (stall : Nat) (h : Keeps r s) : Keeps r (stopGrace stall s) := by
  unfold stopGrace
  repeat'
    first
      | intro q | with_reducible assumption | with_reducible apply fbSupervise_keeps | with_reducible apply withdraw_keeps
      | with_reducible apply setV_keeps | with_reducible apply Keeps.ite | extract_lets | dsimp +zetaDelta only

theorem requestActs_keeps (stall : Nat) (r' : V2gReq) (h : Keeps r s) : Keeps r (requestActs stall r' s) := by
  unfold requestActs
  repeat'
    first
      | intro q | with_reducible assumption | with_reducible apply setVeh_keeps | with_reducible apply trigger_keeps
      | with_reducible apply hwb_keeps | with_reducible apply Keeps.ite | split | extract_lets | dsimp +zetaDelta only

theorem authDeadline_keeps (stall : Nat) (h : Keeps r s) : Keeps r (authDeadline stall s) := by
  unfold authDeadline
  repeat'
    first
      | intro q | with_reducible assumption | with_reducible apply inc_keeps | with_reducible apply submit_keeps
      | with_reducible apply answered_keeps | with_reducible apply sessMap_keeps | with_reducible apply evt_keeps
      | with_reducible apply trigger_keeps | with_reducible apply Keeps.ite | extract_lets | dsimp +zetaDelta only

theorem frontEndsHealthy_keeps (stall : Nat) (h : Keeps r s) : Keeps r (frontEndsHealthy stall s) := by
  unfold frontEndsHealthy
  repeat'
    first
      | intro q | with_reducible assumption | with_reducible apply each_keeps | with_reducible apply fault_keeps
      | with_reducible apply setV_keeps | with_reducible apply Keeps.ite | extract_lets | dsimp +zetaDelta only

theorem modemFrame_keeps (stall : Nat) (blocks : List Nat) (h : Keeps r s) : Keeps r (modemFrame stall blocks s) := by
  unfold modemFrame
  repeat'
    first
      | intro q | with_reducible assumption | with_reducible apply inc_keeps | with_reducible apply Keeps.ite | extract_lets
      | dsimp +zetaDelta only

theorem appProtocol_keeps (stall : Nat) (offers : List (Nat × Nat)) (h : Keeps r s) : Keeps r (appProtocol stall offers s) := by
  unfold appProtocol
  repeat'
    first
      | intro q | with_reducible assumption | with_reducible apply hlcFail_keeps | with_reducible apply setV_keeps
      | with_reducible apply hwb_keeps | with_reducible apply hwf_keeps | with_reducible apply evt_keeps
      | with_reducible apply sendRes_keeps | with_reducible apply sessStep_keeps | with_reducible apply Keeps.ite | split
      | with_reducible apply foldl_keeps | with_reducible apply foldl_fst_keeps | extract_lets | dsimp +zetaDelta only

theorem takeParams_keeps (stall : Nat) (r' : V2gReq) (h : Keeps r s) : Keeps r (takeParams stall r' s) := by
  unfold takeParams
  repeat'
    first
      | intro q | with_reducible assumption | with_reducible apply setVeh_keeps | with_reducible apply hwf_keeps
      | with_reducible apply demandRefresh_keeps | with_reducible apply Keeps.ite | extract_lets | dsimp +zetaDelta only

theorem tcpTimeout_keeps (stall : Nat) (retx : Nat) (h : Keeps r s) : Keeps r (tcpTimeout stall retx s) := by
  unfold tcpTimeout
  repeat'
    first
      | intro q | with_reducible assumption | with_reducible apply trigger_keeps | with_reducible apply inc_keeps
      | with_reducible apply Keeps.ite | extract_lets | dsimp +zetaDelta only

theorem vhsCfgSet_keeps (stall : Nat) (h : Keeps r s) : Keeps r (vhsCfgSet stall s) := by
  unfold vhsCfgSet
  repeat'
    first
      | intro q | with_reducible assumption | with_reducible apply demandRefresh_keeps | with_reducible apply Keeps.ite
      | extract_lets | dsimp +zetaDelta only

theorem pilotFault_keeps (stall : Nat) (pp : Bool) (h : Keeps r s) : Keeps r (pilotFault stall pp s) := by
  unfold pilotFault
  repeat'
    first
      | intro q | with_reducible assumption | with_reducible apply frontEndFail_keeps | with_reducible apply fault_keeps
      | with_reducible apply Keeps.ite | extract_lets | dsimp +zetaDelta only

theorem engineReload_keeps (stall : Nat) (ok : Bool) (h : Keeps r s) : Keeps r (engineReload stall ok s) := by
  unfold engineReload
  repeat'
    first
      | intro q | with_reducible assumption | with_reducible apply setVeh_keeps | with_reducible apply frontEndFail_keeps
      | with_reducible apply fault_keeps | with_reducible apply Keeps.ite | split | extract_lets | dsimp +zetaDelta only

theorem slacTimeout_keeps (stall : Nat) (h : Keeps r s) : Keeps r (slacTimeout stall s) := by
  unfold slacTimeout
  repeat'
    first
      | intro q | with_reducible assumption | with_reducible apply hwf_keeps | with_reducible apply hlcFail_keeps
      | with_reducible apply setV_keeps | with_reducible apply Keeps.ite | extract_lets | dsimp +zetaDelta only

theorem tlsRecord_keeps (stall : Nat) (r' : TlsRec) (h : Keeps r s) : Keeps r (tlsRecord stall r' s) := by
  unfold tlsRecord
  repeat'
    first
      | intro q | with_reducible assumption | with_reducible apply each_keeps | with_reducible apply modemFrame_keeps
      | with_reducible apply recordTaken_keeps | with_reducible apply trigger_keeps | with_reducible apply Keeps.ite
      | extract_lets | dsimp +zetaDelta only

theorem certVerified_keeps (stall : Nat) (x : CertChain) (h : Keeps r s) : Keeps r (certVerified stall x s) := by
  unfold certVerified
  repeat'
    first
      | intro q | with_reducible assumption | with_reducible apply hwf_keeps | with_reducible apply setV_keeps
      | with_reducible apply askHost_keeps | with_reducible apply submit_keeps | with_reducible apply Keeps.ite | extract_lets
      | dsimp +zetaDelta only

theorem seqTimeout_keeps (stall : Nat) (h : Keeps r s) : Keeps r (seqTimeout stall s) := by
  unfold seqTimeout
  repeat'
    first
      | intro q | with_reducible assumption | with_reducible apply trigger_keeps | with_reducible apply Keeps.ite | extract_lets
      | dsimp +zetaDelta only

theorem sdpTimeout_keeps (stall : Nat) (h : Keeps r s) : Keeps r (sdpTimeout stall s) := by
  unfold sdpTimeout
  repeat'
    first
      | intro q | with_reducible assumption | with_reducible apply hlcFail_keeps | with_reducible apply Keeps.ite | extract_lets
      | dsimp +zetaDelta only

theorem setpoint_keeps (stall : Nat) (r' : V2gReq) (flags : Nat) (h : Keeps r s) : Keeps r (setpoint stall r' flags s) := by
  unfold setpoint
  repeat'
    first
      | intro q | with_reducible assumption | with_reducible apply drawn_keeps | with_reducible apply setVeh_keeps
      | with_reducible apply hwf_keeps | with_reducible apply quePlace_keeps | with_reducible apply inc_keeps
      | with_reducible apply Keeps.ite | extract_lets | dsimp +zetaDelta only

theorem modemFault_keeps (stall : Nat) (h : Keeps r s) : Keeps r (modemFault stall s) := by
  unfold modemFault
  repeat'
    first
      | intro q | with_reducible assumption | with_reducible apply frontEndFail_keeps | with_reducible apply fault_keeps
      | with_reducible apply hwf_keeps | with_reducible apply Keeps.ite | extract_lets | dsimp +zetaDelta only

theorem sdpRequest_keeps (stall : Nat) (tls : Bool) (h : Keeps r s) : Keeps r (sdpRequest stall tls s) := by
  unfold sdpRequest
  repeat'
    first
      | intro q | with_reducible assumption | with_reducible apply hwb_keeps | with_reducible apply setV_keeps
      | with_reducible apply Keeps.ite | extract_lets | dsimp +zetaDelta only

theorem partitionResponse_keeps (p : Partition) (stall : Nat) (o : PartRes) (h : Keeps r s) : Keeps r (partitionResponse p stall
    o s) := by
  unfold partitionResponse
  repeat'
    first
      | intro q | with_reducible assumption | with_reducible apply drawn_keeps | with_reducible apply setVeh_keeps
      | with_reducible apply hwf_keeps | with_reducible apply submit_keeps | with_reducible apply sessStep_keeps
      | with_reducible apply setV_keeps | with_reducible apply sendRes_keeps | with_reducible apply Keeps.ite | split
      | extract_lets | dsimp +zetaDelta only

theorem slacMatch_keeps (stall : Nat) (runId : Nat) (evccid : Nat) (h : Keeps r s) : Keeps r (slacMatch stall runId evccid s) :=
    by
  unfold slacMatch
  repeat'
    first
      | intro q | with_reducible assumption | with_reducible apply inc_keeps | with_reducible apply ephNew_keeps
      | with_reducible apply setVeh_keeps | with_reducible apply hwb_keeps | with_reducible apply hw_keeps
      | with_reducible apply hwf_keeps | with_reducible apply evt_keeps | with_reducible apply setV_keeps
      | with_reducible apply Keeps.ite | extract_lets | dsimp +zetaDelta only

theorem v2gRequest_keeps (stall : Nat) (r' : V2gReq) (h : Keeps r s) : Keeps r (v2gRequest stall r' s) := by
  unfold v2gRequest
  repeat'
    first
      | intro q | with_reducible assumption | with_reducible apply setV_keeps | with_reducible apply trigger_keeps
      | with_reducible apply sendFailure_keeps | with_reducible apply vhsClose_keeps | with_reducible apply takeParams_keeps
      | with_reducible apply requestActs_keeps | with_reducible apply setpoint_keeps | with_reducible apply setVeh_keeps
      | with_reducible apply dutyRefresh_keeps
      | with_reducible apply Keeps.ite | extract_lets | dsimp +zetaDelta only

theorem btSeen_keeps (h : Keeps r s) : Keeps r (btSeen s) := by
  unfold btSeen
  repeat'
    first
      | intro q | with_reducible assumption | with_reducible apply setV_keeps | with_reducible apply Keeps.ite | extract_lets
      | dsimp +zetaDelta only

theorem btHold_keeps (b : Int) (h : Keeps r s) : Keeps r (btHold b s) := by
  unfold btHold
  repeat'
    first
      | intro q | with_reducible assumption | with_reducible apply inc_keeps | with_reducible apply hwb_keeps
      | with_reducible apply setV_keeps | with_reducible apply btSeen_keeps | with_reducible apply submit_keeps
      | with_reducible apply evt_keeps | with_reducible apply flagSpans_keeps | with_reducible apply Keeps.ite | extract_lets
      | dsimp +zetaDelta only

theorem btFollow_keeps (h : Keeps r s) : Keeps r (btFollow s) := by
  unfold btFollow
  repeat'
    first
      | intro q | with_reducible assumption | with_reducible apply btSeen_keeps | with_reducible apply setV_keeps
      | with_reducible apply Keeps.ite | extract_lets | dsimp +zetaDelta only

theorem calShow_keeps (h : Keeps r s) : Keeps r (calShow s) := by
  unfold calShow
  repeat'
    first
      | intro q | with_reducible assumption | with_reducible apply hw_keeps | with_reducible apply Keeps.ite | split
      | extract_lets | dsimp +zetaDelta only

theorem switchRecs_keeps (bt : Nat) (ch : List (Nat × Nat × Nat)) (h : Keeps r s) : Keeps r (switchRecs bt ch s) := by
  unfold switchRecs
  repeat'
    first
      | intro q | with_reducible assumption | with_reducible apply each_keeps | with_reducible apply submit_keeps
      | with_reducible apply Keeps.ite | extract_lets | dsimp +zetaDelta only

theorem selShow_keeps (h : Keeps r s) : Keeps r (selShow s) := by
  unfold selShow
  repeat'
    first
      | intro q | with_reducible assumption | with_reducible apply hwf_keeps | with_reducible apply hwb_keeps
      | with_reducible apply evt_keeps | with_reducible apply eachBelow_keeps | with_reducible apply hw_keeps
      | with_reducible apply Keeps.ite | extract_lets | dsimp +zetaDelta only

theorem tariffAt_keeps (i : State.Instant) (h : Keeps r s) : Keeps r (tariffAt i s) := by
  unfold tariffAt
  repeat'
    first
      | intro q | with_reducible assumption | with_reducible apply switchRecs_keeps | with_reducible apply each_keeps
      | with_reducible apply evt_keeps | with_reducible apply setTariff_keeps | with_reducible apply hwf_keeps
      | with_reducible apply selShow_keeps | with_reducible apply Keeps.ite | extract_lets | dsimp +zetaDelta only

theorem demStart_keeps (m : Nat) (i : State.Instant) (acc : Option Nat) (tar : Nat) (h : Keeps r s) : Keeps r (demStart m i acc
    tar s) := by
  unfold demStart
  repeat'
    first
      | intro q | with_reducible assumption | with_reducible apply hw_keeps | with_reducible apply Keeps.ite | extract_lets
      | dsimp +zetaDelta only | with_reducible apply Keeps.upd

theorem demBegin_keeps (m : Nat) (i : State.Instant) (tar : Nat) (h : Keeps r s) : Keeps r (demBegin m i tar s) := by
  unfold demBegin
  repeat'
    first
      | intro q | with_reducible assumption | with_reducible apply demStart_keeps | with_reducible apply setV_keeps
      | with_reducible apply Keeps.ite | extract_lets | dsimp +zetaDelta only

theorem demDrop_keeps (m : Nat) (h : Keeps r s) : Keeps r (demDrop m s) := by
  unfold demDrop
  repeat'
    first
      | intro q | with_reducible assumption | with_reducible apply Keeps.ite | extract_lets | dsimp +zetaDelta only
      | with_reducible apply Keeps.upd

theorem demStop_keeps (m : Nat) (i : State.Instant) (more : Nat) (n : Nat) (h : Keeps r s) : Keeps r (demStop m i more n s) := by
  unfold demStop
  repeat'
    first
      | intro q | with_reducible assumption | with_reducible apply demDrop_keeps | with_reducible apply Keeps.ite | split
      | extract_lets | dsimp +zetaDelta only | with_reducible apply Keeps.upd

theorem demTurn_keeps (m : Nat) (i : State.Instant) (more : Nat) (n : Nat) (tar : Nat) (h : Keeps r s) : Keeps r (demTurn m i
    more n tar s) := by
  unfold demTurn
  repeat'
    first
      | intro q | with_reducible assumption | with_reducible apply demBegin_keeps | with_reducible apply demStop_keeps
      | with_reducible apply Keeps.ite | extract_lets | dsimp +zetaDelta only

theorem calActivate_keeps (i : State.Instant) (h : Keeps r s) : Keeps r (calActivate i s) := by
  unfold calActivate
  repeat'
    first
      | intro q | with_reducible assumption | with_reducible apply submit_keeps | with_reducible apply evt_keeps
      | with_reducible apply flagSpans_keeps | with_reducible apply inc_keeps | with_reducible apply calShow_keeps
      | with_reducible apply tariffAt_keeps | with_reducible apply eachBelow_keeps | with_reducible apply demTurn_keeps
      | with_reducible apply Keeps.ite | split | extract_lets | dsimp +zetaDelta only | with_reducible apply Keeps.upd

theorem tariffEval_keeps (h : Keeps r s) : Keeps r (tariffEval s) := by
  unfold tariffEval
  repeat'
    first
      | intro q | with_reducible assumption | with_reducible apply tariffAt_keeps | with_reducible apply Keeps.ite
      | extract_lets | dsimp +zetaDelta only

theorem btJump_keeps (h : Keeps r s) : Keeps r (btJump s) := by
  unfold btJump
  repeat'
    first
      | intro q | with_reducible assumption | with_reducible apply flagSpans_keeps | with_reducible apply inc_keeps
      | with_reducible apply btFollow_keeps | with_reducible apply calActivate_keeps | with_reducible apply eachBelow_keeps
      | with_reducible apply demTurn_keeps | with_reducible apply tariffEval_keeps | with_reducible apply Keeps.ite | split
      | extract_lets | dsimp +zetaDelta only

theorem composeReading_keeps (m : Nat) (t' : Nat) (h : Keeps r s) : Keeps r (composeReading m t' s) := by
  unfold composeReading
  repeat'
    first
      | intro q | with_reducible assumption | with_reducible apply submit_keeps | with_reducible apply setV_keeps
      | with_reducible apply Keeps.ite | extract_lets | dsimp +zetaDelta only | with_reducible apply Keeps.upd

theorem composeSession_keeps (x : Sess) (h : Keeps r s) : Keeps r (composeSession x s) := by
  unfold composeSession
  repeat'
    first
      | intro q | with_reducible assumption | with_reducible apply submit_keeps | with_reducible apply Keeps.ite | extract_lets
      | dsimp +zetaDelta only | with_reducible apply Keeps.upd

theorem demRecord_keeps (x : DemEnd) (h : Keeps r s) : Keeps r (demRecord x s) := by
  unfold demRecord
  repeat'
    first
      | intro q | with_reducible assumption | with_reducible apply submit_keeps | with_reducible apply drawn_keeps
      | with_reducible apply hw_keeps | with_reducible apply evt_keeps | with_reducible apply Keeps.ite | extract_lets
      | dsimp +zetaDelta only

theorem demCompose_keeps (h : Keeps r s) : Keeps r (demCompose s) := by
  unfold demCompose
  repeat'
    first
      | intro q | with_reducible assumption | with_reducible apply each_keeps | with_reducible apply demRecord_keeps
      | with_reducible apply Keeps.ite | extract_lets | dsimp +zetaDelta only | with_reducible apply Keeps.upd

theorem calLoad_keeps (b : List Byte) (sigOk : Bool) (h : Keeps r s) : Keeps r (calLoad b sigOk s) := by
  unfold calLoad
  repeat'
    first
      | intro q | with_reducible assumption | with_reducible apply evt_keeps | with_reducible apply submit_keeps
      | with_reducible apply selShow_keeps | with_reducible apply calShow_keeps | with_reducible apply setV_keeps
      | with_reducible apply Keeps.ite | split | extract_lets | dsimp +zetaDelta only | with_reducible apply Keeps.upd

theorem calendarActivation_keeps (h : Keeps r s) : Keeps r (calendarActivation s) := by
  unfold calendarActivation
  repeat'
    first
      | intro q | with_reducible assumption | with_reducible apply calActivate_keeps | with_reducible apply Keeps.ite | split
      | extract_lets | dsimp +zetaDelta only

theorem tariffSwitch_keeps (h : Keeps r s) : Keeps r (tariffSwitch s) := by
  unfold tariffSwitch
  repeat'
    first
      | intro q | with_reducible assumption | with_reducible apply calendarActivation_keeps
      | with_reducible apply tariffAt_keeps | with_reducible apply Keeps.ite | extract_lets | dsimp +zetaDelta only

theorem demDue_keeps (h : Keeps r s) : Keeps r (demDue s) := by
  unfold demDue
  repeat'
    first
      | intro q | with_reducible assumption | with_reducible apply eachBelow_keeps | with_reducible apply demTurn_keeps
      | with_reducible apply tariffSwitch_keeps | with_reducible apply Keeps.ite | split | extract_lets | dsimp +zetaDelta only

theorem demRefresh_keeps (h : Keeps r s) : Keeps r (demRefresh s) := by
  unfold demRefresh
  repeat'
    first
      | intro q | with_reducible assumption | with_reducible apply eachBelow_keeps | with_reducible apply demBegin_keeps
      | with_reducible apply demCompose_keeps | with_reducible apply each_keeps | with_reducible apply demTake_keeps
      | with_reducible apply hw_keeps | with_reducible apply Keeps.ite | extract_lets | dsimp +zetaDelta only

theorem demandEnd_keeps (m : Nat) (h : Keeps r s) : Keeps r (demandEnd m s) := by
  unfold demandEnd
  repeat'
    first
      | intro q | with_reducible assumption | with_reducible apply demCompose_keeps | with_reducible apply demDue_keeps
      | with_reducible apply Keeps.ite | extract_lets | dsimp +zetaDelta only

theorem bilCfgSet_keeps (m : Nat) (h : Keeps r s) : Keeps r (bilCfgSet m s) := by
  unfold bilCfgSet
  repeat'
    first
      | intro q | with_reducible assumption | with_reducible apply tariffEval_keeps | with_reducible apply demDrop_keeps
      | with_reducible apply demBegin_keeps | with_reducible apply Keeps.ite | extract_lets | dsimp +zetaDelta only

theorem btCapture_keeps (m : Master) (dt : Nat) (h : Keeps r s) : Keeps r (btCapture m dt s) := by
  unfold btCapture
  repeat'
    first
      | intro q | with_reducible assumption | with_reducible apply wrB_keeps | with_reducible apply Keeps.ite | extract_lets
      | dsimp +zetaDelta only | with_reducible apply Keeps.upd

theorem demandReset_keeps (m : Nat) (h : Keeps r s) : Keeps r (demandReset m s) := by
  unfold demandReset
  repeat'
    first
      | intro q | with_reducible assumption | with_reducible apply eachBelow_keeps | with_reducible apply hw_keeps
      | with_reducible apply submit_keeps | with_reducible apply Keeps.ite | extract_lets | dsimp +zetaDelta only

theorem instantSpan_keeps (x : Sess) (h : Keeps r s) : Keeps r (instantSpan x s) := by
  unfold instantSpan
  repeat'
    first
      | intro q | with_reducible assumption | with_reducible apply endSpan_keeps | with_reducible apply beginSpan_keeps
      | with_reducible apply Keeps.ite | extract_lets | dsimp +zetaDelta only

theorem dropPending_keeps (h : Keeps r s) : Keeps r (dropPending s) := by
  unfold dropPending
  repeat'
    first
      | intro q | with_reducible assumption | with_reducible apply selShow_keeps | with_reducible apply calShow_keeps
      | with_reducible apply submit_keeps | with_reducible apply Keeps.ite | split | extract_lets | dsimp +zetaDelta only
      | with_reducible apply Keeps.upd

theorem bilEffect_keeps (code : Nat) (arg : Nat) (h : Keeps r s) : Keeps r (bilEffect code arg s) := by
  unfold bilEffect
  repeat'
    first
      | intro q | with_reducible assumption | with_reducible apply dropPending_keeps | with_reducible apply setV_keeps
      | with_reducible apply demandReset_keeps | with_reducible apply Keeps.ite | split | extract_lets | dsimp +zetaDelta only

theorem unsignedRecord_keeps (h : Keeps r s) : Keeps r (unsignedRecord s) := by
  unfold unsignedRecord
  repeat'
    first
      | intro q | with_reducible assumption | with_reducible apply inc_keeps | with_reducible apply Keeps.ite | extract_lets
      | dsimp +zetaDelta only

theorem recordRelease_keeps (num : Nat) (verdict : Bool) (h : Keeps r s) : Keeps r (recordRelease num verdict s) := by
  unfold recordRelease
  repeat'
    first
      | intro q | with_reducible assumption | with_reducible apply drawn_keeps | with_reducible apply unsignedRecord_keeps
      | with_reducible apply submit_keeps | with_reducible apply evt_keeps | with_reducible apply hw_keeps
      | with_reducible apply trigger_keeps | with_reducible apply Keeps.ite | split | extract_lets | dsimp +zetaDelta only
      | with_reducible apply Keeps.upd

theorem holdEnd_keeps (h : Keeps r s) : Keeps r (holdEnd s) := by
  unfold holdEnd
  repeat'
    first
      | intro q | with_reducible assumption | with_reducible apply submit_keeps | with_reducible apply evt_keeps
      | with_reducible apply hwb_keeps | with_reducible apply Keeps.ite | extract_lets | dsimp +zetaDelta only

theorem btHoldEnd_keeps (h : Keeps r s) : Keeps r (btHoldEnd s) := by
  unfold btHoldEnd
  repeat'
    first
      | intro q | with_reducible assumption | with_reducible apply btFollow_keeps | with_reducible apply holdEnd_keeps
      | with_reducible apply Keeps.ite | extract_lets | dsimp +zetaDelta only

theorem readingsDue_keeps (h : Keeps r s) : Keeps r (readingsDue s) := by
  unfold readingsDue
  repeat'
    first
      | intro q | with_reducible assumption | with_reducible apply eachBelow_keeps | with_reducible apply composeReading_keeps
      | with_reducible apply Keeps.ite | extract_lets | dsimp +zetaDelta only

theorem btUpdate_keeps (h : Keeps r s) : Keeps r (btUpdate s) := by
  unfold btUpdate
  repeat'
    first
      | intro q | with_reducible assumption | with_reducible apply btSeen_keeps | with_reducible apply btJump_keeps
      | with_reducible apply holdEnd_keeps | with_reducible apply btFollow_keeps | with_reducible apply btHold_keeps
      | with_reducible apply tariffEval_keeps | with_reducible apply flagSpans_keeps | with_reducible apply setV_keeps
      | with_reducible apply Keeps.ite | extract_lets | dsimp +zetaDelta only

theorem bilBoundary_keeps (h : Keeps r s) : Keeps r (bilBoundary s) := by
  unfold bilBoundary
  repeat'
    first
      | intro q | with_reducible assumption | with_reducible apply demRefresh_keeps | with_reducible apply demDue_keeps
      | with_reducible apply calendarActivation_keeps | with_reducible apply btUpdate_keeps | with_reducible apply Keeps.ite
      | extract_lets | dsimp +zetaDelta only

theorem closeOne_keeps (stall : Nat) (h : Keeps r s) : Keeps r (closeOne stall s) := by
  unfold closeOne
  repeat'
    first
      | intro q | with_reducible assumption | with_reducible apply instantSpan_keeps | with_reducible apply composeSession_keeps
      | with_reducible apply Keeps.ite | split | extract_lets | dsimp +zetaDelta only

theorem bilPowerOn_keeps (had : Bool) (h : Keeps r s) : Keeps r (bilPowerOn had s) := by
  unfold bilPowerOn
  repeat'
    first
      | intro q | with_reducible assumption | with_reducible apply hwb_keeps | with_reducible apply setV_keeps
      | with_reducible apply eachBelow_keeps | with_reducible apply hwf_keeps | with_reducible apply submit_keeps
      | with_reducible apply flagSpans_keeps | with_reducible apply tariffEval_keeps | with_reducible apply Keeps.ite
      | extract_lets | dsimp +zetaDelta only

theorem bilRecover_keeps (h : Keeps r s) : Keeps r (bilRecover s) := by
  unfold bilRecover
  repeat'
    first
      | intro q | with_reducible assumption | with_reducible apply each_keeps | with_reducible apply demStop_keeps
      | with_reducible apply demCompose_keeps | with_reducible apply Keeps.ite | split | extract_lets | dsimp +zetaDelta only
      | with_reducible apply Keeps.upd

theorem sessionClose_keeps (stall : Nat) (h : Keeps r s) : Keeps r (sessionClose stall s) := by
  unfold sessionClose
  repeat'
    first
      | intro q | with_reducible assumption | with_reducible apply eachBelow_keeps | with_reducible apply closeOne_keeps
      | with_reducible apply demCompose_keeps | with_reducible apply demDue_keeps | with_reducible apply Keeps.ite
      | extract_lets | dsimp +zetaDelta only

theorem setFollow_keeps (before : State) (h : Keeps r s) : Keeps r (setFollow before s) := by
  unfold setFollow
  repeat'
    first
      | intro q | with_reducible assumption | with_reducible apply eachBelow_keeps | with_reducible apply fbSupervise_keeps
      | with_reducible apply hw_keeps | with_reducible apply hwf_keeps | with_reducible apply setDemand_keeps
      | with_reducible apply dropEnables_keeps | with_reducible apply enablesReturn_keeps | with_reducible apply slFollow_keeps
      | with_reducible apply tripOuts_keeps | with_reducible apply tinRefresh_keeps | with_reducible apply setV_keeps
      | with_reducible apply Keeps.ite | extract_lets | dsimp +zetaDelta only

theorem stagedRefresh_keeps (h : Keeps r s) : Keeps r (stagedRefresh s) := by
  unfold stagedRefresh
  repeat'
    first
      | intro q | with_reducible assumption | with_reducible apply hwb_keeps | with_reducible apply hw_keeps
      | with_reducible apply Keeps.ite | extract_lets | dsimp +zetaDelta only

theorem setDiscard_keeps (h : Keeps r s) : Keeps r (setDiscard s) := by
  unfold setDiscard
  repeat'
    first
      | intro q | with_reducible assumption | with_reducible apply stagedRefresh_keeps | with_reducible apply each_keeps
      | with_reducible apply hw_keeps | with_reducible apply Keeps.ite | extract_lets | dsimp +zetaDelta only

theorem safeSet_upd_keeps {l : List (Nat × Word)} (hl : Tab.wf resetVal l = true) (h : Keeps r s) : Keeps r { s with safeSet := l } :=
  h.of_wf rfl id (fun _ => id) (fun _ => hl) id

theorem stagedSet_wf (s : State) : Tab.wf resetVal s.stagedSet = true := by
  have hw (l : List Nat) (t : List (Nat × Word)) (ht : Tab.wf resetVal t = true) :
        Tab.wf resetVal (l.foldl (fun t a => Tab.put natLt resetVal t a (BitVec.ofNat 48 (s.rd a))) t) = true := by
      induction l generalizing t with
      | nil => exact ht
      | cons a l ih => exact ih _ (Tab.wf_put _ _ _ ht)
  unfold stagedSet
  generalize setPages.flatMap setSlots = l
  exact hw l [] rfl

theorem setActivate_keeps (h : Keeps r s) : Keeps r (setActivate s) := by
  unfold setActivate
  extract_lets changed before s1 crc s2 s3
  clear_value changed before crc
  have h1 : Keeps r s1 := safeSet_upd_keeps (stagedSet_wf s) h
  clear_value s1
  have h3 : Keeps r s3 := submit_keeps _ (evt_keeps _ _ (inc_keeps _ _ _ _ (hwf_keeps _ _ _ _ h1)))
  exact setFollow_keeps _ (stagedRefresh_keeps h3)

theorem safEffect_keeps (code : Nat) (arg : Nat) (h : Keeps r s) : Keeps r (safEffect code arg s) := by
  unfold safEffect
  repeat'
    first
      | intro q | with_reducible assumption | with_reducible apply setActivate_keeps | with_reducible apply setDiscard_keeps
      | with_reducible apply ackTrip_keeps | with_reducible apply proofStart_keeps | with_reducible apply releaseOut_keeps
      | with_reducible apply Keeps.ite | split | extract_lets | dsimp +zetaDelta only

theorem safPowerOn_keeps (h : Keeps r s) : Keeps r (safPowerOn s) := by
  unfold safPowerOn
  repeat'
    first
      | intro q | with_reducible assumption | with_reducible apply fastLoad_keeps | with_reducible apply eachBelow_keeps
      | with_reducible apply setV_keeps | with_reducible apply hwb_keeps | with_reducible apply hwf_keeps
      | with_reducible apply hw_keeps | with_reducible apply commonEnter_keeps | with_reducible apply slPowerOn_keeps
      | with_reducible apply Keeps.ite | extract_lets | dsimp +zetaDelta only | with_reducible apply Keeps.upd

theorem updCfgSet_keeps (k : Nat) (h : Keeps r s) : Keeps r (updCfgSet k s) := by
  unfold updCfgSet
  repeat'
    first
      | intro q | with_reducible assumption | with_reducible apply wrf_keeps | with_reducible apply hwf_keeps
      | with_reducible apply setV_keeps | with_reducible apply Keeps.ite | extract_lets | dsimp +zetaDelta only

theorem cfgSet_keeps (a' : Nat) (old : Nat) (h : Keeps r s) : Keeps r (cfgSet a' old s) := by
  unfold cfgSet
  repeat'
    first
      | intro q | with_reducible assumption | with_reducible apply timModeSet_keeps | with_reducible apply ptpPortSet_keeps
      | with_reducible apply ppsInSet_keeps | with_reducible apply ppsOutShow_keeps | with_reducible apply netShow_keeps
      | with_reducible apply netPCfgSet_keeps | with_reducible apply winCfgSet_keeps | with_reducible apply pqMpCfgSet_keeps
      | with_reducible apply pkCfgSet_keeps | with_reducible apply fastCopy_keeps | with_reducible apply demandRefresh_keeps
      | with_reducible apply stlCfgSet_keeps | with_reducible apply vhsCfgSet_keeps | with_reducible apply drvCurveSet_keeps
      | with_reducible apply stagedRefresh_keeps | with_reducible apply mlkCfgSet_keeps | with_reducible apply queCfgSet_keeps
      | with_reducible apply queWmSet_keeps | with_reducible apply queIrq_keeps | with_reducible apply ackSet_keeps
      | with_reducible apply spaceCheck_keeps | with_reducible apply notifyCheck_keeps | with_reducible apply bilCfgSet_keeps
      | with_reducible apply ctlCfgSet_keeps | with_reducible apply updCfgSet_keeps | with_reducible apply Keeps.ite | split
      | extract_lets | dsimp +zetaDelta only | with_reducible apply Keeps.upd

theorem cfgPut_keeps (a' : Nat) (v : Nat) (h : Keeps r s) : Keeps r (cfgPut a' v s) := by
  unfold cfgPut
  repeat'
    first
      | intro q | with_reducible assumption | with_reducible apply hw_keeps | with_reducible apply leadHome_keeps
      | with_reducible apply Keeps.ite | extract_lets | dsimp +zetaDelta only | with_reducible apply Keeps.upd

theorem newChallenge_keeps (m : Master) (h : Keeps r s) : Keeps r (newChallenge m s) := by
  unfold newChallenge
  repeat'
    first
      | intro q | with_reducible assumption | with_reducible apply addV_keeps | with_reducible apply Keeps.ite | extract_lets
      | dsimp +zetaDelta only

theorem snapRelease_keeps (m : Master) (expired : Bool) (h : Keeps r s) : Keeps r (snapRelease m expired s) := by
  unfold snapRelease
  repeat'
    first
      | intro q | with_reducible assumption | with_reducible apply each_keeps | with_reducible apply wrB_keeps
      | with_reducible apply setSnap_keeps | with_reducible apply wrfB_keeps | with_reducible apply Keeps.ite | split
      | extract_lets | dsimp +zetaDelta only

theorem roleLeave_keeps (m : Master) (code : Nat) (actor : Nat) (more : List (Nat × Nat)) (h : Keeps r s) : Keeps r (roleLeave m
    code actor more s) := by
  unfold roleLeave
  repeat'
    first
      | intro q | with_reducible assumption | with_reducible apply snapRelease_keeps | with_reducible apply sealRoleEnds_keeps
      | with_reducible apply submit_keeps | with_reducible apply hw_keeps | with_reducible apply Keeps.ite | extract_lets
      | dsimp +zetaDelta only

theorem logout_keeps (m : Master) (how : Nat) (h : Keeps r s) : Keeps r (logout m how s) := by
  unfold logout
  repeat'
    first
      | intro q | with_reducible assumption | with_reducible apply submit_keeps | with_reducible apply snapRelease_keeps
      | with_reducible apply roleLeave_keeps | with_reducible apply Keeps.ite | extract_lets | dsimp +zetaDelta only

theorem roleLost_keeps (m : Master) (how : Nat) (h : Keeps r s) : Keeps r (roleLost m how s) := by
  unfold roleLost
  repeat'
    first
      | intro q | with_reducible assumption | with_reducible apply roleLeave_keeps | with_reducible apply Keeps.ite
      | extract_lets | dsimp +zetaDelta only

theorem msixReset_keeps (h : Keeps r s) : Keeps r (msixReset s) := by
  unfold msixReset
  exact h.of_wf rfl (Tab.wf_filter _ _) (fun _ => id) id id

theorem hostBankReset_keeps (h : Keeps r s) : Keeps r (hostBankReset s) := by
  unfold hostBankReset
  exact h.of_wf rfl (Tab.wf_filter _ _) (fun _ => id) id id

theorem linkLoss_keeps (how : Nat) (h : Keeps r s) : Keeps r (linkLoss how s) := by
  unfold linkLoss
  repeat'
    first
      | intro q | with_reducible assumption | with_reducible apply roleLost_keeps | with_reducible apply hwf_keeps
      | with_reducible apply newChallenge_keeps | with_reducible apply msixReset_keeps
      | with_reducible apply hostBankReset_keeps | with_reducible apply fault_keeps | with_reducible apply eachBelow_keeps
      | with_reducible apply queLinkLoss_keeps | with_reducible apply Keeps.ite | extract_lets | dsimp +zetaDelta only

theorem snapExpired_keeps (m : Master) (h : Keeps r s) : Keeps r (snapExpired m s) := by
  unfold snapExpired
  repeat'
    first
      | intro q | with_reducible assumption | with_reducible apply snapRelease_keeps | with_reducible apply Keeps.ite
      | extract_lets | dsimp +zetaDelta only

theorem loginFails_keeps (m : Master) (role : Nat) (res : Nat) (h : Keeps r s) : Keeps r (loginFails m role res s) := by
  unfold loginFails
  repeat'
    first
      | intro q | with_reducible assumption | with_reducible apply setV_keeps | with_reducible apply wrfB_keeps
      | with_reducible apply newChallenge_keeps | with_reducible apply submit_keeps | with_reducible apply Keeps.ite
      | extract_lets | dsimp +zetaDelta only

theorem login_keeps (m : Master) (role : Nat) (valid : Bool) (h : Keeps r s) : Keeps r (login m role valid s) := by
  unfold login
  repeat'
    first
      | intro q | with_reducible assumption | with_reducible apply wrfB_keeps | with_reducible apply newChallenge_keeps
      | with_reducible apply logout_keeps | with_reducible apply loginFails_keeps | with_reducible apply roleLeave_keeps
      | with_reducible apply setV_keeps | with_reducible apply hw_keeps | with_reducible apply submit_keeps
      | with_reducible apply Keeps.ite | extract_lets | dsimp +zetaDelta only

theorem roleExpiry_keeps (m : Master) (h : Keeps r s) : Keeps r (roleExpiry m s) := by
  unfold roleExpiry
  repeat'
    first
      | intro q | with_reducible assumption | with_reducible apply roleLeave_keeps | with_reducible apply Keeps.ite
      | extract_lets | dsimp +zetaDelta only

theorem loginBlockEnd_keeps (o : Nat) (h : Keeps r s) : Keeps r (loginBlockEnd o s) := by
  unfold loginBlockEnd
  repeat'
    first
      | intro q | with_reducible assumption | with_reducible apply setV_keeps | with_reducible apply Keeps.ite | extract_lets
      | dsimp +zetaDelta only

theorem updDiscard_keeps (k : Nat) (h : Keeps r s) : Keeps r (updDiscard k s) := by
  unfold updDiscard
  repeat'
    first
      | intro q | with_reducible assumption | with_reducible apply hwf_keeps | with_reducible apply eachBelow_keeps
      | with_reducible apply hw_keeps | with_reducible apply Keeps.ite | extract_lets | dsimp +zetaDelta only
      | with_reducible apply Keeps.upd

theorem updRec_keeps (what : Nat) (k : Nat) (idx : Nat) (st : Nat) (reason : Nat) (h : Keeps r s) : Keeps r (updRec what k idx
    st reason s) := by
  unfold updRec
  repeat'
    first
      | intro q | with_reducible assumption | with_reducible apply submit_keeps | with_reducible apply Keeps.ite | extract_lets
      | dsimp +zetaDelta only

theorem relaySend_keeps (dst : Nat) (ty : Nat) (k : Nat) (id : Nat) (bale : Nat) (piece : Nat) (body : List Byte) (h : Keeps r
    s) : Keeps r (relaySend dst ty k id bale piece body s) := by
  unfold relaySend
  repeat'
    first
      | intro q | with_reducible assumption | with_reducible apply linkRelay_keeps | with_reducible apply Keeps.ite
      | extract_lets | dsimp +zetaDelta only

theorem relayShow_keeps (h : Keeps r s) : Keeps r (relayShow s) := by
  unfold relayShow
  repeat'
    first
      | intro q | with_reducible assumption | with_reducible apply hwb_keeps | with_reducible apply Keeps.ite | extract_lets
      | dsimp +zetaDelta only

theorem setOffer_keeps (k : Nat) (st : Nat) (reason : Nat) (what : Nat) (h : Keeps r s) : Keeps r (setOffer k st reason what s)
    := by
  unfold setOffer
  repeat'
    first
      | intro q | with_reducible assumption | with_reducible apply hwf_keeps | with_reducible apply hw_keeps
      | with_reducible apply evt_keeps | with_reducible apply updRec_keeps | with_reducible apply relaySend_keeps
      | with_reducible apply setV_keeps | with_reducible apply relayShow_keeps | with_reducible apply Keeps.ite | extract_lets
      | dsimp +zetaDelta only

theorem offerEnd_keeps (k : Nat) (reason : Nat) (what : Nat) (h : Keeps r s) : Keeps r (offerEnd k reason what s) := by
  unfold offerEnd
  repeat'
    first
      | intro q | with_reducible assumption | with_reducible apply updDiscard_keeps | with_reducible apply setOffer_keeps
      | with_reducible apply Keeps.ite | extract_lets | dsimp +zetaDelta only

theorem offerExpiry_keeps (k : Nat) (h : Keeps r s) : Keeps r (offerExpiry k s) := by
  unfold offerExpiry
  repeat'
    first
      | intro q | with_reducible assumption | with_reducible apply evt_keeps | with_reducible apply offerEnd_keeps
      | with_reducible apply Keeps.ite | extract_lets | dsimp +zetaDelta only

theorem updPost_keeps (k : Nat) (h : Keeps r s) : Keeps r (updPost k s) := by
  unfold updPost
  repeat'
    first
      | intro q | with_reducible assumption | with_reducible apply setV_keeps | with_reducible apply Keeps.ite | extract_lets
      | dsimp +zetaDelta only

theorem sealCount_keeps (h : Keeps r s) : Keeps r (sealCount s) := by
  unfold sealCount
  repeat'
    first
      | intro q | with_reducible assumption | with_reducible apply hw_keeps | with_reducible apply Keeps.ite | extract_lets
      | dsimp +zetaDelta only

theorem updLoad_keeps (k : Nat) (h : Keeps r s) : Keeps r (updLoad k s) := by
  unfold updLoad
  repeat'
    first
      | intro q | with_reducible assumption | with_reducible apply updPost_keeps | with_reducible apply sealCount_keeps
      | with_reducible apply setV_keeps | with_reducible apply captureNow_keeps | with_reducible apply drainAll_keeps
      | with_reducible apply Keeps.ite | extract_lets | dsimp +zetaDelta only

theorem updNext_keeps (h : Keeps r s) : Keeps r (updNext s) := by
  unfold updNext
  repeat'
    first
      | intro q | with_reducible assumption | with_reducible apply partFail_keeps | with_reducible apply setV_keeps
      | with_reducible apply Keeps.ite | extract_lets | dsimp +zetaDelta only

theorem configRevert_keeps (h : Keeps r s) : Keeps r (configRevert s) := by
  unfold configRevert
  repeat'
    first
      | intro q | with_reducible assumption | with_reducible apply each_keeps | with_reducible apply cfgSet_keeps
      | with_reducible apply cfgPut_keeps | with_reducible apply hw_keeps | with_reducible apply Keeps.ite | extract_lets
      | dsimp +zetaDelta only | with_reducible apply Keeps.upd

theorem fallback_keeps (k : Nat) (reason : Nat) (h : Keeps r s) : Keeps r (fallback k reason s) := by
  unfold fallback
  repeat'
    first
      | intro q | with_reducible assumption | with_reducible apply fault_keeps | with_reducible apply evt_keeps
      | with_reducible apply inc_keeps | with_reducible apply setOffer_keeps | with_reducible apply configRevert_keeps
      | with_reducible apply setV_keeps | with_reducible apply updLoad_keeps | with_reducible apply Keeps.ite | extract_lets
      | dsimp +zetaDelta only

theorem trialFailure_keeps (k : Nat) (h : Keeps r s) : Keeps r (trialFailure k s) := by
  unfold trialFailure
  repeat'
    first
      | intro q | with_reducible assumption | with_reducible apply updNext_keeps | with_reducible apply fallback_keeps
      | with_reducible apply Keeps.ite | extract_lets | dsimp +zetaDelta only

theorem partTrial_keeps (p : Nat) (cause : Nat) (h : Keeps r s) : Keeps r (partTrial p cause s) := by
  unfold partTrial
  repeat'
    first
      | intro q | with_reducible assumption | with_reducible apply partFailure_keeps | with_reducible apply trialFailure_keeps
      | with_reducible apply setV_keeps | with_reducible apply Keeps.ite | extract_lets | dsimp +zetaDelta only

theorem metFwShow_keeps (h : Keeps r s) : Keeps r (metFwShow s) := by
  unfold metFwShow
  repeat'
    first
      | intro q | with_reducible assumption | with_reducible apply hw_keeps | with_reducible apply Keeps.ite | extract_lets
      | dsimp +zetaDelta only

theorem confirm_keeps (k : Nat) (h : Keeps r s) : Keeps r (confirm k s) := by
  unfold confirm
  repeat'
    first
      | intro q | with_reducible assumption | with_reducible apply hw_keeps | with_reducible apply hwf_keeps
      | with_reducible apply rewrap_keeps | with_reducible apply setV_keeps | with_reducible apply metFwShow_keeps
      | with_reducible apply fault_keeps | with_reducible apply evt_keeps | with_reducible apply setOffer_keeps
      | with_reducible apply Keeps.ite | extract_lets | dsimp +zetaDelta only | with_reducible apply Keeps.upd

theorem trialExpiry_keeps (k : Nat) (h : Keeps r s) : Keeps r (trialExpiry k s) := by
  unfold trialExpiry
  repeat'
    first
      | intro q | with_reducible assumption | with_reducible apply confirm_keeps | with_reducible apply Keeps.ite | extract_lets
      | dsimp +zetaDelta only

theorem cfgTake_keeps (a' : Nat) (v : Nat) (h : Keeps r s) : Keeps r (cfgTake a' v s) := by
  unfold cfgTake
  repeat'
    first
      | intro q | with_reducible assumption | with_reducible apply cfgSet_keeps | with_reducible apply cfgPut_keeps
      | with_reducible apply Keeps.ite | extract_lets | dsimp +zetaDelta only | with_reducible apply Keeps.upd

theorem deferredApply_keeps (t' : Nat) (h : Keeps r s) : Keeps r (deferredApply t' s) := by
  unfold deferredApply
  repeat'
    first
      | intro q | with_reducible assumption | with_reducible apply each_keeps | with_reducible apply cfgTake_keeps
      | with_reducible apply hwb_keeps | with_reducible apply Keeps.ite | extract_lets | dsimp +zetaDelta only
      | with_reducible apply Keeps.upd

theorem deferDue_keeps (h : Keeps r s) : Keeps r (deferDue s) := by
  unfold deferDue
  repeat'
    first
      | intro q | with_reducible assumption | with_reducible apply eachBelow_keeps | with_reducible apply deferredApply_keeps
      | with_reducible apply Keeps.ite | extract_lets | dsimp +zetaDelta only

theorem relayNeed_keeps (k : Nat) (h : Keeps r s) : Keeps r (relayNeed k s) := by
  unfold relayNeed
  repeat'
    first
      | intro q | with_reducible assumption | with_reducible apply relaySend_keeps | with_reducible apply Keeps.ite
      | with_reducible apply foldl_keeps | with_reducible apply foldl_fst_keeps | extract_lets | dsimp +zetaDelta only

theorem countOnly_keeps (m : Master) (st : Nat) (h : Keeps r s) : Keeps r (countOnly m st s) := by
  unfold countOnly
  repeat'
    first
      | intro q | with_reducible assumption | with_reducible apply inc_keeps | with_reducible apply Keeps.ite | split
      | extract_lets | dsimp +zetaDelta only

theorem norFault_keeps (chip : Nat) (h : Keeps r s) : Keeps r (norFault chip s) := by
  unfold norFault
  repeat'
    first
      | intro q | with_reducible assumption | with_reducible apply fault_keeps | with_reducible apply evt_keeps
      | with_reducible apply hwb_keeps | with_reducible apply updNext_keeps | with_reducible apply eachBelow_keeps
      | with_reducible apply confirm_keeps | with_reducible apply fallback_keeps | with_reducible apply setOffer_keeps
      | with_reducible apply Keeps.ite | extract_lets | dsimp +zetaDelta only

theorem updEngines_keeps (h : Keeps r s) : Keeps r (updEngines s) := by
  unfold updEngines
  repeat'
    first
      | intro q | with_reducible assumption | with_reducible apply setV_keeps | with_reducible apply Keeps.ite | extract_lets
      | dsimp +zetaDelta only

theorem relayOffer_keeps (k : Nat) (d : Nat) (h : Keeps r s) : Keeps r (relayOffer k d s) := by
  unfold relayOffer
  repeat'
    first
      | intro q | with_reducible assumption | with_reducible apply relaySend_keeps | with_reducible apply setV_keeps
      | with_reducible apply Keeps.ite | extract_lets | dsimp +zetaDelta only

theorem relayStart_keeps (k : Nat) (h : Keeps r s) : Keeps r (relayStart k s) := by
  unfold relayStart
  repeat'
    first
      | intro q | with_reducible assumption | with_reducible apply relayShow_keeps | with_reducible apply eachBelow_keeps
      | with_reducible apply relayOffer_keeps | with_reducible apply setV_keeps | with_reducible apply Keeps.ite | extract_lets
      | dsimp +zetaDelta only

theorem updAdvance_keeps (k : Nat) (h : Keeps r s) : Keeps r (updAdvance k s) := by
  unfold updAdvance
  repeat'
    first
      | intro q | with_reducible assumption | with_reducible apply setOffer_keeps | with_reducible apply Keeps.ite
      | extract_lets | dsimp +zetaDelta only

theorem updFail_keeps (k : Nat) (reason : Nat) (h : Keeps r s) : Keeps r (updFail k reason s) := by
  unfold updFail
  repeat'
    first
      | intro q | with_reducible assumption | with_reducible apply setOffer_keeps | with_reducible apply Keeps.ite
      | extract_lets | dsimp +zetaDelta only

theorem headerCheck_keeps (k : Nat) (h : Keeps r s) : Keeps r (headerCheck k s) := by
  unfold headerCheck
  repeat'
    first
      | intro q | with_reducible assumption | with_reducible apply hw_keeps | with_reducible apply updFail_keeps
      | with_reducible apply Keeps.ite | extract_lets | dsimp +zetaDelta only

theorem offerTake_keeps (src : Nat) (k : Nat) (bales : Nat) (id : Nat) (serial : Nat) (h : Keeps r s) : Keeps r (offerTake src k
    bales id serial s) := by
  unfold offerTake
  repeat'
    first
      | intro q | with_reducible assumption | with_reducible apply updRec_keeps | with_reducible apply setOffer_keeps
      | with_reducible apply updAdvance_keeps | with_reducible apply headerCheck_keeps | with_reducible apply evt_keeps
      | with_reducible apply offerEnd_keeps | with_reducible apply hw_keeps | with_reducible apply updDiscard_keeps
      | with_reducible apply setV_keeps | with_reducible apply relayShow_keeps | with_reducible apply Keeps.ite | extract_lets
      | dsimp +zetaDelta only

theorem generalTake_keeps (x : Nat × Nat) (h : Keeps r s) : Keeps r (generalTake x s) := by
  unfold generalTake
  repeat'
    first
      | intro q | with_reducible assumption | with_reducible apply hwb_keeps | with_reducible apply cfgTake_keeps
      | with_reducible apply Keeps.ite | split | extract_lets | dsimp +zetaDelta only | with_reducible apply Keeps.upd

theorem sealedTake_keeps (m : Master) (x : Nat × Nat) (h : Keeps r s) : Keeps r (sealedTake m x s) := by
  unfold sealedTake
  repeat'
    first
      | intro q | with_reducible assumption | with_reducible apply cfgSet_keeps | with_reducible apply submit_keeps
      | with_reducible apply hw_keeps | with_reducible apply Keeps.ite | extract_lets | dsimp +zetaDelta only
      | with_reducible apply Keeps.upd

theorem trialStart_keeps (k : Nat) (h : Keeps r s) : Keeps r (trialStart k s) := by
  unfold trialStart
  repeat'
    first
      | intro q | with_reducible assumption | with_reducible apply setOffer_keeps | with_reducible apply updCfgSet_keeps
      | with_reducible apply hwf_keeps | with_reducible apply setV_keeps | with_reducible apply Keeps.ite | extract_lets
      | dsimp +zetaDelta only

theorem configApply_keeps (sects : Nat) (m : Master) (h : Keeps r s) : Keeps r (configApply sects m s) := by
  unfold configApply
  repeat'
    first
      | intro q | with_reducible assumption | with_reducible apply setV_keeps | with_reducible apply inc_keeps
      | with_reducible apply each_keeps | with_reducible apply generalTake_keeps | with_reducible apply sealedTake_keeps
      | with_reducible apply stagedRefresh_keeps | with_reducible apply hw_keeps | with_reducible apply trialStart_keeps
      | with_reducible apply Keeps.ite | extract_lets | dsimp +zetaDelta only | with_reducible apply Keeps.upd

theorem updEffect_keeps (code : Nat) (arg : Nat) (m : Master) (ok : Bool) (h : Keeps r s) : Keeps r (updEffect code arg m ok s)
    := by
  unfold updEffect
  repeat'
    first
      | intro q | with_reducible assumption | with_reducible apply offerTake_keeps | with_reducible apply offerEnd_keeps
      | with_reducible apply configApply_keeps | with_reducible apply setOffer_keeps | with_reducible apply inc_keeps
      | with_reducible apply calLoad_keeps | with_reducible apply hwf_keeps | with_reducible apply hw_keeps
      | with_reducible apply updFail_keeps | with_reducible apply updNext_keeps | with_reducible apply updLoad_keeps
      | with_reducible apply confirm_keeps | with_reducible apply fallback_keeps | with_reducible apply Keeps.ite | split
      | extract_lets | dsimp +zetaDelta only | with_reducible apply Keeps.upd

theorem storeBale_keeps (k : Nat) (b : Bale) (h : Keeps r s) : Keeps r (storeBale k b s) := by
  unfold storeBale
  repeat'
    first
      | intro q | with_reducible assumption | with_reducible apply inc_keeps | with_reducible apply hwf_keeps
      | with_reducible apply hwb_keeps | with_reducible apply updRec_keeps | with_reducible apply setV_keeps
      | with_reducible apply relayNeed_keeps | with_reducible apply updAdvance_keeps | with_reducible apply headerCheck_keeps
      | with_reducible apply Keeps.ite | extract_lets | dsimp +zetaDelta only | with_reducible apply Keeps.upd

theorem pieceTake_keeps (k : Nat) (bale : Nat) (crc : Nat) (piece : Nat) (data : List Byte) (h : Keeps r s) : Keeps r (pieceTake
    k bale crc piece data s) := by
  unfold pieceTake
  repeat'
    first
      | intro q | with_reducible assumption | with_reducible apply storeBale_keeps | with_reducible apply Keeps.ite
      | extract_lets | dsimp +zetaDelta only | with_reducible apply Keeps.upd

theorem countStatus_keeps (m : Master) (st : Nat) (addr : Nat) (h : Keeps r s) : Keeps r (countStatus m st addr s) := by
  unfold countStatus
  repeat'
    first
      | intro q | with_reducible assumption | with_reducible apply countOnly_keeps | with_reducible apply hw_keeps
      | with_reducible apply Keeps.ite | split | extract_lets | dsimp +zetaDelta only

theorem mgmtStatus_keeps (st : Nat) (h : Keeps r s) : Keeps r (mgmtStatus st s) := by
  unfold mgmtStatus
  repeat'
    first
      | intro q | with_reducible assumption | with_reducible apply Keeps.ite | extract_lets | dsimp +zetaDelta only
      | with_reducible apply Keeps.upd

theorem verifyComplete_keeps (k : Nat) (ok : Bool) (h : Keeps r s) : Keeps r (verifyComplete k ok s) := by
  unfold verifyComplete
  repeat'
    first
      | intro q | with_reducible assumption | with_reducible apply updFail_keeps | with_reducible apply relayStart_keeps
      | with_reducible apply setOffer_keeps | with_reducible apply Keeps.ite | extract_lets | dsimp +zetaDelta only

theorem relayRepeat_keeps (k : Nat) (d : Nat) (h : Keeps r s) : Keeps r (relayRepeat k d s) := by
  unfold relayRepeat
  repeat'
    first
      | intro q | with_reducible assumption | with_reducible apply relayOffer_keeps | with_reducible apply Keeps.ite
      | extract_lets | dsimp +zetaDelta only

theorem mgmtSeen_keeps (h : Keeps r s) : Keeps r (mgmtSeen s) := by
  unfold mgmtSeen
  repeat'
    first
      | intro q | with_reducible assumption | with_reducible apply hwb_keeps | with_reducible apply setV_keeps
      | with_reducible apply Keeps.ite | extract_lets | dsimp +zetaDelta only

theorem pieceFrame_keeps (f : List Byte) (h : Keeps r s) : Keeps r (pieceFrame f s) := by
  unfold pieceFrame
  repeat'
    first
      | intro q | with_reducible assumption | with_reducible apply mgmtStatus_keeps | with_reducible apply countStatus_keeps
      | with_reducible apply mgmtSeen_keeps | with_reducible apply inc_keeps | with_reducible apply pieceTake_keeps
      | with_reducible apply Keeps.ite | extract_lets | dsimp +zetaDelta only

theorem updRefuse_keeps (k : Nat) (reason : Nat) (h : Keeps r s) : Keeps r (updRefuse k reason s) := by
  unfold updRefuse
  repeat'
    first
      | intro q | with_reducible assumption | with_reducible apply updRec_keeps | with_reducible apply hwf_keeps
      | with_reducible apply Keeps.ite | extract_lets | dsimp +zetaDelta only

theorem relayPieces_keeps (k : Nat) (dst : Nat) (map : Nat) (h : Keeps r s) : Keeps r (relayPieces k dst map s) := by
  unfold relayPieces
  repeat'
    first
      | intro q | with_reducible assumption | with_reducible apply each_keeps | with_reducible apply eachBelow_keeps
      | with_reducible apply relaySend_keeps | with_reducible apply Keeps.ite | extract_lets | dsimp +zetaDelta only

theorem relayMessage_keeps (port : Nat) (b : List Byte) (h : Keeps r s) : Keeps r (relayMessage port b s) := by
  unfold relayMessage
  repeat'
    first
      | intro q | with_reducible assumption | with_reducible apply evt_keeps | with_reducible apply updRefuse_keeps
      | with_reducible apply relayNeed_keeps | with_reducible apply offerTake_keeps | with_reducible apply pieceTake_keeps
      | with_reducible apply relayPieces_keeps | with_reducible apply setV_keeps | with_reducible apply relayShow_keeps
      | with_reducible apply Keeps.ite | split | extract_lets | dsimp +zetaDelta only

theorem coreTrial_keeps (h : Keeps r s) : Keeps r (coreTrial s) := by
  unfold coreTrial
  repeat'
    first
      | intro q | with_reducible assumption | with_reducible apply trialFailure_keeps | with_reducible apply coreLockstep_keeps
      | with_reducible apply Keeps.ite | extract_lets | dsimp +zetaDelta only

theorem updRefresh_keeps (h : Keeps r s) : Keeps r (updRefresh s) := by
  unfold updRefresh
  repeat'
    first
      | intro q | with_reducible assumption | with_reducible apply eachBelow_keeps | with_reducible apply hwf_keeps
      | with_reducible apply Keeps.ite | extract_lets | dsimp +zetaDelta only

theorem updPowerOn_keeps (c : Nat) (safety : Bool) (h : Keeps r s) : Keeps r (updPowerOn c safety s) := by
  unfold updPowerOn
  repeat'
    first
      | intro q | with_reducible assumption | with_reducible apply setV_keeps | with_reducible apply eachBelow_keeps
      | with_reducible apply updRefresh_keeps | with_reducible apply hwf_keeps | with_reducible apply setOffer_keeps
      | with_reducible apply Keeps.ite | extract_lets | dsimp +zetaDelta only | with_reducible apply Keeps.upd

theorem chanTrial_keeps {f : State → State} (hf : ∀ t, Keeps r t → Keeps r (f t)) (h : Keeps r s) : Keeps r (chanTrial f s) := by
  unfold chanTrial
  exact Keeps.ite (hf s h) (trialFailure_keeps _ (hf s h))

theorem fetchComplete_keeps (k : Nat) (fetched : Nat) (ok : Bool) (b : Bale) (h : Keeps r s) : Keeps r (fetchComplete k fetched
    ok b s) := by
  unfold fetchComplete
  repeat'
    first
      | intro q | with_reducible assumption | with_reducible apply storeBale_keeps | with_reducible apply inc_keeps
      | with_reducible apply Keeps.ite | split | extract_lets | dsimp +zetaDelta only | with_reducible apply Keeps.upd

theorem activationComplete_keeps (k : Nat) (r' : LoadResult) (h : Keeps r s) : Keeps r (activationComplete k r' s) := by
  unfold activationComplete
  repeat'
    first
      | intro q | with_reducible assumption | with_reducible apply trialStart_keeps | with_reducible apply relayStart_keeps
      | with_reducible apply updNext_keeps | with_reducible apply fallback_keeps | with_reducible apply Keeps.ite | split
      | extract_lets | dsimp +zetaDelta only

theorem baleArrives_keeps (k : Nat) (b : Bale) (h : Keeps r s) : Keeps r (baleArrives k b s) := by
  unfold baleArrives
  repeat'
    first
      | intro q | with_reducible assumption | with_reducible apply storeBale_keeps | with_reducible apply Keeps.ite
      | extract_lets | dsimp +zetaDelta only

theorem mirroringComplete_keeps (k : Nat) (h : Keeps r s) : Keeps r (mirroringComplete k s) := by
  unfold mirroringComplete
  repeat'
    first
      | intro q | with_reducible assumption | with_reducible apply setOffer_keeps | with_reducible apply hwb_keeps
      | with_reducible apply Keeps.ite | extract_lets | dsimp +zetaDelta only

theorem vinMeasured_keeps (mv : Nat) (h : Keeps r s) : Keeps r (vinMeasured mv s) := by
  unfold vinMeasured
  repeat'
    first
      | intro q | with_reducible assumption | with_reducible apply hwf_keeps | with_reducible apply hwb_keeps
      | with_reducible apply evt_keeps | with_reducible apply fault_keeps | with_reducible apply Keeps.ite | extract_lets
      | dsimp +zetaDelta only

theorem milestone_keeps (a' : Nat) (lo : Nat) (h : Keeps r s) : Keeps r (milestone a' lo s) := by
  unfold milestone
  repeat'
    first
      | intro q | with_reducible assumption | with_reducible apply hwf_keeps | with_reducible apply Keeps.ite | extract_lets
      | dsimp +zetaDelta only

theorem pwrStart_keeps (kind : Nat) (dorm : Nat) (rtc : Bool) (h : Keeps r s) : Keeps r (pwrStart kind dorm rtc s) := by
  unfold pwrStart
  repeat'
    first
      | intro q | with_reducible assumption | with_reducible apply inc_keeps | with_reducible apply hwf_keeps
      | with_reducible apply hw_keeps | with_reducible apply drawn_keeps | with_reducible apply hwb_keeps
      | with_reducible apply evt_keeps | with_reducible apply Keeps.ite | extract_lets | dsimp +zetaDelta only

theorem accShow_keeps (h : Keeps r s) : Keeps r (accShow s) := by
  unfold accShow
  repeat'
    first
      | intro q | with_reducible assumption | with_reducible apply pqRestore_keeps | with_reducible apply each_keeps
      | with_reducible apply pubAcc_keeps | with_reducible apply Keeps.ite | split | extract_lets | dsimp +zetaDelta only

theorem pwrMeasure_keeps (h : Keeps r s) : Keeps r (pwrMeasure s) := by
  unfold pwrMeasure
  repeat'
    first
      | intro q | with_reducible assumption | with_reducible apply wr_keeps | with_reducible apply wrf_keeps
      | with_reducible apply drawn_keeps | with_reducible apply Keeps.ite | extract_lets | dsimp +zetaDelta only

theorem vbatMeasured_keeps (mv : Nat) (h : Keeps r s) : Keeps r (vbatMeasured mv s) := by
  unfold vbatMeasured
  repeat'
    first
      | intro q | with_reducible assumption | with_reducible apply hwb_keeps | with_reducible apply hwf_keeps
      | with_reducible apply evt_keeps | with_reducible apply Keeps.ite | extract_lets | dsimp +zetaDelta only

theorem brownOut_keeps (rail : Nat) (h : Keeps r s) : Keeps r (brownOut rail s) := by
  unfold brownOut
  repeat'
    first
      | intro q | with_reducible assumption | with_reducible apply supplyCommit_keeps | with_reducible apply Keeps.ite
      | extract_lets | dsimp +zetaDelta only

theorem powerLoss_keeps (h : Keeps r s) : Keeps r (powerLoss s) := by
  unfold powerLoss
  refine h.of_wf rfl (Tab.wf_filter _ _) (fun _ _ => rfl) id id fun e => ?_
  refine metEven_iff.mpr { metEven_iff.mp e with caps := ?_, capSet := ?_, saveSet := ?_, saving := ?_ } <;> simp [State.reset]

theorem restaged_keeps (short : Bool) (old : List Waiting) (h : Keeps r s) : Keeps r (restaged short old s) := by
  unfold restaged
  repeat'
    first
      | intro q | with_reducible assumption | with_reducible apply Keeps.ite | extract_lets | dsimp +zetaDelta only
      | with_reducible apply Keeps.upd

theorem ownerLost_keeps (code : Nat) (h : Keeps r s) : Keeps r (ownerLost code s) := by
  unfold ownerLost
  repeat'
    first
      | intro q | with_reducible assumption | with_reducible apply setV_keeps | with_reducible apply each_keeps
      | with_reducible apply evt_keeps | with_reducible apply Keeps.ite | extract_lets | dsimp +zetaDelta only

theorem pub_upd_keeps {l : List (Nat × Word)} (d : List Nat) (hl : Tab.wf resetVal s.slots = true → Tab.wf resetVal l = true)
    (h : Keeps r s) : Keeps r { s with dirty := d, pub := l } :=
  h.of_wf rfl id (fun hs _ => hl hs) id id

theorem powerUp_keeps (kind : Nat) (rtc0 : Option Nat) (lost : List Nat) (h : Keeps r s) : Keeps r (powerUp kind rtc0 lost s) := by
  unfold powerUp
  extract_lets rtc short had was w g dorm p0 p1 p2 p3 p4 p5 p6 p7 p8 p9 p10
  clear_value dorm had short was
  have hw : Keeps r w := h.upd
  clear_value w
  have hg : Keeps r g := sealClose_keeps _ (bilRecover_keeps (gleanRecover_keeps _ (hwb_keeps _ _ _ hw)))
  clear_value g
  have h1 : Keeps r p1 := eachBelow_keeps _ (fun _ _ q => setV_keeps _ _ _ q) (setV_keeps _ _ _ (powerLoss_keeps hg))
  clear_value p1
  have h2 : Keeps r p2 := restaged_keeps _ _ (timPowerOn_keeps _ (hw_keeps _ _ h1))
  clear_value p2
  have h3 : Keeps r p3 := drvPowerOn_keeps (safPowerOn_keeps (pwrStart_keeps _ _ _ (setV_keeps _ _ _ h2)))
  clear_value p3
  have h4 : Keeps r p4 := bilPowerOn_keeps _ (accShow_keeps (pubStart_keeps (winRestart_keeps h3)))
  clear_value p4
  have h5 : Keeps r p5 := keyPowerOn_keeps _ (jnlRecover_keeps _ _ h4)
  clear_value p5
  have h6 : Keeps r p6 := ctlPowerOn_keeps (mlkPowerOn_keeps (netPowerOn_keeps (quePowerOn_keeps (alcReset_keeps
    (stlPowerOn_keeps (hw_keeps _ _ h5))))))
  clear_value p6
  have h7 : Keeps r p7 := updPowerOn_keeps _ _ (partsRestart_keeps h6)
  clear_value p7
  have h9 : Keeps r p9 := fltShow_keeps (Keeps.ite (fault_keeps _ _ _ _ _ (commonOnce_keeps _ _ h7)) h7)
  clear_value p9
  have h10 : Keeps r p10 := Keeps.ite (each_keeps _ (fun _ _ q => ownerLost_keeps _ q) (setV_keeps _ _ _ h9)) h9
  clear_value p10
  exact pub_upd_keeps _ id h10

theorem powerOn_keeps (rtc : Option Nat) (lost : List Nat) (h : Keeps r s) : Keeps r (powerOn rtc lost s) := by
  unfold powerOn
  repeat'
    first
      | intro q | with_reducible assumption | with_reducible apply powerUp_keeps | with_reducible apply Keeps.ite | extract_lets
      | dsimp +zetaDelta only

theorem deviceReset.vhsLost_keeps (n : Nat) (h : Keeps r s) : Keeps r (deviceReset.vhsLost n s) := by
  unfold deviceReset.vhsLost
  repeat'
    first
      | intro q | with_reducible assumption | with_reducible apply vhsClose_keeps | with_reducible apply Keeps.ite
      | extract_lets | dsimp +zetaDelta only

theorem restartActs_keeps (code : Nat) (h : Keeps r s) : Keeps r (restartActs code s) := by
  unfold restartActs
  repeat'
    first
      | intro q | with_reducible assumption | with_reducible apply timReset_keeps | with_reducible apply netRestart_keeps
      | with_reducible apply balBreak_keeps | with_reducible apply pqCloseAll_keeps | with_reducible apply setV_keeps
      | with_reducible apply hwb_keeps | with_reducible apply eachBelow_keeps | with_reducible apply mlkRestart_keeps
      | with_reducible apply queFlush_keeps | with_reducible apply keyRestart_keeps | with_reducible apply ctlRestart_keeps
      | with_reducible apply Keeps.ite | split | extract_lets | dsimp +zetaDelta only

theorem epochsRestart_keeps (h : Keeps r s) : Keeps r (epochsRestart s) := by
  unfold epochsRestart
  exact h.of_wf rfl (Tab.wf_filter _ _) (fun _ => Tab.wf_filter _ _) id id

theorem deviceReset_keeps (cause : Nat) (h : Keeps r s) : Keeps r (deviceReset cause s) := by
  unfold deviceReset
  repeat'
    first
      | intro q | with_reducible assumption | with_reducible apply commonOnce_keeps | with_reducible apply drainAll_keeps
      | with_reducible apply submit_keeps | with_reducible apply roleLost_keeps | with_reducible apply partsRestart_keeps
      | with_reducible apply linkLoss_keeps | with_reducible apply setV_keeps | with_reducible apply eachBelow_keeps
      | with_reducible apply queFlush_keeps | with_reducible apply timReset_keeps | with_reducible apply alcReset_keeps
      | with_reducible apply ctlReset_keeps | with_reducible apply deviceReset.vhsLost_keeps | with_reducible apply each_keeps
      | with_reducible apply ownerLost_keeps | with_reducible apply hw_keeps | with_reducible apply inc_keeps
      | with_reducible apply hwf_keeps | with_reducible apply epochsRestart_keeps | with_reducible apply Keeps.ite
      | extract_lets | dsimp +zetaDelta only

theorem resetCommand_keeps (h : Keeps r s) : Keeps r (resetCommand s) := by
  unfold resetCommand
  repeat'
    first
      | intro q | with_reducible assumption | with_reducible apply setV_keeps | with_reducible apply deviceReset_keeps
      | with_reducible apply Keeps.ite | extract_lets | dsimp +zetaDelta only

theorem blockRestart_keeps (code : Nat) (cause : Nat) (h : Keeps r s) : Keeps r (blockRestart code cause s) := by
  unfold blockRestart
  repeat'
    first
      | intro q | with_reducible assumption | with_reducible apply evt_keeps | with_reducible apply submit_keeps
      | with_reducible apply ownerLost_keeps | with_reducible apply restartActs_keeps | with_reducible apply Keeps.ite
      | extract_lets | dsimp +zetaDelta only

theorem restartComplete_keeps (code : Nat) (h : Keeps r s) : Keeps r (restartComplete code s) := by
  unfold restartComplete
  repeat'
    first
      | intro q | with_reducible assumption | with_reducible apply setV_keeps | with_reducible apply winRestart_keeps
      | with_reducible apply hwb_keeps | with_reducible apply balBreak_keeps | with_reducible apply jnlBack_keeps
      | with_reducible apply Keeps.ite | split | extract_lets | dsimp +zetaDelta only

theorem resetRelease_keeps (h : Keeps r s) : Keeps r (resetRelease s) := by
  unfold resetRelease
  repeat'
    first
      | intro q | with_reducible assumption | with_reducible apply setV_keeps | with_reducible apply eachBelow_keeps
      | with_reducible apply restartComplete_keeps | with_reducible apply mlkRestart_keeps | with_reducible apply hwf_keeps
      | with_reducible apply fault_keeps | with_reducible apply Keeps.ite | extract_lets | dsimp +zetaDelta only

theorem resetNRelease_keeps (h : Keeps r s) : Keeps r (resetNRelease s) := by
  unfold resetNRelease
  repeat'
    first
      | intro q | with_reducible assumption | with_reducible apply setV_keeps | with_reducible apply hwb_keeps
      | with_reducible apply resetRelease_keeps | with_reducible apply Keeps.ite | extract_lets | dsimp +zetaDelta only

theorem resetDue_keeps (h : Keeps r s) : Keeps r (resetDue s) := by
  unfold resetDue
  repeat'
    first
      | intro q | with_reducible assumption | with_reducible apply resetRelease_keeps | with_reducible apply Keeps.ite
      | extract_lets | dsimp +zetaDelta only

theorem milestones_keeps (h : Keeps r s) : Keeps r (milestones s) := by
  unfold milestones
  repeat'
    first
      | intro q | with_reducible assumption | with_reducible apply milestone_keeps | with_reducible apply Keeps.ite
      | extract_lets | dsimp +zetaDelta only

theorem selfRestart_keeps (code : Nat) (h : Keeps r s) : Keeps r (selfRestart code s) := by
  unfold selfRestart
  repeat'
    first
      | intro q | with_reducible assumption | with_reducible apply blockRestart_keeps | with_reducible apply Keeps.ite
      | extract_lets | dsimp +zetaDelta only

theorem granaryMismatchActs_keeps (h : Keeps r s) : Keeps r (granaryMismatchActs s) := by
  unfold granaryMismatchActs
  repeat'
    first
      | intro q | with_reducible assumption | with_reducible apply selfRestart_keeps
      | with_reducible apply granaryMismatch_keeps | with_reducible apply Keeps.ite | extract_lets | dsimp +zetaDelta only

theorem resetNAssert_keeps (h : Keeps r s) : Keeps r (resetNAssert s) := by
  unfold resetNAssert
  repeat'
    first
      | intro q | with_reducible assumption | with_reducible apply setV_keeps | with_reducible apply hwb_keeps
      | with_reducible apply hwf_keeps | with_reducible apply deviceReset_keeps | with_reducible apply Keeps.ite | extract_lets
      | dsimp +zetaDelta only

theorem refclkReturn_keeps (h : Keeps r s) : Keeps r (refclkReturn s) := by
  unfold refclkReturn
  repeat'
    first
      | intro q | with_reducible assumption | with_reducible apply setV_keeps | with_reducible apply hwf_keeps
      | with_reducible apply hwb_keeps | with_reducible apply winRestart_keeps | with_reducible apply fault_keeps
      | with_reducible apply Keeps.ite | extract_lets | dsimp +zetaDelta only

theorem railOut_keeps (rail : Nat) (h : Keeps r s) : Keeps r (railOut rail s) := by
  unfold railOut
  repeat'
    first
      | intro q | with_reducible assumption | with_reducible apply commonOnce_keeps | with_reducible apply setV_keeps
      | with_reducible apply channelLoss_keeps | with_reducible apply hwb_keeps | with_reducible apply fault_keeps
      | with_reducible apply evt_keeps | with_reducible apply Keeps.ite | extract_lets | dsimp +zetaDelta only

theorem refclkLoss_keeps (h : Keeps r s) : Keeps r (refclkLoss s) := by
  unfold refclkLoss
  repeat'
    first
      | intro q | with_reducible assumption | with_reducible apply commonOnce_keeps | with_reducible apply setV_keeps
      | with_reducible apply hwf_keeps | with_reducible apply hwb_keeps | with_reducible apply fault_keeps
      | with_reducible apply evt_keeps | with_reducible apply inc_keeps | with_reducible apply eachBelow_keeps
      | with_reducible apply setClock_keeps | with_reducible apply Keeps.ite | extract_lets | dsimp +zetaDelta only

theorem rtcLost_keeps (h : Keeps r s) : Keeps r (rtcLost s) := by
  unfold rtcLost
  repeat'
    first
      | intro q | with_reducible assumption | with_reducible apply hwb_keeps | with_reducible apply setV_keeps
      | with_reducible apply Keeps.ite | extract_lets | dsimp +zetaDelta only

theorem linkUp_keeps (gen : Nat) (lanes : Nat) (h : Keeps r s) : Keeps r (linkUp gen lanes s) := by
  unfold linkUp
  repeat'
    first
      | intro q | with_reducible assumption | with_reducible apply hwf_keeps | with_reducible apply milestone_keeps
      | with_reducible apply fault_keeps | with_reducible apply Keeps.ite | extract_lets | dsimp +zetaDelta only

theorem railRecovered_keeps (rail : Nat) (h : Keeps r s) : Keeps r (railRecovered rail s) := by
  unfold railRecovered
  repeat'
    first
      | intro q | with_reducible assumption | with_reducible apply hwb_keeps | with_reducible apply setV_keeps
      | with_reducible apply fault_keeps | with_reducible apply Keeps.ite | extract_lets | dsimp +zetaDelta only

theorem sysEffect_keeps (code : Nat) (arg : Nat) (h : Keeps r s) : Keeps r (sysEffect code arg s) := by
  unfold sysEffect
  repeat'
    first
      | intro q | with_reducible assumption | with_reducible apply setV_keeps | with_reducible apply partFail_keeps
      | with_reducible apply Keeps.ite | extract_lets | dsimp +zetaDelta only

theorem reply_keeps (m : Master) (before : List Nat) (us : List Nat) (h : Keeps r s) : Keeps r (reply m before us s) := by
  unfold reply
  repeat'
    first
      | intro q | with_reducible assumption | with_reducible apply Keeps.ite | split | extract_lets | dsimp +zetaDelta only
      | with_reducible apply Keeps.upd

theorem badForm_keeps (m : Master) (h : Keeps r s) : Keeps r (badForm m s) := by
  unfold badForm
  repeat'
    first
      | intro q | with_reducible assumption | with_reducible apply mgmtStatus_keeps | with_reducible apply countOnly_keeps
      | with_reducible apply Keeps.ite | split | extract_lets | dsimp +zetaDelta only | with_reducible apply Keeps.upd

theorem portRead_keeps (a' : Nat) (len : Nat) (h : Keeps r s) : Keeps r (portRead a' len s) := by
  unfold portRead
  repeat'
    first
      | intro q | with_reducible assumption | with_reducible apply quePop_keeps | with_reducible apply badForm_keeps
      | with_reducible apply Keeps.ite | extract_lets | dsimp +zetaDelta only | with_reducible apply Keeps.upd

theorem readCaptured_keeps (m : Master) (a' : Nat) (len : Nat) (dt : Nat) (h : Keeps r s) : Keeps r (readCaptured m a' len dt s)
    := by
  unfold readCaptured
  repeat'
    first
      | intro q | with_reducible assumption | with_reducible apply nowCapture_keeps | with_reducible apply btCapture_keeps
      | with_reducible apply Keeps.ite | extract_lets | dsimp +zetaDelta only

theorem snapTake_keeps (m : Master) (h : Keeps r s) : Keeps r (snapTake m s) := by
  unfold snapTake
  repeat'
    first
      | intro q | with_reducible assumption | with_reducible apply snapRelease_keeps | with_reducible apply setV_keeps
      | with_reducible apply each_keeps | with_reducible apply wrB_keeps | with_reducible apply btCapture_keeps
      | with_reducible apply nowCapture_keeps | with_reducible apply setSnap_keeps | with_reducible apply Keeps.ite
      | with_reducible apply foldl_keeps | with_reducible apply foldl_fst_keeps | extract_lets | dsimp +zetaDelta only

theorem readRequest_keeps (m : Master) (a' : Nat) (len : Nat) (dt : Nat) (h : Keeps r s) : Keeps r (readRequest m a' len dt s)
    := by
  unfold readRequest
  repeat'
    first
      | intro q | with_reducible assumption | with_reducible apply portRead_keeps | with_reducible apply badForm_keeps
      | with_reducible apply mgmtStatus_keeps | with_reducible apply countOnly_keeps | with_reducible apply readCaptured_keeps
      | with_reducible apply reply_keeps | with_reducible apply Keeps.ite | extract_lets | dsimp +zetaDelta only
      | with_reducible apply Keeps.upd

theorem publish_keeps (c0 : Nat) (h : Keeps r s) : Keeps r (publish c0 s) := by
  have hput (l t : List (Nat × Word)) (ht : Tab.wf resetVal t = true) :
      Tab.wf resetVal (l.foldl (fun t e => Tab.put natLt resetVal t e.1 e.2) t) = true := by
    induction l generalizing t with
    | nil => exact ht
    | cons a l ih => exact ih _ (Tab.wf_put _ _ _ ht)
  have hcommit (sl : List (Nat × Word)) (l : List Nat) (t : List (Nat × Word)) (ht : Tab.wf resetVal t = true) :
      Tab.wf resetVal (l.foldl (fun t a =>
        let u := Tab.put natLt resetVal t a (Tab.get resetVal sl a)
        Tab.put natLt resetVal u (epochAddr (a / 0x1000)) (Tab.get resetVal sl (epochAddr (a / 0x1000)))) t) = true := by
    induction l generalizing t with
    | nil => exact ht
    | cons a l ih => exact ih _ (Tab.wf_put _ _ _ (Tab.wf_put _ _ _ ht))
  unfold publish
  extract_lets forced s1 k s2 live held p1 p2
  have h2 : Keeps r s2 := each_keeps _ (fun _ _ q => wr_keeps _ _ q) (Keeps.ite (pwrMeasure_keeps h) h)
  refine each_keeps _ (fun _ _ q => setV_keeps _ _ _ q) (setV_keeps _ _ _ ?_)
  exact h2.of_wf rfl id (fun hs _ => hcommit _ _ _ (hput _ _ (Tab.wf_filter _ _ hs))) id id

theorem decisionLeft_keeps (h : Keeps r s) : Keeps r (decisionLeft s) := by
  unfold decisionLeft
  repeat'
    first
      | intro q | with_reducible assumption | with_reducible apply eachBelow_keeps | with_reducible apply hwf_keeps
      | with_reducible apply Keeps.ite | extract_lets | dsimp +zetaDelta only

theorem secondly_keeps (c0 : Nat) (h : Keeps r s) : Keeps r (secondly c0 s) := by
  unfold secondly
  repeat'
    first
      | intro q | with_reducible assumption | with_reducible apply gridShow_keeps | with_reducible apply hwb_keeps
      | with_reducible apply decisionLeft_keeps | with_reducible apply rateRefresh_keeps | with_reducible apply mlkRefresh_keeps
      | with_reducible apply updRefresh_keeps | with_reducible apply Keeps.ite | extract_lets | dsimp +zetaDelta only

theorem readsDue_keeps (h : Keeps r s) : Keeps r (readsDue s) := by
  unfold readsDue
  repeat'
    first
      | intro q | with_reducible assumption | with_reducible apply each_keeps | with_reducible apply readCaptured_keeps
      | with_reducible apply reply_keeps | with_reducible apply Keeps.ite | extract_lets | dsimp +zetaDelta only
      | with_reducible apply Keeps.upd

theorem publishBanks_keeps (h : Keeps r s) : Keeps r (publishBanks s) := by
  unfold publishBanks
  extract_lets own evts
  refine h.of_wf rfl id (fun hs hp => ?_) id id
  have hb (l t : List (Nat × Word)) (hl : ∀ e ∈ l, e.1 < bankSpan) (ht : Tab.wf resetVal t = true) (hk : ∀ e ∈ t, e.1 < bankSpan) :
      Tab.wf resetVal (l.foldl (fun t e => Tab.put natLt resetVal t e.1 e.2) t) = true ∧
      ∀ e ∈ l.foldl (fun t e => Tab.put natLt resetVal t e.1 e.2) t, e.1 < bankSpan := by
    induction l generalizing t with
    | nil => exact ⟨ht, hk⟩
    | cons a l ih =>
      refine ih _ (fun e he => hl e (by simp [he])) (Tab.wf_put _ _ _ ht) fun e he => ?_
      rcases Tab.mem_put _ he with rfl | he
      · exact hl a (by simp)
      · exact hk e he
  obtain ⟨h1, h2⟩ := hb evts (s.pub.filter own)
    (fun e he => by simpa using (List.mem_filter.mp he).2 |> Bool.and_elim_left)
    (Tab.wf_filter _ _ hp) (fun e he => by simpa [own] using ((Bool.and_eq_true _ _).mp (List.mem_filter.mp he).2).1)
  exact Tab.wf_append _ bankSpan h1 (Tab.wf_filter _ _ hs) h2 fun e he => by simpa using (List.mem_filter.mp he).2

theorem takesDue_keeps (h : Keeps r s) : Keeps r (takesDue s) := by
  unfold takesDue
  repeat'
    first
      | intro q | with_reducible assumption | with_reducible apply each_keeps | with_reducible apply snapTake_keeps
      | with_reducible apply setV_keeps | with_reducible apply Keeps.ite | extract_lets | dsimp +zetaDelta only

theorem updActs_keeps (h : Keeps r s) : Keeps r (updActs s) := by
  unfold updActs
  extract_lets x s0 s1 s2 s3
  have h0 : Keeps r s0 := setV_keeps _ _ _ h
  clear_value s0 x
  have h1 : Keeps r s1 := Keeps.ite (selfRestart_keeps _ h0) h0
  clear_value s1
  have h2 : Keeps r s2 := Keeps.ite (selfRestart_keeps _ (selfRestart_keeps _ (selfRestart_keeps _ h1))) h1
  clear_value s2
  have h3 : Keeps r s3 := captureNow_keeps (drainAll_keeps h2)
  clear_value s3
  exact Keeps.ite (powerUp_keeps _ _ _ (setV_keeps _ _ _ h3)) h2

theorem closing_keeps (c0 : Nat) (h : Keeps r s) : Keeps r (closing c0 s) := by
  unfold closing
  repeat'
    first
      | intro q | with_reducible assumption | with_reducible apply ephRefresh_keeps | with_reducible apply alcLatch_keeps
      | with_reducible apply pqFlush_keeps | with_reducible apply bilBoundary_keeps | with_reducible apply deferDue_keeps
      | with_reducible apply updEngines_keeps | with_reducible apply ethSend_keeps | with_reducible apply netStep_keeps
      | with_reducible apply btUpdate_keeps | with_reducible apply leapDue_keeps | with_reducible apply milestones_keeps
      | with_reducible apply secondly_keeps | with_reducible apply resetCommand_keeps | with_reducible apply setV_keeps
      | with_reducible apply readsDue_keeps | with_reducible apply publishBanks_keeps | with_reducible apply takesDue_keeps
      | with_reducible apply publish_keeps | with_reducible apply fltBoundary_keeps | with_reducible apply updActs_keeps
      | with_reducible apply captureDue_keeps | with_reducible apply Keeps.ite | extract_lets | dsimp +zetaDelta only

theorem tick_keeps (idle : Nat) (h : Keeps r s) : Keeps r (tick idle s) := by
  unfold tick
  repeat'
    first
      | intro q | with_reducible assumption | with_reducible apply btUpdate_keeps | with_reducible apply clockDue_keeps
      | with_reducible apply Keeps.ite | extract_lets | dsimp +zetaDelta only | with_reducible apply Keeps.upd

theorem bankedTakes_keeps (w : Write) (t : Target) {u : State} (e : bankedTakes w t s = some u) (h : Keeps r s) : Keeps r u := by
  unfold bankedTakes at e
  split at e <;> cases e
  · exact wrB_keeps _ _ _ h
  · exact wrfB_keeps _ _ _ _ _ h
  · exact wrB_keeps _ _ _ h
  · exact setV_keeps _ _ _ (wrB_keeps _ _ _ h)

theorem checkWrite_keeps (i : Nat) (w : Write) {a : Acc} (h : Keeps r a.s) : Keeps r (checkWrite i w a).s := by
  unfold checkWrite
  extract_lets t isCmd st tok seq s1 a1 out
  have h1 : Keeps r s1 := Keeps.ite (setV_keeps _ _ _ h) h
  clear_value st seq tok
  split
  · exact h1
  clear_value isCmd t
  generalize hb : bankedTakes w t s1 = ob
  cases ob with
  | some s2 => exact bankedTakes_keeps _ _ hb h1
  | none =>
    dsimp only
    split
    · split
      · exact h1
      · split
        · exact h1
        · exact wrB_keeps _ _ _ h1
    · exact h1

theorem checkAll_keeps (h : Keeps r s) : Keeps r (checkAll s).s := by
  have hl (l : List (Write × Nat)) (a : Acc) (ha : Keeps r a.s) : Keeps r (l.foldl (fun a x => checkWrite x.2 x.1 a) a).s := by
    induction l generalizing a with
    | nil => exact ha
    | cons x l ih => exact ih _ (checkWrite_keeps _ _ ha)
  unfold checkAll
  exact hl _ _ h.upd

theorem numberAll_keeps (l : List (Cand × Nat)) (cs : List Cand) (h : Keeps r s) : Keeps r (numberAll l cs s).1 := by
  unfold numberAll
  refine foldl_fst_keeps (fun x c hx => ?_) h
  extract_lets q s1 s2
  split
  · exact Keeps.ite (each_keeps _ (fun _ _ k => remember_keeps _ _ _ k) (submit_keeps _ hx)) (submit_keeps _ hx)
  · exact hx

theorem committed_keeps (a' : Nat) (h : Keeps r s) : Keeps r (committed a' s) := by
  unfold committed
  repeat'
    first
      | intro q | with_reducible assumption | with_reducible apply Keeps.ite | extract_lets | dsimp +zetaDelta only
      | with_reducible apply Keeps.upd

theorem cmdEffect_keeps (a' : Nat) (v : Nat) (m : Master) (both : Bool) (ok : Bool) (seq : Nat) (h : Keeps r s) : Keeps r
    (cmdEffect a' v m both ok seq s) := by
  unfold cmdEffect
  repeat'
    first
      | intro q | with_reducible assumption | with_reducible apply sysEffect_keeps | with_reducible apply blockRestart_keeps
      | with_reducible apply timEffect_keeps | with_reducible apply netEffect_keeps | with_reducible apply winEffect_keeps
      | with_reducible apply metCtlEffect_keeps | with_reducible apply alcEffect_keeps | with_reducible apply stlEffect_keeps
      | with_reducible apply drvEffect_keeps | with_reducible apply safEffect_keeps | with_reducible apply mlkEffect_keeps
      | with_reducible apply queFlush_keeps | with_reducible apply queMaxReset_keeps | with_reducible apply bilEffect_keeps
      | with_reducible apply keyEffect_keeps | with_reducible apply each_keeps | with_reducible apply wrB_keeps
      | with_reducible apply ctlEffect_keeps | with_reducible apply updEffect_keeps | with_reducible apply fltEffect_keeps
      | with_reducible apply Keeps.ite | split | extract_lets | dsimp +zetaDelta only

theorem slotEffect_keeps (a' : Nat) (v : Nat) (m : Master) (ok : Bool) (h : Keeps r s) : Keeps r (slotEffect a' v m ok s) := by
  unfold slotEffect
  repeat'
    first
      | intro q | with_reducible assumption | with_reducible apply queEvtSum_keeps | with_reducible apply wr_keeps
      | with_reducible apply each_keeps | with_reducible apply evt_keeps | with_reducible apply cfgSet_keeps
      | with_reducible apply snapRelease_keeps | with_reducible apply wrfB_keeps | with_reducible apply setV_keeps
      | with_reducible apply wrB_keeps | with_reducible apply login_keeps | with_reducible apply logout_keeps
      | with_reducible apply Keeps.ite | split | extract_lets | dsimp +zetaDelta only

theorem takeEffect_keeps (c : Cand) (seq : Nat) (h : Keeps r s) : Keeps r (takeEffect c seq s) := by
  unfold takeEffect
  repeat'
    first
      | intro q | with_reducible assumption | with_reducible apply cmdEffect_keeps | with_reducible apply touch_keeps
      | with_reducible apply wr_keeps | with_reducible apply slotEffect_keeps | with_reducible apply Keeps.ite | extract_lets
      | dsimp +zetaDelta only

theorem refuseEffect_keeps (c : Cand) (st : Nat) (h : Keeps r s) : Keeps r (refuseEffect c st s) := by
  unfold refuseEffect
  repeat'
    first
      | intro q | with_reducible assumption | with_reducible apply updRefuse_keeps | with_reducible apply wrfB_keeps
      | with_reducible apply Keeps.ite | extract_lets | dsimp +zetaDelta only

theorem stlRun_keeps (r' : Nat) (h : Keeps r s) : Keeps r (stlRun r' s) := by
  unfold stlRun
  repeat'
    first
      | intro q | with_reducible assumption | with_reducible apply stlStep_keeps | with_reducible apply Keeps.ite | extract_lets
      | dsimp +zetaDelta only

theorem enterRes_keeps (r' : Res) (h : Keeps r s) : Keeps r (enterRes r' s) := by
  unfold enterRes
  repeat'
    first
      | intro q | with_reducible assumption | with_reducible apply wrB_keeps | with_reducible apply evt_keeps
      | with_reducible apply setV_keeps | with_reducible apply countStatus_keeps | with_reducible apply mgmtStatus_keeps
      | with_reducible apply Keeps.ite | split | extract_lets | dsimp +zetaDelta only

theorem sweep_keeps {f : Cand → State → State} {g : Nat → State → State} (l : List Cand)
    (hf : ∀ c t, Keeps r t → Keeps r (f c t)) (hg : ∀ k t, Keeps r t → Keeps r (g k t)) (h : Keeps r s) : Keeps r (sweep f g l s) := by
  unfold sweep
  extract_lets first stalls rest x1 x2
  have h1 : Keeps r x1 := foldl_keeps (fun t c => hf c t) h
  have h2 : Keeps r x2 := foldl_keeps (fun t k ht => foldl_keeps (fun t c => hf c t) (hg _ t ht)) h1
  exact foldl_keeps (fun t c => hf c t) h2

theorem settle_keeps (h : Keeps r s) : Keeps r (settle s) := by
  unfold settle
  extract_lets fr acc a ws sts n seqOf s1 s2 gone rs
  have hn : Keeps r n.1 := numberAll_keeps _ _ (checkAll_keeps h)
  have h1 : Keeps r s1 := by
    refine sweep_keeps _ (fun c t ht => ?_) (fun _ _ => stlRun_keeps _) hn
    refine Keeps.ite ?_ (refuseEffect_keeps _ _ ht)
    exact Keeps.ite (takeEffect_keeps _ _ ht).upd (takeEffect_keeps _ _ ht)
  exact each_keeps _ (fun _ _ k => enterRes_keeps _ k) (each_keeps _ (fun _ _ k => wrB_keeps _ _ _ k) h1)

theorem opening_keeps (idle : Nat) (h : Keeps r s) : Keeps r (opening idle s) := by
  unfold opening
  repeat'
    first
      | intro q | with_reducible assumption | with_reducible apply excessWindows_keeps
      | with_reducible apply overcurrentDue_keeps | with_reducible apply harmShow_keeps | with_reducible apply alcLatch_keeps
      | with_reducible apply balLatch_keeps | with_reducible apply rateLatch_keeps | with_reducible apply sourcesSeen_keeps
      | with_reducible apply rewrapDue_keeps | with_reducible apply resetDue_keeps | with_reducible apply tick_keeps
      | with_reducible apply Keeps.ite | extract_lets | dsimp +zetaDelta only

theorem boundary_keeps (idle : Nat) (h : Keeps r s) : Keeps r (boundary idle s) := by
  unfold boundary
  repeat'
    first
      | intro q | with_reducible assumption | with_reducible apply publishBanks_keeps | with_reducible apply publish_keeps
      | with_reducible apply pqFlush_keeps | with_reducible apply tick_keeps | with_reducible apply closing_keeps
      | with_reducible apply settle_keeps | with_reducible apply opening_keeps | with_reducible apply Keeps.ite | extract_lets
      | dsimp +zetaDelta only

theorem post_keeps (w : Write) (h : Keeps r s) : Keeps r (post w s) := by
  unfold post
  repeat'
    first
      | intro q | with_reducible assumption | with_reducible apply Keeps.ite | extract_lets | dsimp +zetaDelta only
      | with_reducible apply Keeps.upd

theorem command_keeps (m : Master) (a' : Nat) (guard : Nat) (code : Nat) (arg : Nat) (ok : Bool) (h : Keeps r s) : Keeps r
    (command m a' guard code arg ok s) := by
  unfold command
  repeat'
    first
      | intro q | with_reducible assumption | with_reducible apply boundary_keeps | with_reducible apply post_keeps
      | with_reducible apply Keeps.ite | extract_lets | dsimp +zetaDelta only

theorem writeNow_keeps (m : Master) (a' : Nat) (guard : Nat) (value : Nat) (ok : Bool) (h : Keeps r s) : Keeps r (writeNow m a'
    guard value ok s) := by
  unfold writeNow
  repeat'
    first
      | intro q | with_reducible assumption | with_reducible apply boundary_keeps | with_reducible apply post_keeps
      | with_reducible apply Keeps.ite | extract_lets | dsimp +zetaDelta only

theorem writeRefuse_keeps (st : Nat) (addr : Nat) (h : Keeps r s) : Keeps r (writeRefuse st addr s) := by
  unfold writeRefuse
  repeat'
    first
      | intro q | with_reducible assumption | with_reducible apply mgmtStatus_keeps | with_reducible apply countStatus_keeps
      | with_reducible apply Keeps.ite | extract_lets | dsimp +zetaDelta only

theorem clockEvent_keeps {f : State → State} (hf : ∀ t, Keeps r t → Keeps r (f t)) (h : Keeps r s) : Keeps r (clockEvent f s) := by
  unfold clockEvent
  exact Keeps.ite h (btUpdate_keeps (hf s h))

theorem portWrite_keeps (addr : Nat) (width : Nat) (guard : Nat) (value : Nat) (h : Keeps r s) : Keeps r (portWrite addr width
    guard value s) := by
  unfold portWrite
  repeat'
    first
      | intro q | with_reducible assumption | with_reducible apply awake_keeps | with_reducible apply quePush_keeps
      | with_reducible apply Keeps.ite | split | extract_lets | dsimp +zetaDelta only

theorem linkIn_keeps (port : Nat) (b : List Byte) (dt : Nat) (attenDb : Nat) (h : Keeps r s) : Keeps r (linkIn port b dt attenDb
    s) := by
  unfold linkIn
  repeat'
    first
      | intro q | with_reducible assumption | with_reducible apply linkFrame_keeps | with_reducible apply relayMessage_keeps
      | with_reducible apply Keeps.ite | split | extract_lets | dsimp +zetaDelta only

theorem windowRead_keeps (m : Master) (off : Nat) (len : Nat) (h : Keeps r s) : Keeps r (windowRead m off len s) := by
  unfold windowRead
  repeat'
    first
      | intro q | with_reducible assumption | with_reducible apply awake_keeps | with_reducible apply readRequest_keeps
      | with_reducible apply Keeps.ite | extract_lets | dsimp +zetaDelta only

theorem msixUnmask_keeps (k : Nat) (h : Keeps r s) : Keeps r (msixUnmask k s) := by
  unfold msixUnmask
  repeat'
    first
      | intro q | with_reducible assumption | with_reducible apply sendMsi_keeps | with_reducible apply wrf_keeps
      | with_reducible apply Keeps.ite | extract_lets | dsimp +zetaDelta only

theorem frameWrite_keeps (f : List Byte) (clocked : Bool) (h : Keeps r s) : Keeps r (frameWrite f clocked s) := by
  unfold frameWrite
  repeat'
    first
      | intro q | with_reducible assumption | with_reducible apply mgmtSeen_keeps | with_reducible apply writeRefuse_keeps
      | with_reducible apply post_keeps | with_reducible apply drawn_keeps | with_reducible apply Keeps.ite | extract_lets
      | dsimp +zetaDelta only

theorem frameRefuse_keeps (st : Nat) (h : Keeps r s) : Keeps r (frameRefuse st s) := by
  unfold frameRefuse
  repeat'
    first
      | intro q | with_reducible assumption | with_reducible apply mgmtStatus_keeps | with_reducible apply countOnly_keeps
      | with_reducible apply Keeps.ite | extract_lets | dsimp +zetaDelta only

theorem frameRead_keeps (f : List Byte) (dt : Nat) (clocked : Bool) (h : Keeps r s) : Keeps r (frameRead f dt clocked s) := by
  unfold frameRead
  repeat'
    first
      | intro q | with_reducible assumption | with_reducible apply mgmtSeen_keeps | with_reducible apply frameRefuse_keeps
      | with_reducible apply readRequest_keeps | with_reducible apply Keeps.ite | extract_lets | dsimp +zetaDelta only

theorem powerDelivery_keeps (p : Partition) (stall : Nat) (h : Keeps r s) : Keeps r (powerDelivery p stall s) := by
  unfold powerDelivery
  repeat'
    first
      | intro q | with_reducible assumption | with_reducible apply trigger_keeps | with_reducible apply Keeps.ite | extract_lets
      | dsimp +zetaDelta only

theorem msixWrite_keeps (a' : Nat) (v : Nat) (h : Keeps r s) : Keeps r (msixWrite a' v s) := by
  unfold msixWrite
  repeat'
    first
      | intro q | with_reducible assumption | with_reducible apply wr_keeps | with_reducible apply msixUnmask_keeps
      | with_reducible apply Keeps.ite | split | extract_lets | dsimp +zetaDelta only

theorem busWrite_keeps (m : Master) (addr : Nat) (width : Nat) (guard : Nat) (value : Nat) (h : Keeps r s) : Keeps r (busWrite m
    addr width guard value s) := by
  unfold busWrite
  repeat'
    first
      | intro q | with_reducible assumption | with_reducible apply msixWrite_keeps | with_reducible apply portWrite_keeps
      | with_reducible apply mgmtStatus_keeps | with_reducible apply countStatus_keeps | with_reducible apply post_keeps
      | with_reducible apply drawn_keeps | with_reducible apply Keeps.ite | split | extract_lets | dsimp +zetaDelta only

end Sys2Proof.Machine.State
end

