-- ==== Sys2Proof/WellFormed.lean ====
section
/-! DEFINITION. Which commands are well formed: the operand values that the interface of the block can give. Operands whose
type admits only such values need no check. -/
namespace Sys2Proof

/-- BAR0 is 64 MiB (R22). -/
def barBytes : Nat := 0x4000000

/-- A slot's byte address (R23, R25). -/
def slotAddress (a : Nat) : Bool := decide (a < barBytes) && decide (a % 8 = 0)

/-- No value twice. -/
def distinct : List Nat → Bool
  | [] => true
  | x :: t => !t.contains x && distinct t

/-- The operands are values the interface can give. -/
def Instr.wellFormed (i : Instr) : Bool :=
  match i with
  | .registerWrite _ a w _ _ => decide (a < barBytes) && decide (1 ≤ w ∧ w ≤ 256)
  | .tokenWrite _ a _ _ => slotAddress a
  | .pageEvtForce _ p _ _ => decide (p < 0x2000)
  | .pageReadStall _ a n dt => decide (a < barBytes) && decide (1 ≤ n ∧ n ≤ 256) && decide (dt < 1000)
  | .mgmtReadFrame f dt _ => decide (f.length ≤ 72) && decide (dt < 1000)
  | .mgmtWriteFrame f _ => decide (f.length ≤ 72)
  | .timNowCapture _ dt => decide (dt < 1000)
  | .ptpMessageReceived _ g => decide (g.domain < 256 ∧ g.transport ≤ 2) && decide (g.dt < 1000 ∧ g.dt % 2 = 0 ∧ g.request % 2 = 0)
  | .transparentClockForward i e g _ => decide (i ≤ 4 ∧ e ≤ 4 ∧ i ≠ e) && decide (g.domain < 256 ∧ g.transport ≤ 2)
  | .ppsInEdge dt _ => decide (dt < 1000)
  | .ppsOutPulse dt _ => decide (dt < 1000)
  | .mainSample _ _ dt xs => decide (dt < 1000) && distinct (xs.map (·.input)) && xs.all fun x => decide (x.input < 256)
  | .fastSample _ _ dt _ => decide (dt < 1000)
  | .sealedWrite _ a _ _ => slotAddress a && decide (0x400000 ≤ a ∧ a < 0x500000)
  | .cmSlacParamReq _ i a => decide (i < 2 ^ 64) && decide (a < 256)
  | .cmSlacMatchReq _ i v => decide (i < 2 ^ 64) && decide (v < 2 ^ 48)
  | .supportedAppProtocolReq _ l => decide (1 ≤ l.length ∧ l.length ≤ 20)
  | .tlsRecordReceived _ r => decide (r.len < 2 ^ 16)
  | .v2gRequest _ r => decide (r.soc ≤ 100) && decide (r.emaid < 2 ^ 320)
  | .partitionResponse _ _ r => decide (r.code < 256) && decide (r.ctx < 2 ^ 64)
  | .certVerifyComplete _ c => decide (c.periods.length = c.count)
  | .partitionFailure _ c => decide (1 ≤ c ∧ c ≤ 3)
  | .safetyFeedRecord q => decide (q < 2 ^ 32)
  | .safetyRelease t => t.all fun x => decide (x < 32)
  | .safetyLinkWatchdog _ p => p.all fun x => decide (x < 2)
  | .push _ b => decide (1 ≤ b.length ∧ b.length ≤ 256)
  | .pushEnd _ b => decide (b.length ≤ 256)
  | .pop _ n => decide (1 ≤ n ∧ n ≤ 16)
  | .recordSubmit x => decide (x.source < 256) && decide (x.cls < 16) && decide (1 ≤ x.parts ∧ x.parts ≤ 16)
  | .journalWindowRead _ off len => decide (off < 0x1000000) && decide (1 ≤ len ∧ len ≤ 256)
  | .supplyLossCommit mv => decide (mv < 2 ^ 16)
  | .bilBtCapture _ dt => decide (dt < 1000)
  | .keyOperation r => decide (1 ≤ r.cls ∧ r.cls ≤ 5) && decide (r.handle < 2 ^ 32) && match r.use with
    | .derive _ _ alg _ => decide (1 ≤ alg ∧ alg ≤ 7)
    | _ => true
  | .tamperEvent k => decide (k < 16)
  | .select c i p q a => decide (c < 256 ∧ i < 256 ∧ p < 256 ∧ q < 256) && decide (a.length ≤ 255)
  | .fieldRead off le => decide (off < 0x10000) && decide (le ≤ 256)
  | .fieldWrite off b => decide (off < 0x10000) && decide (b.length ≤ 255)
  | .authenticate p q n _ => decide (p < 256 ∧ q < 256) && decide (n ≤ 255)
  | .pageOperationBegin dt _ => decide (dt < 1000)
  | .readerPoll _ l _ _ => l.all fun c => decide (4 ≤ c.uid.length ∧ c.uid.length ≤ 10)
  | .fetchComplete _ _ _ b => decide (b.data.length ≤ 0x10000)
  | .baleStored _ b => decide (b.data.length ≤ 0x10000)
  | .relayMessage _ b => decide (b.length ≤ 1084)
  | .frameReceived _ f => decide (f.dst < 2 ^ 48) && decide (f.src < 2 ^ 48) && decide (f.len ≤ 1522)
  | .zeroCrossing _ dt => decide (dt < 1000)
  | .linkFrameReceived _ f dt _ => decide (f.length ≤ 1104) && decide (dt < 1000)
  | .linkAck _ q _ => decide (q < 256)
  | .powerOn _ l => l.all fun k => decide (k < 256)
  | .blockSelfRestart c => decide (c < 18)
  | .hostLinkUp g l => decide (1 ≤ g ∧ g ≤ 3) && decide (l = 1 ∨ l = 2)
  | .restartComplete c => decide (c < 18)
  | .addressAgeOut a => decide (a < 2 ^ 48)
  | .getChallenge p q le => decide (p < 256 ∧ q < 256) && decide (le ≤ 256)
  | .fieldLogout p q n => decide (p < 256 ∧ q < 256) && decide (n ≤ 255)
  | .commandCycleBoundary .. | .take .. | .release_ .. | .clearSet .. | .snapshotExpired .. | .login .. | .logout ..
  | .roleSessionExpiry .. | .loginBlockEnd .. | .deviceReset .. | .partitionReset .. | .stepTo .. | .stepBy .. | .slewBy ..
  | .setRate .. | .setUtc .. | .timModeWrite .. | .servoUpdate | .announceTimeout | .announceEvaluation | .peakClose ..
  | .overcurrentDecision .. | .inputStuck .. | .stuckCleared .. | .manchesterLock .. | .lockLost .. | .mclkFault ..
  | .mclkFaultClear .. | .qualificationComplete .. | .inputReadmit .. | .inputTakeOut .. | .settlementEnd ..
  | .analysisWindowEnd .. | .saveComplete .. | .saveNow .. | .sealOpen .. | .sealClose .. | .balanceFrameReceived ..
  | .balancePeriodEnd .. | .setLimit .. | .releasePause .. | .halfCycleEnd .. | .pqInvalidTimeout .. | .pilotClassAccepted ..
  | .pilotInvalidTimeout .. | .diodeFault .. | .ppCodeAccepted .. | .ppTimeout .. | .overdraw .. | .pilotBWithdraw ..
  | .pilotDutyApply .. | .stallEnable .. | .stallOn .. | .stallLimit .. | .stallPause .. | .stallOff .. | .stallTakeOut ..
  | .stallReturn .. | .idleProof .. | .safeCauseCleared .. | .insSwToggle .. | .cableCheckStarted .. | .cableCheckEnded ..
  | .powerDeliveryStarted .. | .slacTimeout .. | .sdpRequest .. | .sdpTimeout .. | .authDeadline .. | .stopGraceExpiry ..
  | .tcpTimeout .. | .sequenceTimeout .. | .modemFrontEndFault .. | .engineReload .. | .supervisionSignal .. | .takeover ..
  | .drvOn .. | .drvOff .. | .reenable .. | .currentMeasurement .. | .shortCircuit .. | .openLoad .. | .fuseModelUpdate ..
  | .thermalShutdown .. | .retry .. | .retriesRestore .. | .clampEvent .. | .clampHotEnd .. | .pullInEnd .. | .vauxCondition ..
  | .vauxConditionRelease .. | .bankShed .. | .gndLoss .. | .gndRestored .. | .tripInChange .. | .tripFilterExpiry ..
  | .chatter .. | .chatterEnd .. | .tripOutHoldEnd .. | .channelExchange .. | .channelLoss .. | .residualCurrentTrip ..
  | .closeRequest .. | .openRequest .. | .fbChange .. | .fbCloseTimeout .. | .fbOpenTimeout .. | .driveFault .. | .darkPulseDue ..
  | .darkPulseRetry .. | .darkPulseEnd .. | .proofTest .. | .proofOverdue .. | .safetySetActivate .. | .discard .. | .ackTrip ..
  | .proofNow .. | .releaseOut .. | .safetyLinkTransmit .. | .safetyLinkCopy .. | .pairTimeout .. | .popStallEnd .. | .flush ..
  | .maxReset .. | .queueEnable .. | .irqAgeExpiry .. | .jnlAckWrite .. | .scrubPass .. | .ringRebuilt .. | .gleaningEnd ..
  | .vinLow .. | .demandIntervalEnd .. | .sessionClose .. | .recordRelease .. | .signReading .. | .dropPending ..
  | .demandReset .. | .keyOperationComplete .. | .import_ .. | .generate .. | .invalidate .. | .erase .. | .exportPublic ..
  | .exportCsr .. | .zeroise .. | .recommission .. | .vbatLow .. | .fieldEntry .. | .harvestSwitch .. | .sWtx .. | .readPage ..
  | .writePage .. | .pageOperationTimeout .. | .cardAuth .. | .offer .. | .fetch .. | .pieceFrame .. | .withdraw ..
  | .verifyComplete .. | .updActivate .. | .activationComplete .. | .deferredConfigApply .. | .confirm .. | .trialExpiry ..
  | .revert .. | .trialFailure .. | .mirroringComplete .. | .offerExpiry .. | .relayOfferRepeat .. | .portLinkUp ..
  | .portLinkDown .. | .portQualified .. | .portEnable .. | .portReadmit .. | .portTakeOut .. | .flushTable .. | .zxLost ..
  | .beaconDue .. | .beaconAbandoned .. | .backoffEnd .. | .noiseTimeout .. | .driverOff .. | .driverRetry .. | .portRestart ..
  | .clearTable .. | .partitionRestartStage .. | .readmitPartition .. | .railOut .. | .brownOut .. | .blockRestart ..
  | .railRecovered .. | .vinHigh .. | .pilotFrontEndFault .. | .frontEndHealthy .. | .syncTransmit .. | .antennaRetry ..
  | .norFault .. | .neighbourAgeOut .. | .announceTransmit .. | .hostLinkDown | .slewEnd | .leapSecond | .validLeftExpiry
  | .ppsInMissing | .rateSave | .rtcWrite | .metPublication | .periodicSave | .metCoreLockstep | .coreRestored | .balanceTick
  | .allocationInstant | .grantCommit | .hardPauseResume | .fastPathDownTimeout | .disagree | .feedLost | .stagingDrain
  | .recordsPending | .granaryUncorrectable | .granaryMismatch | .pfwAsserted .. | .preCaptureCancelled | .capture | .tariffSwitch
  | .calendarActivation | .btHoldEnd | .fieldLoss | .sDeselect | .fieldSessionTimeout | .statusRefresh | .partitionsUnavailable
  | .refclkLost | .refclkReturn | .resetNAssert | .resetNRelease | .rtcLost => true

end Sys2Proof
end

