-- ==== Sys2Proof/Tests/Slice0.lean ====
section
/-! SUPPORT. The model's own tests: well-formedness, witnesses that the hypotheses of the statements are met, and small checks of
operations against the worked examples of the spec. -/
namespace Sys2Proof.Tests
open Sys2Proof Sys2Proof.Machine Sys2Proof.Machine.State

/- Each test is checked before the next one is read, so that their evaluations do not stand in memory together. -/
set_option Elab.async false

/-! Well-formedness: one ill-formed term a check, refused, and the whole families that need none. -/

/-- A PTP message with a domain, a transport, an instant in its cycle and the age of the request it answers. -/
def ptpAt (domain transport dt request : Nat) : PtpMsg := ⟨.sync, domain, transport, false, dt, request, 0, 0, 0, 0, 0, 0, 0, 0, 0⟩

/-- Ill-formed commands, one for each check of the first half of the table. -/
theorem test_ill_formed_refused : ([
    .registerWrite .host 0x4000000 8 0 0, .registerWrite .mgmt 0 0 0 0, .registerWrite .mgmt 0 257 0 0, .tokenWrite .host 4 0 0,
    .tokenWrite .host 0x4000000 0 0, .pageEvtForce .host 0x2000 0 0, .pageReadStall .host 0x4000000 8 0, .pageReadStall .host 0 0 0,
    .pageReadStall .host 0 257 0, .pageReadStall .host 0 8 1000, .mgmtReadFrame (List.replicate 73 0) 0 false,
    .mgmtReadFrame [] 1000 false, .mgmtWriteFrame (List.replicate 73 0) false, .timNowCapture .host 1000,
    .ptpMessageReceived 0 (ptpAt 256 0 0 0), .ptpMessageReceived 0 (ptpAt 0 3 0 0), .ptpMessageReceived 0 (ptpAt 0 0 1000 0),
    .ptpMessageReceived 0 (ptpAt 0 0 3 0), .ptpMessageReceived 0 (ptpAt 0 0 0 3), .transparentClockForward 5 0 (ptpAt 0 0 0 0) 0,
    .transparentClockForward 0 5 (ptpAt 0 0 0 0) 0, .transparentClockForward 1 1 (ptpAt 0 0 0 0) 0,
    .transparentClockForward 0 1 (ptpAt 256 0 0 0) 0, .ppsInEdge 1000 true, .ppsOutPulse 1000 true] : List Instr).all
      (fun i => !i.wellFormed) = true := by
  decide +kernel

/-- Ill-formed commands, one for each check of the metering, vehicle and safety rows. -/
theorem test_more_ill_formed_refused : ([
    .mainSample 0 0 1000 [], .mainSample 0 0 0 [⟨5, 0⟩, ⟨5, 0⟩], .mainSample 0 0 0 [⟨256, 0⟩], .fastSample 0 0 1000 0,
    .sealedWrite .host 0x400004 0 0, .sealedWrite .host 0x500000 0 0, .cmSlacParamReq 0 (2 ^ 64) 0, .cmSlacParamReq 0 0 256,
    .cmSlacMatchReq 0 (2 ^ 64) 0, .cmSlacMatchReq 0 0 (2 ^ 48), .supportedAppProtocolReq 0 [],
    .supportedAppProtocolReq 0 (List.replicate 21 (0, 0)), .tlsRecordReceived 0 ⟨true, 2 ^ 16, false, []⟩,
    .v2gRequest 0 ⟨.other, 0, 0, true, true, 0, 0, 0, 0, 0, 101, 0⟩, .v2gRequest 0 ⟨.other, 0, 0, true, true, 0, 0, 0, 0, 0, 0, 2 ^ 320⟩,
    .partitionResponse .a 0 ⟨256, 0, 0⟩, .partitionResponse .a 0 ⟨0, 0, 2 ^ 64⟩, .certVerifyComplete 0 ⟨true, 1, none, true, true, []⟩,
    .partitionFailure .a 0, .partitionFailure .a 4, .safetyFeedRecord (2 ^ 32), .safetyRelease (some 32),
    .safetyLinkWatchdog 0 (some 2)] : List Instr).all (fun i => !i.wellFormed) = true := by
  decide +kernel

/-- Ill-formed commands, one for each check of the other rows. -/
theorem test_last_ill_formed_refused : ([
    .push 0 [], .push 0 (List.replicate 257 0), .pushEnd 0 (List.replicate 257 0), .pop 0 0, .pop 0 17,
    .recordSubmit ⟨256, 0, 0, 0, 0, 1, 0⟩, .recordSubmit ⟨0, 16, 0, 0, 0, 1, 0⟩, .recordSubmit ⟨0, 0, 0, 0, 0, 17, 0⟩,
    .journalWindowRead .host 0x1000000 8, .journalWindowRead .host 0 257, .supplyLossCommit 65536, .bilBtCapture .host 1000,
    .keyOperation ⟨0, 6, 0, .sign⟩, .keyOperation ⟨0, 1, 2 ^ 32, .sign⟩, .keyOperation ⟨0, 1, 0, .derive [] [] 8 0⟩, .tamperEvent 16, .select 256 0 0 0 [],
    .select 0 0 0 0 (List.replicate 256 0), .fieldRead 0x10000 1, .fieldRead 0 257, .fieldWrite 0x10000 [],
    .fieldWrite 0 (List.replicate 256 0), .getChallenge 256 0 0, .getChallenge 0 0 257, .authenticate 256 0 0 true,
    .authenticate 0 0 256 true, .fieldLogout 0 256 0, .fieldLogout 0 0 256, .pageOperationBegin 1000 true,
    .readerPoll 0 [⟨false, [1, 2, 3], true⟩] 0 false, .fetchComplete 0 0 true ⟨0, 0, List.replicate 65537 0⟩,
    .baleStored 0 ⟨0, 0, List.replicate 65537 0⟩, .relayMessage 0 (List.replicate 1085 0),
    .frameReceived 0 ⟨2 ^ 48, 0, none, 0, 64, true, none⟩, .frameReceived 0 ⟨0, 2 ^ 48, none, 0, 64, true, none⟩,
    .frameReceived 0 ⟨0, 0, none, 0, 1523, true, none⟩, .zeroCrossing 0 1000, .linkFrameReceived 0 (List.replicate 1105 0) 0 0,
    .linkFrameReceived 0 [] 1000 0, .linkAck 0 256 true, .powerOn none [256], .blockSelfRestart 18, .hostLinkUp 0 1, .hostLinkUp 1 3,
    .restartComplete 18, .addressAgeOut (2 ^ 48)] : List Instr).all (fun i => !i.wellFormed) = true := by
  decide +kernel

theorem test_well_formed_taken : ([.tokenWrite .host 0x6050C0 0xFFFF 7, .pageReadStall .host 4 4 999, .ppsInEdge 999 true,
    .fastSample 255 7 999 0, .push 0 [1], .pop 0 16, .hostLinkUp 3 2, .metPublication, .safetyFeedRecord 7] : List Instr).all
      Instr.wellFormed = true := by decide

/-- No row of the table has bits: no word spells a command. -/
theorem test_no_word_spells_a_command : decodeTableWord 48 0 = none ∧ State.reset.withFetchWord 48 0 = State.reset := ⟨rfl, rfl⟩

/-! Witnesses for the commands and the writes: a lone command of a master whose role allows it. -/

/-- A served module after reset, its granary recovered and both partitions serving; master `m` holds `role`. -/
def ready (m : Master) (role : Nat) : State :=
  let r := match m with | .host => Reg.sysMstRoleH | .mgmt => Reg.sysMstRoleM
  (((State.reset.wr Reg.jnlStat 0).wr Reg.jnlFree 4096).wr Reg.fltPart 0).wr r role

/-- The same, with a token written for the command group at `a`. -/
def armed (m : Master) (role a : Nat) : State := ((ready m role).wrB m (a - 8) 5).setV .tokenFresh (bankKey m (a - 8)) 1

/-- Whether a lone write is taken. -/
def takes (w : Write) (s : State) : Bool :=
  let o := opened w s
  decide (s.v .powerOff = 0) && decide (s.v .gleaning = 0) && decide (o.cycle = [w]) && !w.frame && decide (w.width = 8)
    && !isParam (targetOf w.addr) && (bankedTakes w (targetOf w.addr) (checked w o)).isNone
    && decide (checkStatus w ⟨{ o with cycle := [] }, [], [], [], []⟩ = 0)
    && decide (State.answer (lone w o) 0 (through stlRun 0 (lone w o).turn (checked w o)) = 0x01)

theorem accepts_of_takes {w : Write} {s : State} (h : takes w s = true) : s.accepts w := by
  simp only [takes, Bool.and_eq_true, decide_eq_true_eq, Bool.not_eq_true'] at h
  exact ⟨⟨h.1.1.1.1.1.1.1.1, h.1.1.1.1.1.1.1.2⟩, ⟨h.1.1.1.1.1.1.2, ⟨h.1.1.1.1.1.2, h.1.1.1.1.2⟩, h.1.1.1.2, h.1.1.2, h.1.2, h.2⟩⟩

/-- A command of a master in a role, in the ready state changed by `f`. -/
def cmdCase (m : Master) (role a code : Nat) (arg : BitVec 40) (f : State → State := id) (ok := false) : Write × State :=
  (cmdWrite m a 0xFFFF code arg ok, f (armed m role a))

/-- A write of a master in a role, in the ready state changed by `f`. -/
def wrCase (m : Master) (role a v : Nat) (f : State → State := id) (ok := false) : Write × State :=
  (slotWrite m a 0xFFFF v ok, f (ready m role))

/-- A stall's mode is set. -/
def inMode (n md : Nat) (s : State) : State := s.wrf (Reg.stlMode n) 0 4 md

/-- An offer stands in a state, from a source. -/
def offerState (k st src : Nat) (s : State) : State := s.wr (Reg.updKOffer k) (st + src * 16 + 65536)

/-- The header of a calendar bale for this part. -/
def calHead : List Byte := [0x53, 0x49, 0x4D, 0x47, 1, 6, 0, 0, 0, 0, 0, 0, 0, 0, 0, 0, 0xE0, 0x1A, 0, 0, 1, 0, 0, 0, 0, 0, 0, 0, 0, 0, 0x4D, 0x52, 0x4C, 0x33, 0x32, 0x20, 0x43]

/-- States in which the register page commands are taken. -/
def registerPageCases : List (Write × State) := [
    (wrCase .host 1 Reg.sysSnapCtl 1),
    (wrCase .host 1 Reg.sysSnapCtl 2),
    (wrCase .host 1 Reg.sysSnapCtl 4),
    (wrCase .mgmt 0 Reg.sysAuthReq (3 + 256) id true),
    (wrCase .host 1 Reg.sysAuthReq 512),
    (cmdCase .mgmt 3 Reg.sysCmd 1 0),
    (cmdCase .mgmt 3 Reg.sysCmd 2 0)]

theorem test_register_page_commands_are_accepted : ∀ x ∈ registerPageCases, x.2.accepts x.1 :=
  fun x h => accepts_of_takes (List.all_eq_true.mp (by decide +kernel : registerPageCases.all (fun x => takes x.1 x.2) = true) x h)

/-- States in which the time commands are taken. -/
def timeCases : List (Write × State) := [
    (cmdCase .host 2 Reg.timCmd 1 0),
    (cmdCase .host 2 Reg.timCmd 2 0),
    (cmdCase .host 2 Reg.timCmd 3 0),
    (cmdCase .host 2 Reg.timCmd 4 0),
    (cmdCase .host 2 Reg.timCmd 5 36),
    (wrCase .mgmt 3 Reg.timMode 0x006403E80000)]

theorem test_time_commands_are_accepted : ∀ x ∈ timeCases, x.2.accepts x.1 :=
  fun x h => accepts_of_takes (List.all_eq_true.mp (by decide +kernel : timeCases.all (fun x => takes x.1 x.2) = true) x h)

/-- States in which the meter commands are taken. -/
def meterCases : List (Write × State) := [
    (cmdCase .host 3 Reg.metWinCmd 1 0),
    (cmdCase .host 3 Reg.metWinCmd 2 0),
    (wrCase .host 4 (Reg.metMclk 0) 9 (fun s => s.wr Reg.metSealStat 1)),
    (cmdCase .host 4 Reg.metCtlCmd 1 0),
    (cmdCase .host 4 Reg.metCtlCmd 2 0),
    (cmdCase .host 4 Reg.metCtlCmd 3 0),
    (cmdCase .host 1 Reg.alcCmd 1 100),
    (cmdCase .host 1 Reg.alcCmd 2 0)]

theorem test_meter_commands_are_accepted : ∀ x ∈ meterCases, x.2.accepts x.1 :=
  fun x h => accepts_of_takes (List.all_eq_true.mp (by decide +kernel : meterCases.all (fun x => takes x.1 x.2) = true) x h)

/-- States in which the stall commands are taken. -/
def stallCases : List (Write × State) := [
    (cmdCase .host 1 (Reg.stlCmd 5) 1 0 (inMode 5 2)),
    (cmdCase .host 1 (Reg.stlCmd 5) 2 0 (inMode 5 4)),
    (cmdCase .host 1 (Reg.stlCmd 5) 3 0 (inMode 5 4)),
    (cmdCase .host 1 (Reg.stlCmd 5) 4 0 (inMode 5 4)),
    (cmdCase .host 2 (Reg.stlCmd 5) 5 0 (inMode 5 1)),
    (cmdCase .host 2 (Reg.stlCmd 5) 6 0 (inMode 5 9)),
    (wrCase .host 2 (Reg.stlCfg 5) 0x00050A321E19)]

theorem test_stall_commands_are_accepted : ∀ x ∈ stallCases, x.2.accepts x.1 :=
  fun x h => accepts_of_takes (List.all_eq_true.mp (by decide +kernel : stallCases.all (fun x => takes x.1 x.2) = true) x h)

/-- States in which the drive and safety commands are taken. -/
def driveAndSafetyCases : List (Write × State) := [
    (cmdCase .host 1 (Reg.drvCmd 3) 1 4 (fun s => s.wrf (Reg.drvOutCfg 28) 2 1 1)),
    (cmdCase .host 1 (Reg.drvCmd 3) 2 4 (fun s => s.wrf (Reg.drvOutCfg 28) 2 1 1)),
    (cmdCase .host 1 (Reg.drvCmd 3) 3 4),
    (cmdCase .mgmt 5 Reg.safCmd 1 0),
    (cmdCase .mgmt 5 Reg.safCmd 2 0),
    (cmdCase .mgmt 5 Reg.safCmd 3 0),
    (cmdCase .mgmt 5 Reg.safCmd 4 0 (inMode 0 1)),
    (cmdCase .mgmt 5 Reg.safCmd 5 0)]

theorem test_drive_and_safety_commands_are_accepted : ∀ x ∈ driveAndSafetyCases, x.2.accepts x.1 :=
  fun x h => accepts_of_takes (List.all_eq_true.mp (by decide +kernel : driveAndSafetyCases.all (fun x => takes x.1 x.2) = true) x h)

/-- States in which the queue granary and billing commands are taken. -/
def queueGranaryAndBillingCases : List (Write × State) := [
    (cmdCase .host 1 (Reg.queCmd 9) 1 0),
    (cmdCase .host 1 (Reg.queCmd 9) 2 0),
    (wrCase .host 1 (Reg.queCfg 9) 0x000140000001),
    (wrCase .host 1 Reg.jnlAck 0),
    (cmdCase .host 2 Reg.bilCmd 1 0),
    (cmdCase .host 2 Reg.bilCmd 2 7),
    (cmdCase .host 2 Reg.bilCmd 3 7)]

theorem test_queue_granary_and_billing_commands_are_accepted : ∀ x ∈ queueGranaryAndBillingCases, x.2.accepts x.1 :=
  fun x h => accepts_of_takes (List.all_eq_true.mp (by decide +kernel : queueGranaryAndBillingCases.all (fun x => takes x.1 x.2) = true) x h)

/-- States in which the key commands are taken. -/
def keyCases : List (Write × State) := [
    (cmdCase .mgmt 6 Reg.keyCmd 1 0 (fun s => (s.wr Reg.keyState 1).wrB .mgmt (Reg.keyStgData 0) 0x034059454B53 |>.wrB .mgmt Reg.keyStgCtl 181) true),
    (cmdCase .mgmt 6 Reg.keyCmd 2 0x340 (fun s => s.wr Reg.keyState 1)),
    (cmdCase .mgmt 6 Reg.keyCmd 3 0x200000 (fun s => s.wr (Reg.keySlot 0x20) 3)),
    (cmdCase .mgmt 6 Reg.keyCmd 4 0x20),
    (cmdCase .mgmt 6 Reg.keyCmd 5 0x200000 (fun s => s.wr (Reg.keySlot 0x20) 3)),
    (cmdCase .mgmt 6 Reg.keyCmd 6 7 (fun s => s.wr Reg.keyState 1)),
    (cmdCase .mgmt 6 Reg.keyCmd 7 0),
    (cmdCase .mgmt 6 Reg.keyCmd 8 0 (fun s => s.wr Reg.keyState 2))]

theorem test_key_commands_are_accepted : ∀ x ∈ keyCases, x.2.accepts x.1 :=
  fun x h => accepts_of_takes (List.all_eq_true.mp (by decide +kernel : keyCases.all (fun x => takes x.1 x.2) = true) x h)

/-- States in which the field and update commands are taken. -/
def fieldAndUpdateCases : List (Write × State) := [
    (cmdCase .host 1 Reg.ctlCmd 1 16),
    (cmdCase .host 1 Reg.ctlCmd 2 16),
    (cmdCase .mgmt 3 Reg.updCmd 1 0x11 ),
    (cmdCase .host 3 Reg.updCmd 2 1 (offerState 1 1 2)),
    (cmdCase .mgmt 3 Reg.updCmd 3 1 (offerState 1 1 1)),
    (cmdCase .mgmt 2 Reg.updCmd 4 6 (fun s => { offerState 6 3 1 s with bales := [⟨6, 0, 0, calHead⟩] }) true),
    (cmdCase .mgmt 3 Reg.updCmd 5 1 (offerState 1 5 1)),
    (cmdCase .mgmt 3 Reg.updCmd 6 1 (offerState 1 5 1))]

theorem test_field_and_update_commands_are_accepted : ∀ x ∈ fieldAndUpdateCases, x.2.accepts x.1 :=
  fun x h => accepts_of_takes (List.all_eq_true.mp (by decide +kernel : fieldAndUpdateCases.all (fun x => takes x.1 x.2) = true) x h)

/-- States in which the port and service commands are taken. -/
def portAndServiceCases : List (Write × State) := [
    (cmdCase .mgmt 3 Reg.netCmd 1 2),
    (cmdCase .mgmt 3 Reg.netCmd 2 2),
    (cmdCase .mgmt 3 Reg.netCmd 3 0),
    (wrCase .mgmt 3 (Reg.netPCfg 2) 0x001003E81F01),
    (cmdCase .mgmt 3 Reg.mlkCmd 1 0),
    (cmdCase .mgmt 3 Reg.mlkCmd 2 0),
    (cmdCase .mgmt 3 Reg.fltCmd 1 0),
    (cmdCase .mgmt 3 Reg.pwrCmd 1 0xB)]

theorem test_port_and_service_commands_are_accepted : ∀ x ∈ portAndServiceCases, x.2.accepts x.1 :=
  fun x h => accepts_of_takes (List.all_eq_true.mp (by decide +kernel : portAndServiceCases.all (fun x => takes x.1 x.2) = true) x h)

/-! Witnesses for the other hypotheses. -/

theorem test_reset_settles : State.reset.settles := ⟨by decide +kernel, by decide +kernel⟩

theorem test_reset_supplied : State.reset.supplied := test_reset_settles.1

theorem test_reset_blocks_run : ∀ k ∈ [4, 5, 6, 8, 14, 15, 16], State.reset.runs k :=
  fun k h => ⟨test_reset_settles.1, by revert k; decide +kernel⟩

theorem test_reset_sessions_run : State.reset.sessionsRun := ⟨test_reset_settles, by decide +kernel⟩

theorem test_reset_serving : State.reset.serving := ⟨test_reset_settles, by decide +kernel⟩

theorem test_reset_mains_link_runs : State.reset.linkIdle = false := by decide +kernel

/-- A stall in DISABLED, in OUT_OF_SERVICE and in SAFE. -/
theorem test_pilot_cases : State.reset.mode 3 = 0 ∧ (inMode 3 9 State.reset).mode 3 = 9 ∧ (inMode 3 8 State.reset).mode 3 = 8 := by
  decide +kernel

/-- A state with a command waiting. -/
def waits : State := { State.reset with pending := [.rtcWrite, .capture] }

theorem test_a_command_waits : waits.pending = .rtcWrite :: [.capture] ∧ State.reset.pending = [] := ⟨rfl, rfl⟩

theorem test_good_state_steps : waits.canonical = true ∧ waits.even = true ∧ ∃ t, Machine.step waits = .next t :=
  ⟨by decide +kernel, by decide +kernel, _, rfl⟩

/-- A metering point with an amount to settle, into import, export and neither. -/
theorem test_settled_cases :
    let p := State.reset.mp 0
    p.acc.length = 23 ∧ (p.settle 5).acc.getD 0 0 = 5 ∧ (p.settle 5).acc.getD 2 0 = 5 ∧ (p.settle (-5)).acc.getD 1 0 = 5 ∧
      (p.settle (-5)).acc.getD 10 0 = 5 ∧ (p.settle 5).acc.getD 3 0 = 0 ∧ (p.settle 0).acc.getD 0 0 = 0 := by decide +kernel

theorem test_no_supply : (State.reset.setV .powerOff 0 1).v .powerOff = 1 ∧ (State.reset.setV .gleaning 0 1).v .gleaning = 1 := by
  decide +kernel

/-- A write and a state whose cycle holds it alone. -/
def failing (w : Write) (s : State) : State := { s with cycle := [w] }

/-- The outcome of the checks of a lone write. -/
def outcomeOf (w : Write) (s : State) : Nat := checkStatus w ⟨{ opening 0 (failing w s) with cycle := [] }, [], [], [], []⟩

/-- A DENIED write, a command without a fresh token, a DUPLICATE and a narrow write, each alone in its cycle at a boundary that settles. -/
theorem test_failing_writes :
    (let w := slotWrite .host Reg.timMode 0xFFFF 0 false
     (failing w (ready .host 0)).v .powerOff = 0 ∧ (failing w (ready .host 0)).v .gleaning = 0 ∧
       (opening 0 (failing w (ready .host 0))).cycle = [w] ∧ outcomeOf w (ready .host 0) = 0x12) ∧
    (let w := cmdWrite .host (Reg.stlCmd 5) 0xFFFF 3 0 false
     (opening 0 (failing w (ready .host 1))).cycle = [w] ∧ outcomeOf w (ready .host 1) = 0x13) ∧
    (let w := cmdWrite .host (Reg.stlCmd 5) 0xFFFF 3 0 false
     let s := { armed .host 1 (Reg.stlCmd 5) with tokH := [(5, 77)] }
     (opening 0 (failing w s)).cycle = [w] ∧ outcomeOf w s = 0x02) ∧
    (let w : Write := { slotWrite .host (Reg.stlCmd 5) 0xFFFF 0 false with width := 4, low := 4 }
     (opening 0 (failing w (ready .host 1))).cycle = [w] ∧ outcomeOf w (ready .host 1) = 0x19) := by decide +kernel

/-- An outcome of a command group at each end of BAR0, and copies that stay. -/
theorem test_outcome_cases : (Reg.stlCmd 5 + 16 < bankSpan ∧ 0x01 < 256) ∧ (bankSpan - 17 + 16 < bankSpan ∧ 0 < 256) ∧
    ¬ (Master.mgmt = .host ∧ (Reg.stlCmd 5 + 8 = Reg.stlCmd 5 + 8 ∨ Reg.stlCmd 5 + 8 = Reg.stlCmd 5 + 16)) := by decide

/-- A shared slot, and the three cases of two commands on it: equal, of lower and of higher energy order. -/
theorem test_arbitration_cases : isShared (Reg.stlCmd 5) = true ∧
    energyOrder (Reg.stlCmd 5) (codeOf (2 * 2 ^ 40)) < energyOrder (Reg.stlCmd 5) (codeOf (3 * 2 ^ 40)) ∧
    ¬ energyOrder (Reg.stlCmd 5) (codeOf (3 * 2 ^ 40)) < energyOrder (Reg.stlCmd 5) (codeOf (2 * 2 ^ 40)) := by decide +kernel

/-- A full memory, one with a place free, and a token that is not remembered. -/
theorem test_token_memories : ({ State.reset with tokH := List.replicate 65536 (1, 1) }.tokens .host).length = 65536 ∧
    (State.reset.tokens .host).length < 65536 ∧ Master.mgmt ≠ .host ∧ State.reset.tokenSeq .host 7 = none :=
  ⟨List.length_replicate, by decide, by decide, by decide +kernel⟩

/-- A change of rate from 0 to 12.5 ppm, slewing by -1 000, at one hour; and the ends of the base rate. -/
theorem test_rate_change_cases : (∀ x ∈ State.reset.clockSets, x.until_ ≤ 0) ∧ (-2 ^ 47 : Int) ≤ 3518437209 ∧ (3518437209 : Int) < 2 ^ 47 ∧ (-2 ^ 47 : Int) ≤ -2 ^ 47 ∧
    (-2 ^ 95 : Int) ≤ State.reset.offset + 3600000000000 * State.reset.rate / 2 ^ 32 - 3600000000000 * (3518437209 + -1000) / 2 ^ 32 ∧
    State.reset.offset + 3600000000000 * State.reset.rate / 2 ^ 32 - 3600000000000 * (3518437209 + -1000) / 2 ^ 32 < 2 ^ 95 := by
  decide +kernel

/-- An epoch at the value before the one left out, and at its largest. -/
theorem test_epoch_cases : epochPlus 0xFFFE 1 = 0x10000 ∧ epochPlus 0xFFFD 1 = 0xFFFE ∧ epochPlus (2 ^ 48 - 2) 1 = 0 := by decide

theorem test_record_number_fits : State.reset.rd Reg.jnlHead + 1 < 2 ^ 48 := by decide +kernel

/-- Each clause of a waiting write: its first and last address and width, and each kind of address left out. -/
theorem test_write_cases :
    (0x3FFFFF8 + 8 ≤ 2 ^ 26 ∧ 0x3FFFFF8 / 0x1000 = (0x3FFFFF8 + 8 - 1) / 0x1000) ∧
    (inWindow 0x6050C8 = false ∧ inPorts 0x6050C8 = false ∧ isMsixTable 0x6050C8 = false ∧ isMsixPba 0x6050C8 = false) ∧
    (0x605000 / 0x1000 = (0x605000 + 64 - 1) / 0x1000 ∧ (0x605FF8 : Nat) / 0x1000 ≠ (0x605FF8 + 16 - 1) / 0x1000) ∧
    (2 ^ 26 < 0x3FFFFF8 + 16) ∧ (inWindow 0x3000000 = true ∧ inPorts 0x2000000 = true) ∧
    (isMsixTable 0x8000 = true ∧ isMsixTable 0x841C = true ∧ isMsixTable 0x8420 = false ∧ isMsixPba 0x9000 = true ∧
      isMsixTable 0x9000 = false ∧ isMsixTable 0x3000000 = false ∧ isMsixPba 0x3000000 = false) := by decide +kernel

/-- A stall that is not tripped and one that is, and a contactor output of a mapped stall. -/
theorem test_trip_cases :
    let mapped : State := { State.reset with safeSet := [(Reg.safStMap 5, 0x004A#48)] }
    State.reset.tripped 5 = false ∧ (tripRaw 5 7 9 0x25 State.reset).tripped 5 = true ∧ mapped.outsOf 5 = [10] := by decide +kernel

/-- 06_hub_balance_and_limits.md: class 2 of the worked example of R167, stalls 10 and 11 with 120 000 W left. -/
theorem test_allocation_example :
    let s (w : Nat) : AlcStall := ⟨2, w, 10000, 150000, 150000, true, false⟩
    let i : AlcIn := ⟨0, 0, 0, 0, List.replicate 10 ⟨0, 1, 0, 0, 0, false, true⟩ ++ [s 1, s 2]⟩
    i.want 10 = 150000 ∧ (alcGrants i 120000).1.getD 10 0 = 40000 ∧ (alcGrants i 120000).1.getD 11 0 = 80000 := by decide +kernel

/-- The premise of the headroom: classes 0 to 7, the last one included. -/
theorem test_headroom_case : ∀ t : Nat, ((⟨0, 0, 0, 0, [⟨7, 1, 0, 0, 0, true, false⟩]⟩ : AlcIn).stall t).cls ≤ 7
  | 0 => by decide
  | t + 1 => by simp [AlcIn.stall]

/-- The steps that the frame statements are about. -/
theorem test_frame_cases : (∃ t, exec .rtcWrite State.reset = .next t) ∧ (∃ t, exec (.tcpTimeout 3 2) State.reset = .next t) ∧
    Reg.stlPilot 3 ∉ [Reg.stlIns 3] := ⟨⟨_, rfl⟩, ⟨_, rfl⟩, by decide⟩

/-! Operations against the worked examples of the spec. -/

/-- 03_time_base.md: TIM_NOW of the worked example after R72. -/
theorem test_time_example :
    let t := convert ((1767225600 * 10 ^ 9 + 123456789) * 2 ^ 16) 3518437209 3600000000000
    secsOf t = 0x6955C710 ∧ nsOf t = 168456789 ∧ fracOf t = 97 := by decide +kernel

/-- 04_sensor_inputs.md: the calibrated sample of the worked example after R108. -/
theorem test_calibration_example :
    let s := State.reset.wr (Reg.metInGain 20) 0x3FE3A595 |>.wr (Reg.metInOfs 20) 0xFFFA10
    s.calibrate 20 6721000 = (6710886, false) := by decide +kernel

/-- 08_stalls_and_pilot.md: the duties of the worked example of the pilot (R207), and the ends of the ranges. -/
theorem test_duty_example : offerDuty 202 = 336 ∧ offerDuty 320 = 533 ∧ offerDuty 43 = 1000 ∧ offerDuty 59 = 1000 ∧ offerDuty 60 = 100 ∧
    offerDuty 510 = 850 ∧ offerDuty 511 = 844 ∧ offerDuty 800 = 960 := by decide

/-- 08_stalls_and_pilot.md: 220 ohms is code 3 with a cable of 32 A, and 9 V is state B. -/
theorem test_proximity_example : ppCode 220 = 3 ∧ cableAmps (ppCode 220) = 32 ∧ pilotClass 900 = 1 ∧ pilotClass 600 = 2 := by decide

/-- 13_granary_journal.md: the header of the record of the worked example of R345. -/
theorem test_record_example :
    let r : Record := { seq := 0x419C07, cls := 1, code := 3, counter := 0, tSec := 0, tNs := 0, source := 6, flags := 0, inst := 5, actor := 0x12,
                        parts := 0, payload := 0xC44, prev := 0, check := 0 }
    r.bytes.take 8 = [0x07, 0x9C, 0x41, 0, 0, 0, 0x03, 0x10] ∧ (r.bytes.drop 26).take 6 = [6, 0, 5, 0, 0x12, 0] := by decide +kernel

/-- 02_register_pages.md: two commands in one cycle; PAUSE beats LIMIT. -/
theorem test_arbitration_example :
    let limit : Cand := ⟨[(.host, 0x7A01, 0)], Reg.stlCmd 5, 2 * 2 ^ 40, 0xFFFF, false, true⟩
    let pause : Cand := ⟨[(.mgmt, 0xC44, 1)], Reg.stlCmd 5, 3 * 2 ^ 40, 0xFFFF, false, true⟩
    Reg.stlCmd 5 = 0x6050C8 ∧ arbitrate [limit, pause] = ([pause], [limit]) := by decide +kernel

/-- 08_stalls_and_pilot.md: the pilot and proximity tables at their edges (R208, R212). -/
theorem test_pilot_edges : pilotClass 1050 = 0 ∧ pilotClass 1049 = 1 ∧ pilotClass 150 = 3 ∧ pilotClass 149 = 4 ∧ pilotClass (-150) = 4 ∧
    pilotClass (-151) = 6 ∧ ppCode 49 = 6 ∧ ppCode 50 = 4 ∧ ppCode 2700 = 5 ∧ ppCode 4500 = 0 := by decide

/-- SHA-384 of the empty message (FIPS 180-4, log entry 11). -/
theorem test_sha384_empty : (Sha.sha384 []).take 4 = [0x38, 0xB0, 0x60, 0xA7] := by decide +kernel

end Sys2Proof.Tests
end

section
/-! What every row of the table keeps, and what a step is: the invariants of Laws/KeepsBase.lean carried from the effects to the rows. -/
namespace Sys2Proof.Machine
open State

/-- Every row answers a next state, and that state keeps what Laws/KeepsBase.lean names: the rows that are one command or one write end
in a boundary, the others are one effect under the guard of their block. -/
theorem exec_keeps (i : Instr) (s : State) : ∃ t, exec i s = .next t ∧ Keeps s t := by
  cases i with
  | deviceReset | partitionReset | stepTo | stepBy | slewBy | setRate | setUtc | inputReadmit | inputTakeOut | saveNow |
  sealOpen | sealClose | setLimit | releasePause | stallOn | stallLimit | stallPause | stallOff | stallTakeOut | stallReturn |
  drvOn | drvOff | reenable | safetySetActivate | discard | ackTrip | proofNow | releaseOut | flush | maxReset | signReading |
  dropPending | demandReset | import_ | generate | invalidate | erase | exportPublic | exportCsr | zeroise | recommission |
  readPage | writePage | offer | fetch | withdraw | updActivate | confirm | revert | portReadmit | portTakeOut | flushTable |
  portRestart | clearTable | readmitPartition | blockRestart => exact ⟨_, rfl, command_keeps _ _ _ _ _ _ (.refl s)⟩
  | take | release_ | clearSet | login | logout | timModeWrite | sealedWrite | stallEnable | queueEnable | jnlAckWrite |
  portEnable => exact ⟨_, rfl, writeNow_keeps _ _ _ _ _ (.refl s)⟩
  | commandCycleBoundary => exact ⟨_, rfl, boundary_keeps _ (.refl s)⟩
  | registerWrite => exact ⟨_, rfl, busWrite_keeps _ _ _ _ _ (.refl s)⟩
  | tokenWrite | pageEvtForce => exact ⟨_, rfl, post_keeps _ (.refl s)⟩
  | pageReadStall => exact ⟨_, rfl, awake_keeps (fun _ => readRequest_keeps _ _ _ _) (.refl s)⟩
  | snapshotExpired => exact ⟨_, rfl, snapExpired_keeps _ (.refl s)⟩
  | roleSessionExpiry => exact ⟨_, rfl, roleExpiry_keeps _ (.refl s)⟩
  | loginBlockEnd => exact ⟨_, rfl, loginBlockEnd_keeps _ (.refl s)⟩
  | mgmtReadFrame => exact ⟨_, rfl, frameRead_keeps _ _ _ (.refl s)⟩
  | mgmtWriteFrame => exact ⟨_, rfl, frameWrite_keeps _ _ (.refl s)⟩
  | timNowCapture => exact ⟨_, rfl, nowCapture_keeps _ _ (.refl s)⟩
  | servoUpdate => exact ⟨_, rfl, clockEvent_keeps (fun _ => servoUpdate_keeps) (.refl s)⟩
  | announceTimeout => exact ⟨_, rfl, clockEvent_keeps (fun _ => announceTimeout_keeps) (.refl s)⟩
  | ptpMessageReceived => exact ⟨_, rfl, clockEvent_keeps (fun _ h => .ite (ptpSent_keeps (ptpMessage_keeps _ _ h.upd)) h) (.refl s)⟩
  | announceEvaluation => exact ⟨_, rfl, clockEvent_keeps (fun _ h => ptpSent_keeps (announceEvaluation_keeps h.upd)) (.refl s)⟩
  | transparentClockForward => exact ⟨_, rfl, awake_keeps (fun _ h => .ite (tcForward_keeps _ _ _ _ h) h) (.refl s)⟩
  | ppsInEdge => exact ⟨_, rfl, clockEvent_keeps (fun _ => ppsIn_keeps _ _) (.refl s)⟩
  | ppsOutPulse => exact ⟨_, rfl, powered_keeps (fun _ => ppsPulse_keeps _ _) (.refl s)⟩
  | mainSample => exact ⟨_, rfl, powered_keeps (fun _ => mainSamples_keeps _ _ _ _) (.refl s)⟩
  | fastSample => exact ⟨_, rfl, powered_keeps (fun _ => fastSample_keeps _ _ _ _) (.refl s)⟩
  | peakClose => exact ⟨_, rfl, blockRuns_keeps _ (fun _ => peakClose_keeps _) (.refl s)⟩
  | overcurrentDecision => exact ⟨_, rfl, blockRuns_keeps _ (fun _ => overcurrentDecision_keeps _) (.refl s)⟩
  | inputStuck => exact ⟨_, rfl, blockRuns_keeps _ (fun _ => inputStuck_keeps _ _) (.refl s)⟩
  | stuckCleared => exact ⟨_, rfl, blockRuns_keeps _ (fun _ => stuckCleared_keeps _) (.refl s)⟩
  | manchesterLock => exact ⟨_, rfl, blockRuns_keeps _ (fun _ => manchesterLock_keeps _ _) (.refl s)⟩
  | lockLost => exact ⟨_, rfl, blockRuns_keeps _ (fun _ => lockLost_keeps _) (.refl s)⟩
  | mclkFault => exact ⟨_, rfl, blockRuns_keeps _ (fun _ => mclkFault_keeps _) (.refl s)⟩
  | mclkFaultClear => exact ⟨_, rfl, blockRuns_keeps _ (fun _ => mclkClear_keeps _) (.refl s)⟩
  | qualificationComplete => exact ⟨_, rfl, blockRuns_keeps _ (fun _ => qualificationComplete_keeps _) (.refl s)⟩
  | settlementEnd => exact ⟨_, rfl, powered_keeps (fun _ => settlementEnd_keeps _) (.refl s)⟩
  | analysisWindowEnd => exact ⟨_, rfl, powered_keeps (fun _ h => excessWindow_keeps _ (analysisEnd_keeps _ h)) (.refl s)⟩
  | saveComplete => exact ⟨_, rfl, powered_keeps (fun _ => saveComplete_keeps _) (.refl s)⟩
  | balanceFrameReceived => exact ⟨_, rfl, blockRuns_keeps _ (fun _ => balanceFrame_keeps _) (.refl s)⟩
  | balancePeriodEnd => exact ⟨_, rfl, blockRuns_keeps _ (fun _ => balancePeriodEnd_keeps _) (.refl s)⟩
  | halfCycleEnd => exact ⟨_, rfl, blockRuns_keeps _ (fun _ => halfCycleEnd_keeps _) (.refl s)⟩
  | pqInvalidTimeout => exact ⟨_, rfl, blockRuns_keeps _ (fun _ => pqInvalidTimeout_keeps _) (.refl s)⟩
  | pilotClassAccepted => exact ⟨_, rfl, blockRuns_keeps _ (fun _ => pilotAccepted_keeps _ _ _) (.refl s)⟩
  | pilotInvalidTimeout => exact ⟨_, rfl, blockRuns_keeps _ (fun _ => pilotInvalid_keeps _) (.refl s)⟩
  | diodeFault => exact ⟨_, rfl, blockRuns_keeps _ (fun _ => diodeFault_keeps _ _) (.refl s)⟩
  | ppCodeAccepted => exact ⟨_, rfl, blockRuns_keeps _ (fun _ => ppAccepted_keeps _ _) (.refl s)⟩
  | ppTimeout => exact ⟨_, rfl, blockRuns_keeps _ (fun _ => ppTimeout_keeps _) (.refl s)⟩
  | overdraw => exact ⟨_, rfl, blockRuns_keeps _ (fun _ => overdraw_keeps _) (.refl s)⟩
  | pilotBWithdraw => exact ⟨_, rfl, blockRuns_keeps _ (fun _ => pilotBWithdraw_keeps _) (.refl s)⟩
  | pilotDutyApply => exact ⟨_, rfl, blockRuns_keeps _ (fun _ => pilotDutyApply_keeps _) (.refl s)⟩
  | idleProof => exact ⟨_, rfl, blockRuns_keeps _ (fun _ h => idleProof_keeps _ _ (gleanProof_keeps _ _ h)) (.refl s)⟩
  | safeCauseCleared => exact ⟨_, rfl, blockRuns_keeps _ (fun _ => safeCauseCleared_keeps _) (.refl s)⟩
  | insSwToggle => exact ⟨_, rfl, blockRuns_keeps _ (fun _ => insToggle_keeps _) (.refl s)⟩
  | cableCheckStarted => exact ⟨_, rfl, blockRuns_keeps _ (fun _ => cableCheckStart_keeps _ _) (.refl s)⟩
  | cableCheckEnded => exact ⟨_, rfl, blockRuns_keeps _ (fun _ => cableCheckEnd_keeps _ _) (.refl s)⟩
  | powerDeliveryStarted => exact ⟨_, rfl, blockRuns_keeps _ (fun _ => powerDelivery_keeps _ _) (.refl s)⟩
  | cmSlacParamReq => exact ⟨_, rfl, engine_keeps (fun _ => slacParam_keeps _ _ _) (.refl s)⟩
  | cmSlacMatchReq => exact ⟨_, rfl, engine_keeps (fun _ => slacMatch_keeps _ _ _) (.refl s)⟩
  | slacTimeout => exact ⟨_, rfl, engine_keeps (fun _ => slacTimeout_keeps _) (.refl s)⟩
  | sdpRequest => exact ⟨_, rfl, engine_keeps (fun _ => sdpRequest_keeps _ _) (.refl s)⟩
  | sdpTimeout => exact ⟨_, rfl, engine_keeps (fun _ => sdpTimeout_keeps _) (.refl s)⟩
  | supportedAppProtocolReq => exact ⟨_, rfl, engine_keeps (fun _ => appProtocol_keeps _ _) (.refl s)⟩
  | tlsRecordReceived => exact ⟨_, rfl, engine_keeps (fun _ => tlsRecord_keeps _ _) (.refl s)⟩
  | v2gRequest => exact ⟨_, rfl, engine_keeps (fun _ => v2gRequest_keeps _ _) (.refl s)⟩
  | partitionResponse => exact ⟨_, rfl, engine_keeps (fun _ => partitionResponse_keeps _ _ _) (.refl s)⟩
  | certVerifyComplete => exact ⟨_, rfl, engine_keeps (fun _ => certVerified_keeps _ _) (.refl s)⟩
  | authDeadline => exact ⟨_, rfl, engine_keeps (fun _ => authDeadline_keeps _) (.refl s)⟩
  | stopGraceExpiry => exact ⟨_, rfl, engine_keeps (fun _ => stopGrace_keeps _) (.refl s)⟩
  | tcpTimeout => exact ⟨_, rfl, engine_keeps (fun _ => tcpTimeout_keeps _ _) (.refl s)⟩
  | sequenceTimeout => exact ⟨_, rfl, engine_keeps (fun _ => seqTimeout_keeps _) (.refl s)⟩
  | modemFrontEndFault => exact ⟨_, rfl, awake_keeps (fun _ => modemFault_keeps _) (.refl s)⟩
  | engineReload => exact ⟨_, rfl, awake_keeps (fun _ => engineReload_keeps _ _) (.refl s)⟩
  | supervisionSignal => exact ⟨_, rfl, awake_keeps (fun _ => supervision_keeps _) (.refl s)⟩
  | partitionFailure => exact ⟨_, rfl, awake_keeps (fun _ => partTrial_keeps _ _) (.refl s)⟩
  | takeover => exact ⟨_, rfl, awake_keeps (fun _ h => updNext_keeps (takeOver_keeps _ h)) (.refl s)⟩
  | currentMeasurement => exact ⟨_, rfl, blockRuns_keeps _ (fun _ => currentMeasurement_keeps _ _ _ _) (.refl s)⟩
  | shortCircuit => exact ⟨_, rfl, powered_keeps (fun _ => shortCircuit_keeps _ _) (.refl s)⟩
  | openLoad => exact ⟨_, rfl, blockRuns_keeps _ (fun _ => openLoad_keeps _) (.refl s)⟩
  | fuseModelUpdate => exact ⟨_, rfl, blockRuns_keeps _ (fun _ => fuseUpdate_keeps _) (.refl s)⟩
  | thermalShutdown => exact ⟨_, rfl, powered_keeps (fun _ => thermalShutdown_keeps _) (.refl s)⟩
  | retry => exact ⟨_, rfl, blockRuns_keeps _ (fun _ => retry_keeps _) (.refl s)⟩
  | retriesRestore => exact ⟨_, rfl, blockRuns_keeps _ (fun _ => retriesRestore_keeps _) (.refl s)⟩
  | clampEvent => exact ⟨_, rfl, powered_keeps (fun _ => clampEvent_keeps _ _ _) (.refl s)⟩
  | clampHotEnd => exact ⟨_, rfl, blockRuns_keeps _ (fun _ => clampHotEnd_keeps _) (.refl s)⟩
  | pullInEnd => exact ⟨_, rfl, blockRuns_keeps _ (fun _ => pullInEnd_keeps _) (.refl s)⟩
  | vauxCondition => exact ⟨_, rfl, powered_keeps (fun _ => vauxCondition_keeps _ _) (.refl s)⟩
  | vauxConditionRelease => exact ⟨_, rfl, powered_keeps (fun _ => vauxRelease_keeps _ _) (.refl s)⟩
  | bankShed => exact ⟨_, rfl, blockRuns_keeps _ (fun _ => bankShed_keeps _) (.refl s)⟩
  | gndLoss => exact ⟨_, rfl, powered_keeps (fun _ => gndLoss_keeps _) (.refl s)⟩
  | gndRestored => exact ⟨_, rfl, powered_keeps (fun _ => gndRestored_keeps _) (.refl s)⟩
  | tripInChange => exact ⟨_, rfl, powered_keeps (fun _ => tripInChange_keeps _ _) (.refl s)⟩
  | tripFilterExpiry => exact ⟨_, rfl, powered_keeps (fun _ => tripFilter_keeps _) (.refl s)⟩
  | chatter => exact ⟨_, rfl, powered_keeps (fun _ => chatter_keeps _) (.refl s)⟩
  | chatterEnd => exact ⟨_, rfl, powered_keeps (fun _ => chatterEnd_keeps _) (.refl s)⟩
  | tripOutHoldEnd => exact ⟨_, rfl, powered_keeps (fun _ => tripOutHoldEnd_keeps _) (.refl s)⟩
  | channelExchange => exact ⟨_, rfl, powered_keeps (fun _ => channelExchange_keeps _) (.refl s)⟩
  | channelLoss => exact ⟨_, rfl, powered_keeps (fun _ => chanTrial_keeps fun _ => channelLoss_keeps _ _) (.refl s)⟩
  | safetyFeedRecord => exact ⟨_, rfl, powered_keeps (fun _ => feedRecord_keeps _) (.refl s)⟩
  | residualCurrentTrip => exact ⟨_, rfl, powered_keeps (fun _ => residualTrip_keeps _ _) (.refl s)⟩
  | closeRequest => exact ⟨_, rfl, powered_keeps (fun _ => closeRequest_keeps _ _ _) (.refl s)⟩
  | openRequest => exact ⟨_, rfl, powered_keeps (fun _ => openRequest_keeps _ _ _ _) (.refl s)⟩
  | fbChange => exact ⟨_, rfl, powered_keeps (fun _ => fbChange_keeps _ _) (.refl s)⟩
  | fbCloseTimeout => exact ⟨_, rfl, powered_keeps (fun _ => fbCloseTimeout_keeps _) (.refl s)⟩
  | fbOpenTimeout => exact ⟨_, rfl, powered_keeps (fun _ => fbOpenTimeout_keeps _) (.refl s)⟩
  | driveFault => exact ⟨_, rfl, powered_keeps (fun _ => driveFault_keeps _) (.refl s)⟩
  | darkPulseDue => exact ⟨_, rfl, powered_keeps (fun _ => pulseDue_keeps _) (.refl s)⟩
  | darkPulseRetry => exact ⟨_, rfl, powered_keeps (fun _ => pulseRetry_keeps _) (.refl s)⟩
  | darkPulseEnd => exact ⟨_, rfl, powered_keeps (fun _ => pulseEnd_keeps _ _) (.refl s)⟩
  | proofTest => exact ⟨_, rfl, powered_keeps (fun _ => proofTest_keeps _) (.refl s)⟩
  | proofOverdue => exact ⟨_, rfl, powered_keeps (fun _ => proofOverdue_keeps _) (.refl s)⟩
  | safetyRelease => exact ⟨_, rfl, powered_keeps (fun _ => safetyRelease_keeps _) (.refl s)⟩
  | safetyLinkTransmit => exact ⟨_, rfl, powered_keeps (fun _ h => slSentOut_keeps _ (slTransmit_keeps _ h)) (.refl s)⟩
  | safetyLinkCopy => exact ⟨_, rfl, powered_keeps (fun _ h => .ite (slCopy_keeps _ _ h) h) (.refl s)⟩
  | pairTimeout => exact ⟨_, rfl, powered_keeps (fun _ => slPairTimeout_keeps _) (.refl s)⟩
  | safetyLinkWatchdog => exact ⟨_, rfl, powered_keeps (fun _ => slWatchdog_keeps _ _) (.refl s)⟩
  | push | pushEnd => exact ⟨_, rfl, awake_keeps (fun _ => quePush_keeps _ _ _) (.refl s)⟩
  | pop => exact ⟨_, rfl, awake_keeps (fun _ => quePop_keeps _ _) (.refl s)⟩
  | popStallEnd => exact ⟨_, rfl, awake_keeps (fun _ => popStallEnd_keeps _) (.refl s)⟩
  | irqAgeExpiry => exact ⟨_, rfl, awake_keeps (fun _ => irqAge_keeps _) (.refl s)⟩
  | recordSubmit => exact ⟨_, rfl, powered_keeps (fun _ => submit_keeps _) (.refl s)⟩
  | journalWindowRead => exact ⟨_, rfl, windowRead_keeps _ _ _ (.refl s)⟩
  | scrubPass => exact ⟨_, rfl, awake_keeps (fun _ => scrubPass_keeps _) (.refl s)⟩
  | ringRebuilt => exact ⟨_, rfl, inService_keeps (fun _ h => updNext_keeps (ringRebuilt_keeps _ h)) (.refl s)⟩
  | supplyLossCommit => exact ⟨_, rfl, supplyLossCommit_keeps _ (.refl s)⟩
  | gleaningEnd => exact ⟨_, rfl, gleaningEnd_keeps _ _ (.refl s)⟩
  | vinLow | vinHigh => exact ⟨_, rfl, vinMeasured_keeps _ (.refl s)⟩
  | demandIntervalEnd => exact ⟨_, rfl, powered_keeps (fun _ => demandEnd_keeps _) (.refl s)⟩
  | bilBtCapture => exact ⟨_, rfl, btCapture_keeps _ _ (.refl s)⟩
  | sessionClose => exact ⟨_, rfl, powered_keeps (fun _ => sessionClose_keeps _) (.refl s)⟩
  | recordRelease => exact ⟨_, rfl, powered_keeps (fun _ => recordRelease_keeps _ _) (.refl s)⟩
  | keyOperation => exact ⟨_, rfl, blockRuns_keeps _ (fun _ => keyOperation_keeps _) (.refl s)⟩
  | keyOperationComplete => exact ⟨_, rfl, blockRuns_keeps _ (fun _ => keyComplete_keeps _) (.refl s)⟩
  | tamperEvent => exact ⟨_, rfl, tamperEvent_keeps _ (.refl s)⟩
  | vbatLow => exact ⟨_, rfl, vbatMeasured_keeps _ (.refl s)⟩
  | fieldEntry => exact ⟨_, rfl, fieldEntry_keeps _ (.refl s)⟩
  | harvestSwitch => exact ⟨_, rfl, harvest_keeps _ (.refl s)⟩
  | select => exact ⟨_, rfl, fieldSelect_keeps _ _ _ _ _ (.refl s)⟩
  | fieldRead => exact ⟨_, rfl, fieldRead_keeps _ _ (.refl s)⟩
  | fieldWrite => exact ⟨_, rfl, fieldWrite_keeps _ _ (.refl s)⟩
  | authenticate => exact ⟨_, rfl, fieldAuth_keeps _ _ _ _ (.refl s)⟩
  | sWtx => exact ⟨_, rfl, fieldWtx_keeps _ (.refl s)⟩
  | pageOperationBegin => exact ⟨_, rfl, blockRuns_keeps _ (fun _ => memBegin_keeps _ _) (.refl s)⟩
  | pageOperationTimeout => exact ⟨_, rfl, memTimeout_keeps _ (.refl s)⟩
  | readerPoll => exact ⟨_, rfl, inService_keeps (fun _ => readerPoll_keeps _ _ _ _) (.refl s)⟩
  | cardAuth => exact ⟨_, rfl, inService_keeps (fun _ => cardAuth_keeps _ _) (.refl s)⟩
  | fetchComplete => exact ⟨_, rfl, awake_keeps (fun _ => fetchComplete_keeps _ _ _ _) (.refl s)⟩
  | pieceFrame => exact ⟨_, rfl, powered_keeps (fun _ => pieceFrame_keeps _) (.refl s)⟩
  | baleStored => exact ⟨_, rfl, awake_keeps (fun _ => baleArrives_keeps _ _) (.refl s)⟩
  | verifyComplete => exact ⟨_, rfl, blockRuns_keeps _ (fun _ => verifyComplete_keeps _ _) (.refl s)⟩
  | activationComplete => exact ⟨_, rfl, blockRuns_keeps _ (fun _ => activationComplete_keeps _ _) (.refl s)⟩
  | deferredConfigApply => exact ⟨_, rfl, blockRuns_keeps _ (fun _ => deferredApply_keeps _) (.refl s)⟩
  | trialExpiry => exact ⟨_, rfl, blockRuns_keeps _ (fun _ => trialExpiry_keeps _) (.refl s)⟩
  | trialFailure => exact ⟨_, rfl, blockRuns_keeps _ (fun _ => trialFailure_keeps _) (.refl s)⟩
  | mirroringComplete => exact ⟨_, rfl, blockRuns_keeps _ (fun _ => mirroringComplete_keeps _) (.refl s)⟩
  | offerExpiry => exact ⟨_, rfl, blockRuns_keeps _ (fun _ => offerExpiry_keeps _) (.refl s)⟩
  | relayMessage => exact ⟨_, rfl, blockRuns_keeps _ (fun _ => relayMessage_keeps _ _) (.refl s)⟩
  | relayOfferRepeat => exact ⟨_, rfl, blockRuns_keeps _ (fun _ => relayRepeat_keeps _ _) (.refl s)⟩
  | frameReceived => exact ⟨_, rfl, frameReceived_keeps _ _ (.refl s)⟩
  | portLinkUp => exact ⟨_, rfl, awake_keeps (fun _ => portLinkUp_keeps _ _ _) (.refl s)⟩
  | portLinkDown => exact ⟨_, rfl, portLinkDown_keeps _ (.refl s)⟩
  | portQualified => exact ⟨_, rfl, portQualified_keeps _ (.refl s)⟩
  | zeroCrossing => exact ⟨_, rfl, zeroCrossing_keeps _ _ (.refl s)⟩
  | zxLost => exact ⟨_, rfl, linkEvent_keeps (fun _ => zxLoss_keeps _) (.refl s)⟩
  | beaconDue => exact ⟨_, rfl, linkEvent_keeps (fun _ => beaconDue_keeps _) (.refl s)⟩
  | beaconAbandoned => exact ⟨_, rfl, linkEvent_keeps (fun _ => beaconAbandoned_keeps _) (.refl s)⟩
  | linkFrameReceived => exact ⟨_, rfl, linkEvent_keeps (fun _ => linkIn_keeps _ _ _ _) (.refl s)⟩
  | linkAck => exact ⟨_, rfl, linkEvent_keeps (fun _ => linkAck_keeps _ _ _) (.refl s)⟩
  | backoffEnd => exact ⟨_, rfl, linkEvent_keeps (fun _ => backoffEnd_keeps _) (.refl s)⟩
  | noiseTimeout => exact ⟨_, rfl, linkEvent_keeps (fun _ => noiseTimeout_keeps _) (.refl s)⟩
  | driverOff => exact ⟨_, rfl, linkEvent_keeps (fun _ => driverOff_keeps _) (.refl s)⟩
  | driverRetry => exact ⟨_, rfl, linkEvent_keeps (fun _ => driverRetry_keeps _) (.refl s)⟩
  | partitionRestartStage => exact ⟨_, rfl, inService_keeps (fun _ h => updNext_keeps (partStage_keeps _ h)) (.refl s)⟩
  | powerOn => exact ⟨_, rfl, powerOn_keeps _ _ (.refl s)⟩
  | railOut => exact ⟨_, rfl, railOut_keeps _ (.refl s)⟩
  | brownOut => exact ⟨_, rfl, brownOut_keeps _ (.refl s)⟩
  | blockSelfRestart => exact ⟨_, rfl, selfRestart_keeps _ (.refl s)⟩
  | hostLinkUp => exact ⟨_, rfl, linkUp_keeps _ _ (.refl s)⟩
  | railRecovered => exact ⟨_, rfl, powered_keeps (fun _ => railRecovered_keeps _) (.refl s)⟩
  | pilotFrontEndFault => exact ⟨_, rfl, awake_keeps (fun _ => pilotFault_keeps _ _) (.refl s)⟩
  | frontEndHealthy => exact ⟨_, rfl, awake_keeps (fun _ => frontEndsHealthy_keeps _) (.refl s)⟩
  | restartComplete => exact ⟨_, rfl, powered_keeps (fun _ => restartComplete_keeps _) (.refl s)⟩
  | syncTransmit => exact ⟨_, rfl, powered_keeps (fun _ h => ptpSent_keeps (syncTransmit_keeps _ h.upd)) (.refl s)⟩
  | antennaRetry => exact ⟨_, rfl, inService_keeps (fun _ => antennaRetry_keeps _ _) (.refl s)⟩
  | norFault => exact ⟨_, rfl, awake_keeps (fun _ => norFault_keeps _) (.refl s)⟩
  | addressAgeOut => exact ⟨_, rfl, awake_keeps (fun _ => macAge_keeps _) (.refl s)⟩
  | neighbourAgeOut => exact ⟨_, rfl, linkEvent_keeps (fun _ => nbAge_keeps _ _) (.refl s)⟩
  | announceTransmit => exact ⟨_, rfl, powered_keeps (fun _ h => ptpSent_keeps (announceTransmit_keeps _ h.upd)) (.refl s)⟩
  | hostLinkDown => exact ⟨_, rfl, powered_keeps (fun _ => linkLoss_keeps _) (.refl s)⟩
  | slewEnd => exact ⟨_, rfl, clockEvent_keeps (fun _ => slewEnd_keeps) (.refl s)⟩
  | leapSecond => exact ⟨_, rfl, clockEvent_keeps (fun _ => leapSecond_keeps) (.refl s)⟩
  | validLeftExpiry => exact ⟨_, rfl, clockEvent_keeps (fun _ => validExpiry_keeps) (.refl s)⟩
  | ppsInMissing => exact ⟨_, rfl, clockEvent_keeps (fun _ => ppsMissing_keeps) (.refl s)⟩
  | rateSave => exact ⟨_, rfl, powered_keeps (fun _ => rateSave_keeps) (.refl s)⟩
  | rtcWrite => exact ⟨_, rfl, powered_keeps (fun _ => rtcWrite_keeps) (.refl s)⟩
  | metPublication => exact ⟨_, rfl, powered_keeps (fun _ h => metPublication_keeps (readingsDue_keeps h)) (.refl s)⟩
  | periodicSave => exact ⟨_, rfl, powered_keeps (fun _ => periodicSave_keeps) (.refl s)⟩
  | metCoreLockstep => exact ⟨_, rfl, awake_keeps (fun _ => coreTrial_keeps) (.refl s)⟩
  | coreRestored => exact ⟨_, rfl, powered_keeps (fun _ => coreRestored_keeps) (.refl s)⟩
  | balanceTick => exact ⟨_, rfl, blockRuns_keeps _ (fun _ h => balSentOut_keeps _ (balanceTick_keeps h)) (.refl s)⟩
  | allocationInstant => exact ⟨_, rfl, powered_keeps (fun _ => allocationInstant_keeps) (.refl s)⟩
  | grantCommit => exact ⟨_, rfl, powered_keeps (fun _ => grantCommit_keeps) (.refl s)⟩
  | hardPauseResume => exact ⟨_, rfl, powered_keeps (fun _ => hardPauseResume_keeps) (.refl s)⟩
  | fastPathDownTimeout => exact ⟨_, rfl, powered_keeps (fun _ => fastPathTimeout_keeps) (.refl s)⟩
  | disagree => exact ⟨_, rfl, powered_keeps (fun _ => chanTrial_keeps fun _ => disagree_keeps) (.refl s)⟩
  | feedLost => exact ⟨_, rfl, powered_keeps (fun _ => feedLost_keeps) (.refl s)⟩
  | stagingDrain => exact ⟨_, rfl, powered_keeps (fun _ => stagingDrain_keeps) (.refl s)⟩
  | recordsPending => exact ⟨_, rfl, awake_keeps (fun _ => recordsPending_keeps) (.refl s)⟩
  | granaryUncorrectable => exact ⟨_, rfl, awake_keeps (fun _ => granaryUncorrectable_keeps) (.refl s)⟩
  | granaryMismatch => exact ⟨_, rfl, awake_keeps (fun _ => granaryMismatchActs_keeps) (.refl s)⟩
  | pfwAsserted => exact ⟨_, rfl, awake_keeps (fun _ => pfwAsserted_keeps _) (.refl s)⟩
  | preCaptureCancelled => exact ⟨_, rfl, awake_keeps (fun _ => preCaptureCancelled_keeps) (.refl s)⟩
  | capture => exact ⟨_, rfl, rollingCapture_keeps (.refl s)⟩
  | tariffSwitch => exact ⟨_, rfl, tariffSwitch_keeps (.refl s)⟩
  | calendarActivation => exact ⟨_, rfl, powered_keeps (fun _ => calendarActivation_keeps) (.refl s)⟩
  | btHoldEnd => exact ⟨_, rfl, powered_keeps (fun _ => btHoldEnd_keeps) (.refl s)⟩
  | fieldLoss => exact ⟨_, rfl, fieldLoss_keeps (.refl s)⟩
  | getChallenge => exact ⟨_, rfl, fieldChallenge_keeps _ _ _ (.refl s)⟩
  | fieldLogout => exact ⟨_, rfl, fieldOut_keeps _ _ _ (.refl s)⟩
  | sDeselect => exact ⟨_, rfl, fieldDeselect_keeps (.refl s)⟩
  | fieldSessionTimeout => exact ⟨_, rfl, fieldTimeout_keeps (.refl s)⟩
  | statusRefresh => exact ⟨_, rfl, statusRefresh_keeps (.refl s)⟩
  | partitionsUnavailable => exact ⟨_, rfl, awake_keeps (fun _ => partitionsUnavailable_keeps) (.refl s)⟩
  | refclkLost => exact ⟨_, rfl, refclkLoss_keeps (.refl s)⟩
  | refclkReturn => exact ⟨_, rfl, refclkReturn_keeps (.refl s)⟩
  | resetNAssert => exact ⟨_, rfl, resetNAssert_keeps (.refl s)⟩
  | resetNRelease => exact ⟨_, rfl, resetNRelease_keeps (.refl s)⟩
  | rtcLost => exact ⟨_, rfl, rtcLost_keeps (.refl s)⟩

/-- Settles O1: a step is `exec` of the front command, by the definition of `step` on each form of the queue. -/
theorem stepRunsTheFrontCommand : Obligations.StepRunsTheFrontCommand := by
  unfold Obligations.StepRunsTheFrontCommand
  constructor
  · intro s c rest h
    simp only [step, h]
  · intro s h
    simp only [step, h]

/-- A step keeps the tables canonical: an idle step changes nothing, and taking the front command off the queue touches no table. -/
theorem step_keeps_canonical {s t : State} (hs : s.canonical = true) (h : step s = .next t) : t.canonical = true := by
  cases hp : s.pending with
  | nil =>
    rw [stepRunsTheFrontCommand.2 s hp] at h
    cases h
    exact hs
  | cons c rest =>
    rw [stepRunsTheFrontCommand.1 s c rest hp] at h
    obtain ⟨u, hu, hk⟩ := exec_keeps c { s with pending := rest }
    rw [hu] at h
    cases h
    exact hk.canonical hs

/-- Settles O3, by the case split over the rows of `exec_keeps`. -/
theorem everyStepKeepsTablesCanonical : Obligations.EveryStepKeepsTablesCanonical :=
  fun _ _ hs h => step_keeps_canonical hs h

end Sys2Proof.Machine
end

section
/-! Epochs, arbitration and the entry of an outcome: the parts of a boundary that are functions of their own. -/
namespace Sys2Proof.Machine.State

/-! Epochs (R34): an epoch counts in a mixed radix, 65535 values of its low 16 bits for each value of the upper 32. -/

/-- How many moves from zero an epoch stands at. -/
def epochIndex (e : Nat) : Nat := e / 65536 * 65535 + min (e % 65536) 65534

/-- The epoch that stands at a number of moves, modulo the 2^32 rounds that its 48 bits hold. -/
def epochAt (i : Nat) : Nat := (i / 65535 * 65536 + i % 65535) % 2 ^ 48

theorem epochPlus_eq (e k : Nat) : epochPlus e k = epochAt (epochIndex e + k) := rfl

theorem epochAt_low (i : Nat) : epochAt i % 65536 = i % 65535 := by
  unfold epochAt; omega

theorem epochIndex_epochAt (i : Nat) : epochIndex (epochAt i) = i % (65535 * 2 ^ 32) := by
  have hlow := epochAt_low i
  have hhigh : epochAt i / 65536 = i / 65535 % 2 ^ 32 := by unfold epochAt; omega
  unfold epochIndex
  rw [hlow, hhigh]
  omega

theorem epochAt_mod_add (i k : Nat) : epochAt (i % (65535 * 2 ^ 32) + k) = epochAt (i + k) := by
  unfold epochAt; omega

/-- Settles O13: an epoch stands at its index, and a move adds to that. -/
theorem epochNeverReadsNoValue : Obligations.EpochNeverReadsNoValue := by
  unfold Obligations.EpochNeverReadsNoValue
  refine ⟨fun e k => ?_, fun e he hlow => ?_, fun e j k => ?_⟩
  · rw [epochPlus_eq, epochAt_low]
    omega
  · rw [epochPlus_eq, epochAt, epochIndex]
    split <;> omega
  · calc epochPlus (epochPlus e j) k
        = epochAt ((epochIndex e + j) % (65535 * 2 ^ 32) + k) := by rw [epochPlus_eq, epochPlus_eq, epochIndex_epochAt]
      _ = epochAt (epochIndex e + j + k) := epochAt_mod_add _ _
      _ = epochPlus e (j + k) := by rw [epochPlus_eq, Nat.add_assoc]

/-! Arbitration (R45 to R47) of one candidate of the host and one of the management port on one slot. -/

section Contest
variable {h g : Cand}

theorem contest_of_pair (hh : byHost h = true) (hg : byHost g = false) (ha : g.addr = h.addr) (hs : isShared h.addr = true) :
    contest h [h, g] =
      if h.cmd then
        if g.value = h.value then 3
        else if energyOrder h.addr (codeOf g.value) < energyOrder h.addr (codeOf h.value) then 1 else 2
      else if g.value = h.value then 4 else 2 := by
  simp [contest, hh, hg, ha, hs]

/-- Neither replaces the other: they are of different masters (R47). -/
theorem not_replaced_of_pair {x y : Master × Nat × Nat} (hx : h.ms = [x]) (hy : g.ms = [y]) (hh : byHost h = true)
    (hg : byHost g = false) : replaced h [h, g] = false ∧ replaced g [h, g] = false := by
  simp [replaced, hx, hy, hh, hg]

theorem arbitrate_pair_cmd {x y : Master × Nat × Nat} (hx : h.ms = [x]) (hy : g.ms = [y]) (hh : byHost h = true)
    (hg : byHost g = false) (ha : g.addr = h.addr) (hs : isShared h.addr = true) (hcmd : h.cmd = true) :
    arbitrate [h, g] =
      if g.value = h.value then ([{ g with ms := h.ms ++ g.ms }], [])
      else if energyOrder h.addr (codeOf g.value) < energyOrder h.addr (codeOf h.value) then ([h], [g]) else ([g], [h]) := by
  obtain ⟨rh, rg⟩ := not_replaced_of_pair hx hy hh hg
  have hc := contest_of_pair hh hg ha hs
  simp only [hcmd, if_true] at hc
  unfold arbitrate
  split_ifs at hc ⊢ <;> simp [rh, rg, hh, hg, ha, hs, hc]

theorem arbitrate_pair_value {x y : Master × Nat × Nat} (hx : h.ms = [x]) (hy : g.ms = [y]) (hh : byHost h = true)
    (hg : byHost g = false) (ha : g.addr = h.addr) (hs : isShared h.addr = true) (hcmd : h.cmd = false) :
    arbitrate [h, g] = if g.value = h.value then ([h, g], []) else ([g], [h]) := by
  obtain ⟨rh, rg⟩ := not_replaced_of_pair hx hy hh hg
  have hc := contest_of_pair hh hg ha hs
  simp only [hcmd, Bool.false_eq_true, if_false] at hc
  unfold arbitrate
  split_ifs at hc ⊢ <;> simp [rh, rg, hh, hg, ha, hc]

end Contest

/-- The ranks of a stall's commands (R45). -/
theorem energyOrder_stlCmd (n : Fin 32) (code : Nat) :
    energyOrder (Reg.stlCmd n) code =
      if code = 1 then 1 else if code = 2 then 2 else if code = 3 then 3 else if code = 4 ∨ code = 5 then 4 else 0 := by
  have hp : ∀ n : Fin 32, pageEntry (Reg.stlCmd n / 0x1000) = some (.stl, n.val) := by decide
  simp [energyOrder, hp n]

/-- Settles O10: the pair of the statement is a pair of candidates of the two masters on one slot. -/
theorem higherEnergyOrderWins : Obligations.HigherEnergyOrderWins := by
  unfold Obligations.HigherEnergyOrderWins
  constructor
  · intro a th tm ih im vh vm gh gm kh km h g hs
    constructor
    · exact arbitrate_pair_cmd (h := h true) (g := g true) rfl rfl rfl rfl rfl hs rfl
    · exact arbitrate_pair_value (h := h false) (g := g false) rfl rfl rfl rfl rfl hs rfl
  · intro n
    simp [energyOrder_stlCmd]

end Sys2Proof.Machine.State
end

section
/-! What a banked slot reads as (R40): the bank of a master lies above every shared slot, so the effects that write shared slots leave it. -/
namespace Sys2Proof.Machine.State

variable {s : State}

theorem bankKey_ne_shared {a b : Nat} (m : Master) (ha : a < bankSpan) : bankKey m b ≠ a := by
  unfold bankKey
  cases m <;> simp only [Master.ix, bankSpan] at ha ⊢ <;> omega

section Shared
variable {a : Nat} (ha : a < bankSpan) (m : Master) (b : Nat)
include ha

theorem rdB_hw_shared (x : Nat) : (s.hw a x).rdB m b = s.rdB m b := rd_hw_ne s x (bankKey_ne_shared m ha)

theorem rdB_wrf_shared (lo w x : Nat) : (s.wrf a lo w x).rdB m b = s.rdB m b := rd_wrf_ne s lo w x (bankKey_ne_shared m ha)

theorem rdB_hwb_shared (i : Nat) (x : Bool) : (s.hwb a i x).rdB m b = s.rdB m b := rd_hwb_ne s i x (bankKey_ne_shared m ha)

theorem rdB_inc_shared (lo w n : Nat) : (s.inc a lo w n).rdB m b = s.rdB m b := rd_inc_ne s lo w n (bankKey_ne_shared m ha)

end Shared

@[simp] theorem rdB_setV (x : Var) (i : Nat) (k : Int) (m : Master) (b : Nat) : (s.setV x i k).rdB m b = s.rdB m b := rd_setV s x i k _

/-- Vector 64 has its pending bit below the banks. -/
theorem rdB_sendMsi_evt (m : Master) (b : Nat) : (sendMsi 64 s).rdB m b = s.rdB m b := by
  unfold sendMsi
  split_ifs
  · exact rdB_wrf_shared (by decide) m b _ _ _
  · rfl
  · rfl

theorem rdB_queEvtSum (p : Nat) (m : Master) (b : Nat) : (queEvtSum p s).rdB m b = s.rdB m b := by
  unfold queEvtSum
  split_ifs
  · exact rdB_hwb_shared (by split_ifs <;> decide) m b _ _
  · rfl

/-- An event of a page of BAR0 leaves the banks. -/
theorem rdB_evt {p : Nat} (hp : evtAddr p < bankSpan) (i : Nat) (m : Master) (b : Nat) : (evt p i s).rdB m b = s.rdB m b := by
  have hw : (s.wrf (evtAddr p) i 1 1).rdB m b = s.rdB m b := rdB_wrf_shared hp m b _ _ _
  unfold evt
  rw [rdB_queEvtSum]
  split_ifs
  · rw [rdB_sendMsi_evt, hw]
  · exact hw

theorem rdB_countOnly (m : Master) (st : Nat) (m' : Master) (b : Nat) : (countOnly m st s).rdB m' b = s.rdB m' b := by
  unfold countOnly
  cases m <;> dsimp only <;> split_ifs <;> exact rdB_inc_shared (by decide) m' b _ _ _

theorem rdB_countStatus (m : Master) (st addr : Nat) (m' : Master) (b : Nat) :
    (countStatus m st addr s).rdB m' b = s.rdB m' b := by
  unfold countStatus
  rw [rdB_countOnly]
  exact rdB_hw_shared (by cases m <;> decide) m' b _

/-- What an outcome does beside STAT and SEQ, the event bits, the counts and the answer to a frame, is on shared slots. -/
theorem rdB_enterRes {r : Res} (ha : r.addr < bankSpan) (hc : r.cmd = true) (m : Master) (b : Nat) :
    (enterRes r s).rdB m b =
      ((s.wrB r.m (r.addr + 8) (r.status * 2 ^ 40 + r.tok % 2 ^ 32)).wrB r.m (r.addr + 16) r.seq).rdB m b := by
  have hp : evtAddr (r.addr / 0x1000) < bankSpan := by
    unfold evtAddr bankSpan at *; omega
  have hframe (t : State) : (if r.frame then mgmtStatus r.status t else t).rdB m b = t.rdB m b := by split_ifs <;> rfl
  have hcount (t : State) : (if r.status = 0x01 then t.setV .lastAccepted r.m.ix t.counter
      else if r.status = 0x02 then t else countStatus r.m r.status (r.addr + r.low) t).rdB m b = t.rdB m b := by
    split_ifs
    · exact rdB_setV _ _ _ m b
    · rfl
    · exact rdB_countStatus _ _ _ m b
  unfold enterRes
  simp only [hc, if_true]
  rw [hframe, hcount]
  split_ifs
  · rfl
  · split
    · exact rdB_evt hp _ m b
    · exact rdB_evt hp _ m b
    · exact rdB_evt hp _ m b
    · rfl

/-- Settles O9: the two banked writes of `rdB_enterRes`, read at their own keys and at any other. -/
theorem outcomeStandsInStatAndSeq : Obligations.OutcomeStandsInStatAndSeq := by
  unfold Obligations.OutcomeStandsInStatAndSeq
  intro r s hr hc hst
  have ha : r.addr < bankSpan := by omega
  have h8 : r.addr + 8 < bankSpan := by omega
  refine ⟨?_, ?_, fun m a hm hne => ?_⟩
  · rw [rdB_enterRes ha hc, rdB_wrB_ne _ _ hr h8 (by simp), rdB_wrB_same]
    omega
  · rw [rdB_enterRes ha hc, rdB_wrB_same]
  · have h16 : (m, a) ≠ (r.m, r.addr + 16) := fun e => hne ⟨congrArg Prod.fst e, .inr (congrArg Prod.snd e)⟩
    have h8' : (m, a) ≠ (r.m, r.addr + 8) := fun e => hne ⟨congrArg Prod.fst e, .inl (congrArg Prod.snd e)⟩
    rw [rdB_enterRes ha hc, rdB_wrB_ne _ _ hr hm h16, rdB_wrB_ne _ _ h8 hm h8']

end Sys2Proof.Machine.State
end

section
/-! The boundary: how it settles a cycle, and a lone write that a check of R44 turns away. -/
namespace Sys2Proof.Machine.State

theorem boundary_of {s : State} (hs : s.settles) (idle : Nat) : boundary idle s = closing s.counter (settle (opening idle s)) := by
  unfold boundary
  rw [if_neg (by rw [hs.1]; decide), if_neg (by rw [hs.2]; decide)]

/-- Settles O30: the row is the boundary, and a state that settles is neither without power nor gleaning. -/
theorem boundarySettlesTheCycle : Obligations.BoundarySettlesTheCycle := by
  unfold Obligations.BoundarySettlesTheCycle
  intro s idle hs
  exact congrArg _ (boundary_of hs idle)

/-- The outcome of a lone write that its check turns away with status `st`: a DUPLICATE shows the number of the original record. -/
def failedRes (w : Write) (s : State) (st : Nat) : Res :=
  ⟨0, w.m, w.addr, st, if st = 0x02 then (s.tokenSeq w.m (s.rdB w.m (w.addr - 8))).getD 0 else 0, s.rdB w.m (w.addr - 8),
    decide (targetOf w.addr = .at .cmd) && decide (8 ≤ w.width), w.frame, w.low⟩

theorem failedRes_eq {w : Write} {s : State} {st : Nat} (hf : w.frame = false) :
    failedRes w { s with cycle := [] } st =
      ⟨0, w.m, w.addr, st, if st = 0x02 then (s.tokenSeq w.m (s.rdB w.m (w.addr - 8))).getD 0 else 0, s.rdB w.m (w.addr - 8),
        decide (targetOf w.addr = .at .cmd) && decide (8 ≤ w.width), false, w.low⟩ := by
  rw [← hf]
  rfl

/-- What a check makes of the first write of a cycle that fails it. -/
theorem checkWrite_fails {w : Write} {s : State} (hst : checkStatus w ⟨s, [], [], [], []⟩ ≠ 0) :
    checkWrite 0 w ⟨s, [], [], [], []⟩ =
      ⟨if targetOf w.addr = .at .cmd ∧ 8 ≤ w.width then s.setV .tokenFresh (bankKey w.m (w.addr - 8)) 0 else s, [],
        [failedRes w s (checkStatus w ⟨s, [], [], [], []⟩)], [], if targetOf w.addr = .at .cmd then [(w.m, w.addr)] else []⟩ := by
  unfold checkWrite failedRes
  simp [hst]

/-- What the checks make of a lone write that fails them: a whole command has spent its token (R41). -/
theorem checkAll_lone_failed {w : Write} {o : State} (hc : o.cycle = [w])
    (hst : checkStatus w ⟨{ o with cycle := [] }, [], [], [], []⟩ ≠ 0) :
    checkAll o = ⟨if 8 ≤ w.width then checked w o else { o with cycle := [] }, [],
      [failedRes w { o with cycle := [] } (checkStatus w ⟨{ o with cycle := [] }, [], [], [], []⟩)], [],
      if targetOf w.addr = .at .cmd then [(w.m, w.addr)] else []⟩ := by
  have hws : (o.cycle.filter (fun x => decide (x.m = Master.host)) ++ o.cycle.filter fun x => decide (x.m = Master.mgmt)) = [w] := by
    rw [hc]; cases hm : w.m <;> simp [hm]
  have e : checkAll o = checkWrite 0 w ⟨{ o with cycle := [] }, [], [], [], []⟩ := by
    simp only [checkAll, hws]; rfl
  rw [e, checkWrite_fails hst]
  congr 1
  by_cases hw : 8 ≤ w.width
  · simp only [hw, and_true, if_true]
    rfl
  · simp only [hw, and_false, if_false]

/-- A cycle whose checks leave no candidate: the steps of R201 run, and the outcomes of the checks are entered. -/
theorem settle_of_no_cands {o p : State} {r : Res} {seen : List (Master × Nat)} (h : checkAll o = ⟨p, [], [r], [], seen⟩) :
    settle o = enterRes r (through stlRun 0 7 p) := by
  unfold settle
  rw [h]
  have hsweep : ∀ f, sweep f stlRun [] p = through stlRun 0 7 p := by
    intro f
    simp [sweep, through]
  simp [arbitrate, candSort, statuses, numberAll, each, resInsert, hsweep]

/-- Settles O8: the checks leave no candidate and one outcome. -/
theorem failedWriteOnlyReportsItsStatus : Obligations.FailedWriteOnlyReportsItsStatus := by
  unfold Obligations.FailedWriteOnlyReportsItsStatus
  intro s w hs _ hf o st hc hst
  rw [boundarySettlesTheCycle s 0 hs, settle_of_no_cands (checkAll_lone_failed hc hst), failedRes_eq hf]

end Sys2Proof.Machine.State
end

section
/-! The commands and writes of the register pages that a lone master has taken (R48 to R61, R512, R529). -/
namespace Sys2Proof.Machine
open State

/-! SYS_SNAP_CTL and SYS_AUTH_REQ, the two banked slots whose write does something. -/

theorem targetOf_sysSnapCtl_banked : ∃ f, targetOf Reg.sysSnapCtl = .at (.banked f) := ⟨_, rfl⟩

theorem targetOf_sysAuthReq_banked : ∃ f, targetOf Reg.sysAuthReq = .at (.banked f) := ⟨_, rfl⟩

theorem slotEffect_sysSnapCtl (v : Nat) (m : Master) (ok : Bool) (s : State) :
    slotEffect Reg.sysSnapCtl v m ok s =
      let s1 := if maskBit v 1 then snapRelease m false s else s
      let s2 := if maskBit v 2 then each allPages (fun p t => t.wrfB m (snapAddr p) 0 1 0) s1 else s1
      if maskBit v 0 then s2.setV .takeWant m.ix 1 else s2 := by
  obtain ⟨f, hf⟩ := targetOf_sysSnapCtl_banked
  unfold slotEffect
  rw [hf]
  rfl

theorem slotEffect_sysAuthReq (v : Nat) (m : Master) (ok : Bool) (s : State) :
    slotEffect Reg.sysAuthReq v m ok s =
      let s1 := s.wrB m Reg.sysAuthReq (field v 0 3)
      let s2 := if maskBit v 8 then login m (field v 0 3) ok s1 else s1
      if maskBit v 9 then logout m 1 s2 else s2 := by
  obtain ⟨f, hf⟩ := targetOf_sysAuthReq_banked
  unfold slotEffect
  rw [hf]
  rfl

theorem writes_sysSnapCtl {i : Instr} {m : Master} {g v : Nat} {eff : State → State}
    (hx : ∀ s, exec i s = .next (writeNow m Reg.sysSnapCtl g v false s)) (he : ∀ t, slotEffect Reg.sysSnapCtl v m false t = eff t) :
    Writes i (slotWrite m Reg.sysSnapCtl g v false) eff := writes_of hx (by decide) he

theorem writes_sysAuthReq {i : Instr} {m : Master} {g v : Nat} {ok : Bool} {eff : State → State}
    (hx : ∀ s, exec i s = .next (writeNow m Reg.sysAuthReq g v ok s)) (he : ∀ t, slotEffect Reg.sysAuthReq v m ok t = eff t) :
    Writes i (slotWrite m Reg.sysAuthReq g v ok) eff := writes_of hx (by decide) he

/-- The fields of a login request: the role in the low bits, LOGIN set, LOGOUT clear. -/
theorem loginRequest_fields (r : Fin 8) :
    field (r.val + 2 ^ 8) 0 3 = r.val ∧ maskBit (r.val + 2 ^ 8) 8 = true ∧ maskBit (r.val + 2 ^ 8) 9 = false := by
  revert r; decide

/-- SYS_CMD. -/
theorem cmdEffect_sysCmd (v : Nat) (m : Master) (both ok : Bool) (seq : Nat) (s : State) :
    cmdEffect Reg.sysCmd v m both ok seq s = sysEffect (codeOf v) (argOf v) s := rfl

/-- Settles O18: each row is its write, and the owner's effect on that value is as stated. -/
theorem registerPageCommandsTakeEffect : Obligations.RegisterPageCommandsTakeEffect := by
  unfold Obligations.RegisterPageCommandsTakeEffect
  intro m g arg
  refine ⟨?take, ?release, ?clear, fun r ok => ?login, ?logout, ?deviceReset, ?partitionReset⟩
  case take => exact writes_sysSnapCtl (fun _ => rfl) fun t => slotEffect_sysSnapCtl 1 m false t
  case release => exact writes_sysSnapCtl (fun _ => rfl) fun t => slotEffect_sysSnapCtl 2 m false t
  case clear => exact writes_sysSnapCtl (fun _ => rfl) fun t => slotEffect_sysSnapCtl 4 m false t
  case login =>
    obtain ⟨hrole, hin, hout⟩ := loginRequest_fields r
    refine writes_sysAuthReq (fun _ => rfl) fun t => ?_
    rw [slotEffect_sysAuthReq]
    simp only [hrole, hin, hout, if_true, Bool.false_eq_true, if_false]
  case logout => exact writes_sysAuthReq (fun _ => rfl) fun t => slotEffect_sysAuthReq (2 ^ 9) m false t
  case deviceReset =>
    refine commands_of (fun _ => rfl) (by decide) fun seq t => ?_
    rw [cmdEffect_sysCmd, codeOf_cmd 1 arg (by decide)]
    rfl
  case partitionReset =>
    refine commands_of (fun _ => rfl) (by decide) fun seq t => ?_
    rw [cmdEffect_sysCmd, codeOf_cmd 2 arg (by decide), argOf_cmd]
    simp [sysEffect, field]

end Sys2Proof.Machine
end

section
/-! What the register tables state for reset: the slots are all unlisted, so each reads its reset value. -/
namespace Sys2Proof.Machine.State

theorem rd_reset (a : Nat) : State.reset.rd a = (resetVal a).toNat := rfl

/-- No page of a register map is the page of the MSI-X table, and all lie in BAR0. -/
theorem allPages_range : ∀ p ∈ allPages, p ≠ 8 ∧ p < 0x4000 := by decide +kernel

/-- PAGE_EPOCH is 1 at reset (R27). -/
theorem rd_reset_epochAddr {p : Nat} (h8 : p ≠ 8) (hp : p < 0x4000) : State.reset.rd (epochAddr p) = 1 := by
  have ha : epochAddr p % bankSpan = p * 0x1000 + 0x30 := by unfold epochAddr bankSpan; omega
  have ht : isMsixTable (p * 0x1000 + 0x30) = false := by unfold isMsixTable; rw [decide_eq_false_iff_not]; omega
  have ho : (p * 0x1000 + 0x30) % 0x1000 = 0x30 := by omega
  rw [rd_reset, resetVal, ha]
  simp [ht, ho]

/-- What the pages of the stalls state for reset (R222). -/
theorem rd_reset_stall : ∀ n : Fin 32, State.reset.rd (Reg.stlCfg n) = 0x00050A32FE98 ∧ State.reset.rd (Reg.stlPilot n) = 5 ∧
    State.reset.rd (Reg.stlPp n) = 7 := by decide

/-- What the pages of the queues state for reset (R337). -/
theorem rd_reset_queCfg : ∀ q : Fin 64, State.reset.rd (Reg.queCfg q) = 0x000140000000 := by decide

/-- Settles O6, page by page of the register maps. -/
theorem resetLeavesStatedValues : Obligations.ResetLeavesStatedValues := by
  unfold Obligations.ResetLeavesStatedValues
  have hepoch : ∀ p ∈ allPages, State.reset.rd (epochAddr p) = 1 := fun p hp =>
    rd_reset_epochAddr (allPages_range p hp).1 (allPages_range p hp).2
  have hsys : State.reset.rdB .host Reg.sysSnapHold = 100 ∧ State.reset.rdB .mgmt Reg.sysSnapHold = 100 ∧
      State.reset.rd Reg.sysIdPart = 0x4D524C333220 := by decide
  have htim : State.reset.rd Reg.timMode = 0x006403E80004 ∧ State.reset.rd Reg.timUtc = 37 ∧
      State.reset.rd Reg.timHoldoverLim = 24 ∧ State.reset.rd Reg.timPtpCfg = 0x00FD80801100 := by decide
  have hmet : State.reset.rd Reg.metPubCfg = 2 ∧ State.reset.rd Reg.metCoreStat = 1 := by decide
  have hsaf : State.reset.rd Reg.stlSumLead = 0xAAAAAAAA ∧ State.reset.rd Reg.safState = 0x101 ∧
      State.reset.rd Reg.safToutStat = 0xFF := by decide
  have hjnl : State.reset.rd Reg.jnlStat = 0x20 ∧ State.reset.rd Reg.jnlCfg = 0x000100010000 ∧
      State.reset.rd Reg.jnlWinBase = 1 := by decide
  obtain ⟨hholdH, hholdM, hpart⟩ := hsys
  obtain ⟨hmode, hutc, hlim, hptp⟩ := htim
  obtain ⟨hpub, hcore⟩ := hmet
  obtain ⟨hlead, hsafety, htout⟩ := hsaf
  exact ⟨rfl, hepoch, hholdH, hholdM, hpart, hmode, hutc, hlim, hptp, hpub, hcore, rd_reset_stall, hlead, hsafety, htout,
    rd_reset_queCfg, hjnl⟩

end Sys2Proof.Machine.State
end

section
/-! The frame of the rows that act on registers, hidden counters and triggers alone: one lemma an effect, and the guards they run under. -/
namespace Sys2Proof.Machine.State

variable (s : State)

/-! Effects. -/

@[simp] theorem beside_rateSave : s.rateSave.besideRegisters = s.besideRegisters := by
  unfold rateSave; simp only [beside_ite, beside_setV, ite_self]

@[simp] theorem beside_rtcWrite : s.rtcWrite.besideRegisters = s.besideRegisters := by
  unfold rtcWrite; simp only [beside_ite, beside_setV, ite_self]

@[simp] theorem beside_rtcLost : s.rtcLost.besideRegisters = s.besideRegisters := by
  unfold rtcLost; simp only [beside_hwb, beside_setV]

@[simp] theorem beside_nowCapture (m : Master) (dt : Nat) : (nowCapture m dt s).besideRegisters = s.besideRegisters := by
  unfold nowCapture; simp only [beside_ite, beside_setV, beside_wrB, ite_self]

@[simp] theorem beside_ppsPulse (dt : Nat) (high : Bool) : (ppsPulse dt high s).besideRegisters = s.besideRegisters := by
  unfold ppsPulse; simp only [beside_ite, beside_setV, ite_self]

@[simp] theorem beside_loginBlockEnd (o : Nat) : (loginBlockEnd o s).besideRegisters = s.besideRegisters := by
  unfold loginBlockEnd; simp only [beside_ite, beside_setV, ite_self]

@[simp] theorem beside_pilotInvalid (n : Nat) : (pilotInvalid n s).besideRegisters = s.besideRegisters := by
  unfold pilotInvalid; simp only [beside_ite, beside_trigger, beside_evt, beside_hwf, beside_setV, ite_self]

@[simp] theorem beside_diodeFault (n : Nat) (lo : Int) : (diodeFault n lo s).besideRegisters = s.besideRegisters := by
  unfold diodeFault; simp only [beside_ite, beside_trigger, beside_hwf, beside_hwb, ite_self]

@[simp] theorem beside_pilotDutyApply (n : Nat) : (pilotDutyApply n s).besideRegisters = s.besideRegisters := by
  unfold pilotDutyApply; simp only [beside_ite, beside_dutyApply, ite_self]

@[simp] theorem beside_safeCauseCleared (n : Nat) : (safeCauseCleared n s).besideRegisters = s.besideRegisters := by
  unfold safeCauseCleared; simp only [beside_ite, beside_trigger, ite_self]

@[simp] theorem beside_insRun (n : Nat) : (insRun n s).besideRegisters = s.besideRegisters := by
  unfold insRun; simp only [beside_ite, beside_hwb, beside_setV, ite_self]

@[simp] theorem beside_cableCheckStart (p : Partition) (n : Nat) : (cableCheckStart p n s).besideRegisters = s.besideRegisters := by
  unfold cableCheckStart; simp only [beside_ite, beside_insRun, beside_setV, ite_self]

@[simp] theorem beside_powerDelivery (p : Partition) (n : Nat) : (powerDelivery p n s).besideRegisters = s.besideRegisters := by
  unfold powerDelivery; simp only [beside_ite, beside_trigger, ite_self]

@[simp] theorem beside_sdpRequest (n : Nat) (tls : Bool) : (sdpRequest n tls s).besideRegisters = s.besideRegisters := by
  unfold sdpRequest; simp only [beside_ite, beside_hwb, beside_setV, ite_self]

@[simp] theorem beside_tcpTimeout (n k : Nat) : (tcpTimeout n k s).besideRegisters = s.besideRegisters := by
  unfold tcpTimeout; simp only [beside_ite, beside_trigger, beside_inc, ite_self]

@[simp] theorem beside_seqTimeout (n : Nat) : (seqTimeout n s).besideRegisters = s.besideRegisters := by
  unfold seqTimeout; simp only [beside_ite, beside_trigger, ite_self]

@[simp] theorem beside_retriesRestore (o : Nat) : (retriesRestore o s).besideRegisters = s.besideRegisters := by
  unfold retriesRestore; simp only [beside_ite, beside_hwf, ite_self]

@[simp] theorem beside_pullInEnd (o : Nat) : (pullInEnd o s).besideRegisters = s.besideRegisters := by
  unfold pullInEnd; simp only [beside_ite, beside_drvRefresh, beside_setV, ite_self]

@[simp] theorem beside_noiseTimeout (p : Nat) : (noiseTimeout p s).besideRegisters = s.besideRegisters := by
  unfold noiseTimeout; simp only [beside_ite, beside_inc, ite_self]

/-! Guards. -/

section Guards
variable {s} {f : State → State} (hf : (f s).besideRegisters = s.besideRegisters)
include hf

theorem beside_powered : (powered f s).besideRegisters = s.besideRegisters := by
  unfold powered; split_ifs <;> [rfl; exact hf]

theorem beside_blockRuns (code : Nat) : (blockRuns code f s).besideRegisters = s.besideRegisters := by
  unfold blockRuns; split_ifs <;> [rfl; exact hf]

theorem beside_engine : (engine f s).besideRegisters = s.besideRegisters := by
  unfold engine; split_ifs <;> [rfl; exact hf]

theorem beside_linkEvent : (linkEvent f s).besideRegisters = s.besideRegisters := by
  unfold linkEvent; split_ifs <;> [rfl; exact hf]

end Guards

/-- A row leaves beside the registers what the state it answers leaves there. -/
theorem beside_of_next {s t u : State} {i : Instr} (hu : exec i s = .next u) (hb : u.besideRegisters = s.besideRegisters)
    (ht : exec i s = .next t) : t.besideRegisters = s.besideRegisters := by
  rw [hu] at ht
  cases ht
  exact hb

/-- Settles O59, row by row. -/
theorem registerRowsLeaveAllElse : Obligations.RegisterRowsLeaveAllElse := by
  unfold Obligations.RegisterRowsLeaveAllElse
  intro s t m n o p l g lo k dt b
  simp only [List.forall_mem_cons, List.not_mem_nil, false_implies, implies_true, and_true]
  exact ⟨
    beside_of_next rfl (beside_powered (beside_rateSave s)),
    beside_of_next rfl (beside_powered (beside_rtcWrite s)),
    beside_of_next rfl (beside_rtcLost s),
    beside_of_next rfl (beside_nowCapture s m dt),
    beside_of_next rfl (beside_powered (beside_ppsPulse s dt b)),
    beside_of_next rfl (beside_loginBlockEnd s _),
    beside_of_next rfl (beside_blockRuns (beside_pilotInvalid s n) 6),
    beside_of_next rfl (beside_blockRuns (beside_diodeFault s n lo) 6),
    beside_of_next rfl (beside_blockRuns (beside_pilotDutyApply s n) 6),
    beside_of_next rfl (beside_blockRuns (beside_safeCauseCleared s n) 6),
    beside_of_next rfl (beside_blockRuns (beside_cableCheckStart s p n) 6),
    beside_of_next rfl (beside_blockRuns (beside_powerDelivery s p n) 6),
    beside_of_next rfl (beside_engine (beside_sdpRequest s n b)),
    beside_of_next rfl (beside_engine (beside_tcpTimeout s n k)),
    beside_of_next rfl (beside_engine (beside_seqTimeout s n)),
    beside_of_next rfl (beside_blockRuns (beside_retriesRestore s o) 8),
    beside_of_next rfl (beside_blockRuns (beside_pullInEnd s o) 8),
    beside_of_next rfl (beside_linkEvent (beside_noiseTimeout s l))⟩

end Sys2Proof.Machine.State
end

section
/-! The rows of the pages that are no command: reads, writes that wait, frames of the management port (R24 to R57). -/
namespace Sys2Proof.Machine
open State

/-- Settles O27: each row is its effect under its guard, and each guard holds. -/
theorem pageRowsTakeEffect : Obligations.PageRowsTakeEffect := by
  unfold Obligations.PageRowsTakeEffect
  intro s m addr len dt o off
  refine ⟨fun hs => ?read, fun hs => ?linkDown, rfl, rfl, rfl, rfl⟩
  case read => exact congrArg Host.Outcome.next (awake_of (f := readRequest m addr len dt) hs)
  case linkDown => exact congrArg Host.Outcome.next (powered_of (f := linkLoss 3) hs)

namespace State

/-! A write enters the cycle (R33). -/

theorem post_of {s : State} (hs : s.settles) (w : Write) : post w s = { s with cycle := s.cycle ++ [w] } := by
  simp [post, hs.1, hs.2]

/-- Another draw leaves the guards of a state as they are. -/
theorem drawn_settles {s : State} (hs : s.settles) : s.drawn.settles := by
  unfold drawn addV settles
  rw [v_setV_ne _ _ (by decide), v_setV_ne _ _ (by decide)]
  exact hs

/-! The accesses of `busWrite` in a state that settles, address range by address range (R24, R25, R324, R352). -/

section BusWrite
variable {s : State} (hs : s.settles) {m : Master} {a w g v : Nat}
include hs

theorem busWrite_msix (h : isMsixTable a = true ∨ isMsixPba a = true) :
    busWrite .host a w g v s =
      if w = 4 ∧ a % 4 = 0 then msixWrite a v s
      else if w = 8 ∧ a % 8 = 0 then msixWrite (a + 4) (v / 2 ^ 32 + g * 2 ^ 16) (msixWrite a v s)
      else s := by
  simp [busWrite, hs.1, hs.2, h]

theorem busWrite_port (hx : ¬ (isMsixTable a = true ∨ isMsixPba a = true)) (hp : inPorts a = true) (hw : w ≤ 8) :
    busWrite .host a w g v s = portWrite a w g v s := by
  simp [busWrite, hs.1, hs.2, hx, hp, hw]

/-- The link takes no access over 64 bytes, over a page boundary or beyond BAR0. -/
theorem busWrite_outside (hx : ¬ (isMsixTable a = true ∨ isMsixPba a = true)) (hp : ¬ (inPorts a = true ∧ w ≤ 8))
    (ho : 2 ^ 26 < a + w ∨ 64 < w ∨ w = 0 ∨ a / 0x1000 ≠ (a + w - 1) / 0x1000) : busWrite .host a w g v s = s := by
  unfold busWrite
  rw [if_neg (by simp [hs.1, hs.2]), if_neg (by simp [hx]), if_neg (by simpa using hp), if_pos ho]

theorem busWrite_window (hx : ¬ (isMsixTable a = true ∨ isMsixPba a = true)) (hw : inWindow a = true) :
    busWrite .host a 8 g v s = s := by
  have hp : inPorts a = false := by
    simp only [inWindow, inPorts, decide_eq_true_eq, decide_eq_false_iff_not] at hw ⊢; omega
  unfold busWrite
  rw [if_neg (by simp [hs.1, hs.2]), if_neg (by simp [hx]), if_neg (by simp [hp])]
  simp [hw]

/-- A slot of BAR0: the write enters the cycle with a free verdict, narrow where it is no whole slot. -/
theorem busWrite_slot (h1 : a + w ≤ 2 ^ 26) (h2 : 1 ≤ w) (h3 : w ≤ 64) (h4 : a / 0x1000 = (a + w - 1) / 0x1000)
    (hw : inWindow a = false) (hp : inPorts a = false) (hx : ¬ (m = .host ∧ (isMsixTable a ∨ isMsixPba a))) :
    busWrite m a w g v s = { s.drawn with
      cycle := s.cycle ++ [⟨m, a / 8 * 8, if w < 8 ∨ a % 8 ≠ 0 then 4 else 8, g, v, decide (s.draw 1 = 1), false, a % 8⟩] } := by
  unfold busWrite
  rw [if_neg (by simp [hs.1, hs.2]), if_neg hx, if_neg (by simp [hp]), if_neg (by omega), if_neg (by simp [hw, hp]),
    post_of (drawn_settles hs)]
  simp only [Bool.or_eq_true, decide_eq_true_eq]
  rfl

end BusWrite

/-- Settles O28: the address ranges of `busWrite`, and the two rows that only post. -/
theorem writesWaitForTheBoundary : Obligations.WritesWaitForTheBoundary := by
  unfold Obligations.WritesWaitForTheBoundary
  intro s m a p w g v hs
  refine ⟨?token, ?force, ?slot, ?outside, ?window, ?port, ?doubleword, ?slotOfTable, ?pending⟩
  case token => exact congrArg _ (post_of hs _)
  case force => exact congrArg _ (post_of hs _)
  case slot => exact fun h1 h2 h3 h4 hw hp hx => congrArg _ (busWrite_slot hs h1 h2 h3 h4 hw hp hx)
  case outside => exact fun ho hx hp => congrArg _ (busWrite_outside hs hx hp ho)
  case window => exact fun hw hx => congrArg _ (busWrite_window hs hx hw)
  case port =>
    intro hp hx hw
    refine congrArg _ ((busWrite_port hs hx hp hw).trans ?_)
    unfold portWrite
    generalize portWindow a = window
    match window with
    | 0 => exact awake_of hs
    | 1 => exact awake_of hs
    | _ + 2 => rfl
  case doubleword =>
    intro ht ha
    exact congrArg _ ((busWrite_msix hs (.inl ht)).trans ((if_pos ⟨rfl, ha⟩).trans (if_neg (by simp [ht]))))
  case slotOfTable =>
    intro ht ha
    exact congrArg _ ((busWrite_msix hs (.inl ht)).trans ((if_neg (by omega)).trans (if_pos ⟨rfl, ha⟩)))
  case pending =>
    intro hb ht ha
    exact congrArg _ ((busWrite_msix hs (.inr hb)).trans ((if_pos ⟨rfl, ha⟩).trans (if_pos ht)))

end State
end Sys2Proof.Machine
end

section
/-! The frames of the management port (R55 to R57, R558). -/
namespace Sys2Proof.Machine.State

variable {s : State}

/-- The frame is seen: the guards of a state and the draw of the verdict stay. -/
theorem mgmtSeen_settles (hs : s.settles) : (mgmtSeen s).settles := by
  unfold mgmtSeen settles
  rw [v_hwb, v_hwb, v_setV_ne _ _ (by decide), v_setV_ne _ _ (by decide)]
  exact hs

theorem draw_mgmtSeen (w : Nat) : (mgmtSeen s).draw w = s.draw w := by
  unfold mgmtSeen draw n
  rw [v_hwb, v_setV_ne _ _ (by decide)]

theorem cycle_mgmtSeen : (mgmtSeen s).cycle = s.cycle := by
  unfold mgmtSeen
  rw [hwb_cycle, setV_cycle]

/-- A frame's write enters the cycle. -/
theorem post_mgmtSeen_drawn (hs : s.settles) (w : Write) :
    post w (mgmtSeen s).drawn = { (mgmtSeen s).drawn with cycle := s.cycle ++ [w] } := by
  rw [post_of (drawn_settles (mgmtSeen_settles hs)), ← cycle_mgmtSeen (s := s)]
  rfl

theorem frameRead_of (hs : s.settles) (f : List Byte) (dt : Nat) (clocked : Bool) :
    frameRead f dt clocked s =
      if frameCrcBad f then frameRefuse 0x1A (mgmtSeen s)
      else if clocked ∨ f.length ≠ 8 ∨ beAt f 0 1 ≠ 0x0B ∨ frameAddrOk f = false ∨ beAt f 5 1 = 0 ∨ 8 < beAt f 5 1 then
        frameRefuse 0x1B (mgmtSeen s)
      else readRequest .mgmt (beAt f 1 4) (8 * beAt f 5 1) dt (mgmtSeen s) := by
  simp only [frameRead, hs.1, hs.2, Int.zero_ne_one, if_false]

theorem frameWrite_of (hs : s.settles) (f : List Byte) (clocked : Bool) :
    frameWrite f clocked s =
      if frameCrcBad f then writeRefuse 0x1A (beAt f 1 4) (mgmtSeen s)
      else if clocked ∨ f.length ≠ 16 ∨ beAt f 0 1 ≠ 0x02 ∨ frameAddrOk f = false ∨ beAt f 5 1 ≠ 1 then
        writeRefuse 0x1B (beAt f 1 4) (mgmtSeen s)
      else if inWindow (beAt f 1 4) then writeRefuse 0x1C (beAt f 1 4) (mgmtSeen s)
      else if inPorts (beAt f 1 4) then writeRefuse 0x18 (beAt f 1 4) (mgmtSeen s)
      else { (mgmtSeen s).drawn with
        cycle := s.cycle ++ [⟨.mgmt, beAt f 1 4, 8, beAt f 6 2, beAt f 8 6, decide (s.draw 1 = 1), true, 0⟩] } := by
  simp only [frameWrite, hs.1, hs.2, Int.zero_ne_one, if_false, post_mgmtSeen_drawn hs, draw_mgmtSeen]

/-- Settles O29: the refusals of a frame in their order, and what is left where none holds. -/
theorem managementFramesAreTaken : Obligations.ManagementFramesAreTaken := by
  unfold Obligations.ManagementFramesAreTaken
  intro s f dt clocked hs
  exact ⟨congrArg _ (frameRead_of hs f dt clocked), congrArg _ (frameWrite_of hs f clocked)⟩

end Sys2Proof.Machine.State
end

section
/-! The rows of supplies, clocks and resets (R521 to R540). -/
namespace Sys2Proof.Machine.State

/-- Settles O55: the rows whose part must be supplied pass their guard; each of the others is its effect. -/
theorem supplyAndResetRowsTakeEffect : Obligations.SupplyAndResetRowsTakeEffect := by
  unfold Obligations.SupplyAndResetRowsTakeEffect
  intro s rail code rtc lost gen lanes mv
  refine ⟨fun hs => ⟨?recovered, ?restarted⟩, rfl, rfl, rfl, rfl, rfl, rfl, rfl, rfl, rfl, rfl, rfl, rfl⟩
  case recovered => exact congrArg Host.Outcome.next (powered_of (f := railRecovered rail) hs)
  case restarted => exact congrArg Host.Outcome.next (powered_of (f := restartComplete code) hs)

end Sys2Proof.Machine.State
end

section
/-! A signed value in its two's complement pattern (R5). -/
namespace Sys2Proof

theorem unsigned_lt (w : Nat) (i : Int) : unsigned w i < 2 ^ w := by
  unfold unsigned
  have hpos : (0 : Int) < (2 ^ w : Nat) := by exact_mod_cast Nat.two_pow_pos w
  have hlt := Int.emod_lt_of_pos i hpos
  have hge := Int.emod_nonneg i hpos.ne'
  omega

/-- A value within the range of `w + 1` bits comes back from its pattern. -/
theorem signed_unsigned {w : Nat} {i : Int} (hlo : -2 ^ w ≤ i) (hhi : i < 2 ^ w) : signed (w + 1) (unsigned (w + 1) i) = i := by
  have hpow : ((2 ^ (w + 1) : Nat) : Int) = 2 * 2 ^ w := by push_cast; ring
  have hmod := Nat.mod_eq_of_lt (unsigned_lt (w + 1) i)
  have hhalf : ((2 ^ w : Nat) : Int) = 2 ^ w := by push_cast; rfl
  unfold signed
  rw [hmod, Nat.add_sub_cancel, hpow]
  unfold unsigned
  rw [hpow]
  rcases lt_or_ge i 0 with hi | hi
  · have hwrap : i % (2 * 2 ^ w) = i + 2 * 2 ^ w := by
      rw [← Int.add_emod_right, Int.emod_eq_of_lt (by omega) (by omega)]
    rw [hwrap, if_neg (by omega)]
    omega
  · rw [Int.emod_eq_of_lt hi (by omega), if_pos (by omega)]
    omega

end Sys2Proof
end

section
/-! The clock registers and a change of rate (R66 to R69). -/
namespace Sys2Proof.Machine.State

variable {s t : State}

/-! Offset and base rate as their slots hold them. -/

theorem offset_congr (hhi : t.rd Reg.timOfsHi = s.rd Reg.timOfsHi) (hlo : t.rd Reg.timOfsLo = s.rd Reg.timOfsLo) :
    t.offset = s.offset := by
  unfold offset
  rw [hhi, hlo]

theorem baseRate_congr (h : t.rd Reg.timRate = s.rd Reg.timRate) : t.baseRate = s.baseRate := congrArg (signed 48) h

/-- The two slots of the offset hold its 96 bits. -/
theorem offset_setOffset {o : Int} (hlo : -2 ^ 95 ≤ o) (hhi : o < 2 ^ 95) : (s.setOffset o).offset = o := by
  have hlt := unsigned_lt 96 o
  have hsplit : unsigned 96 o / 2 ^ 48 % 2 ^ 48 * 2 ^ 48 + unsigned 96 o % 2 ^ 48 % 2 ^ 48 = unsigned 96 o := by omega
  unfold offset setOffset
  rw [rd_hw_ne _ _ (by decide), rd_hw_same, rd_hw_same, hsplit]
  exact signed_unsigned hlo hhi

theorem rd_setOffset_ne {a : Nat} (o : Int) (hhi : a ≠ Reg.timOfsHi) (hlo : a ≠ Reg.timOfsLo) : (s.setOffset o).rd a = s.rd a := by
  unfold setOffset
  rw [rd_hw_ne _ _ hlo, rd_hw_ne _ _ hhi]

theorem baseRate_hw_timRate {b : Int} (hlo : -2 ^ 47 ≤ b) (hhi : b < 2 ^ 47) : (s.hw Reg.timRate (unsigned 48 b)).baseRate = b := by
  unfold baseRate
  rw [rd_hw_same, Nat.mod_eq_of_lt (unsigned_lt 48 b)]
  exact signed_unsigned hlo hhi

/-! A change of rate. -/

section SetRates
variable (base slew : Int) (c : Nat) (s)

theorem rd_setRates (a : Nat) :
    (setRates base slew c s).rd a =
      (((keepSet c s).setOffset (s.offset + c * s.rate / 2 ^ 32 - c * (base + slew) / 2 ^ 32)).hw Reg.timRate (unsigned 48 base)).rd a := by
  unfold setRates
  simp only [rd_setV]

theorem rd_setRates_ne {a : Nat} (hhi : a ≠ Reg.timOfsHi) (hlo : a ≠ Reg.timOfsLo) (hr : a ≠ Reg.timRate) :
    (setRates base slew c s).rd a = s.rd a := by
  calc (setRates base slew c s).rd a
      = ((keepSet c s).setOffset _).rd a := (rd_setRates s base slew c a).trans (rd_hw_ne _ _ hr)
    _ = s.rd a := rd_setOffset_ne _ hhi hlo

theorem clockSets_setRates :
    (setRates base slew c s).clockSets = ⟨c, s.offset, s.rate, s.baseRate⟩ :: s.clockSets := by
  simp [setRates, setOffset, keepSet]

theorem slewTerm_setRates : (setRates base slew c s).v .slewTerm = slew := by
  unfold setRates
  rw [v_setV_ne _ _ (by decide), v_setV_ne _ _ (by decide), v_setV_same]

variable {base slew c s}

theorem offset_setRates {o : Int} (ho : o = s.offset + c * s.rate / 2 ^ 32 - c * (base + slew) / 2 ^ 32) (hlo : -2 ^ 95 ≤ o)
    (hhi : o < 2 ^ 95) : (setRates base slew c s).offset = o := by
  subst ho
  calc (setRates base slew c s).offset
      = ((keepSet c s).setOffset _).offset :=
        offset_congr ((rd_setRates s base slew c _).trans (rd_hw_ne _ _ (by decide)))
          ((rd_setRates s base slew c _).trans (rd_hw_ne _ _ (by decide)))
    _ = _ := offset_setOffset hlo hhi

theorem baseRate_setRates (hlo : -2 ^ 47 ≤ base) (hhi : base < 2 ^ 47) : (setRates base slew c s).baseRate = base :=
  (baseRate_congr (rd_setRates s base slew c _)).trans (baseRate_hw_timRate hlo hhi)

theorem rate_setRates (hlo : -2 ^ 47 ≤ base) (hhi : base < 2 ^ 47) : (setRates base slew c s).rate = base + slew := by
  unfold rate
  rw [baseRate_setRates hlo hhi, slewTerm_setRates]

end SetRates

/-! Corrected time at a counter value: the oldest set kept for it, or the one in force (R69). -/

theorem timeAt_of_none_kept {c : Nat} (h : ∀ x ∈ s.clockSets.head?, x.until_ ≤ c) : s.timeAt c = convert s.offset s.rate c := by
  have hnil : s.clockSets.takeWhile (fun x => decide (c < x.until_)) = [] := by
    cases hl : s.clockSets with
    | nil => rfl
    | cons x l =>
      have hx : x.until_ ≤ c := h x (by rw [hl]; rfl)
      exact List.takeWhile_cons_of_neg (by simpa using hx)
  unfold timeAt
  rw [hnil]
  rfl

/-- Keeping the set in force until `c` leaves the time of every counter before. -/
theorem timeAt_of_kept {c e : Nat} {b : Int} (ht : t.clockSets = ⟨c, s.offset, s.rate, b⟩ :: s.clockSets) (he : e < c) :
    t.timeAt e = s.timeAt e := by
  unfold timeAt
  rw [ht, List.takeWhile_cons_of_pos (by simpa using he)]
  cases s.clockSets.takeWhile (fun x => decide (e < x.until_)) with
  | nil => rfl
  | cons x l => rfl

/-- The new offset makes up for the new rate at the instant of the change (R68). -/
theorem convert_setRates {o base slew : Int} {c : Nat} (ho : o = s.offset + c * s.rate / 2 ^ 32 - c * (base + slew) / 2 ^ 32) :
    convert o (base + slew) c = convert s.offset s.rate c := by
  unfold convert
  omega

/-- Settles O12: the new set makes up for the new rate at `c`, and the old one stays for the counters before. -/
theorem rateChangeIsContinuous : Obligations.RateChangeIsContinuous := by
  unfold Obligations.RateChangeIsContinuous
  intro s base slew o c hblo hbhi ho holo hohi t
  have hsets : t.clockSets = ⟨c, s.offset, s.rate, s.baseRate⟩ :: s.clockSets := clockSets_setRates s base slew c
  have hrate : t.rate = base + slew := rate_setRates hblo hbhi
  have hnow : t.timeAt c = convert s.offset s.rate c := by
    calc t.timeAt c
        = convert t.offset t.rate c := timeAt_of_none_kept (by simp [hsets])
      _ = convert o (base + slew) c := by rw [offset_setRates ho holo hohi, hrate]
      _ = convert s.offset s.rate c := convert_setRates ho
  have hpast : (∀ x ∈ s.clockSets, x.until_ ≤ c) → t.timeAt c = s.timeAt c := fun h =>
    hnow.trans (timeAt_of_none_kept fun x hx => h x (List.mem_of_mem_head? hx)).symm
  exact ⟨hnow, hpast, fun e he => timeAt_of_kept hsets he, baseRate_setRates hblo hbhi, hrate,
    rd_setRates_ne s base slew c (by decide) (by decide) (by decide)⟩

end Sys2Proof.Machine.State
end

section
/-! The commands of TIM_CMD and a write of MODE that a lone master has taken (R73, R79). -/
namespace Sys2Proof.Machine
open State

/-- TIM_CMD: the owner's effect is that of the code and the argument written. -/
theorem cmdEffect_timCmd {code : Nat} (arg : BitVec 40) (hc : code < 256) (m : Master) (both ok : Bool) (seq : Nat) (s : State) :
    cmdEffect Reg.timCmd (code * 2 ^ 40 + arg.toNat % 2 ^ 40) m both ok seq s = timEffect m code arg.toNat s := by
  have howner (v : Nat) : cmdEffect Reg.timCmd v m both ok seq s = timEffect m (codeOf v) (argOf v) s := rfl
  rw [howner, codeOf_cmd code arg hc, argOf_cmd]

theorem commands_timCmd {i : Instr} {m : Master} {g : BitVec 16} {code : Nat} {arg : BitVec 40} {eff : State → State} (hc : code < 256)
    (hx : ∀ s, exec i s = .next (command m Reg.timCmd g.toNat code arg.toNat false s))
    (he : ∀ t, timEffect m code arg.toNat t = eff t) : Commands i (cmdWrite m Reg.timCmd g code arg false) (fun _ => eff) :=
  commands_of hx (by decide) fun seq t => (cmdEffect_timCmd arg hc m false false seq t).trans (he t)

/-- A write to a shared slot: the fields that it sets, and then what the slot's owner does with the value before. -/
theorem slotEffect_rw {a : Nat} {f : List FieldRule} (ht : targetOf a = .at (.rw f)) (ha : accessOf a = some (.rw f))
    {after : Nat → State → State}
    (hcfg : ∀ old s, cfgSet a old s = after old { s with cfgOld := s.cfgOld.filter fun e => decide (e.1 ≠ a) })
    (v : Nat) (m : Master) (ok : Bool) (s : State) : slotEffect a v m ok s = slotSet a v after s := by
  unfold slotEffect slotSet
  rw [ht, ha]
  dsimp only
  cases storeFields f (s.rd a) v with
  | none => rfl
  | some x => exact hcfg _ _

/-- The lowest field of a number. -/
theorem field_low (x w : Nat) : field x 0 w = x % 2 ^ w := congrArg (· % 2 ^ w) (Nat.div_one x)

theorem access_timMode : ∃ f, targetOf Reg.timMode = .at (.rw f) ∧ accessOf Reg.timMode = some (.rw f) := ⟨_, rfl, rfl⟩

theorem slotEffect_timMode (v : Nat) (m : Master) (ok : Bool) (s : State) :
    slotEffect Reg.timMode v m ok s = slotSet Reg.timMode v (fun old => timModeSet (old % 4)) s := by
  obtain ⟨f, ht, ha⟩ := access_timMode
  refine slotEffect_rw ht ha (fun old t => ?_) v m ok s
  calc cfgSet Reg.timMode old t
      = timModeSet (field old 0 2) { t with cfgOld := t.cfgOld.filter fun e => decide (e.1 ≠ Reg.timMode) } := rfl
    _ = timModeSet (old % 4) { t with cfgOld := t.cfgOld.filter fun e => decide (e.1 ≠ Reg.timMode) } :=
        congrArg (timModeSet · _) (field_low old 2)

/-- Settles O19: each command row is its write to TIM_CMD, and the time block's effect of its code is as stated. -/
theorem timeCommandsTakeEffect : Obligations.TimeCommandsTakeEffect := by
  unfold Obligations.TimeCommandsTakeEffect
  intro m g arg v
  refine ⟨?stepTo, ?stepBy, ?slewBy, ?setRate, ?setUtc, ?mode⟩
  case stepTo => exact commands_timCmd (by decide) (fun _ => rfl) fun _ => rfl
  case stepBy => exact commands_timCmd (by decide) (fun _ => rfl) fun _ => rfl
  case slewBy => exact commands_timCmd (by decide) (fun _ => rfl) fun _ => rfl
  case setRate => exact commands_timCmd (by decide) (fun _ => rfl) fun _ => rfl
  case setUtc =>
    refine commands_timCmd (by decide) (fun _ => rfl) fun t => ?_
    simp only [timEffect, setUtc, field, pow_zero, Nat.div_one]
  case mode => exact writes_of (fun _ => rfl) (by decide) (slotEffect_timMode v.toNat m false)

end Sys2Proof.Machine
end

section
/-! The rows of the corrected clock, of its discipline, of PTP and of the pulse per second (R65 to R94). -/
namespace Sys2Proof.Machine
open State

/-- An event of the time block in a supplied device, with the billing time that follows it (R401). -/
theorem next_clockEvent {f : State → State} {s : State} (hs : s.supplied) :
    (Host.Outcome.next (clockEvent f s) : Host.Outcome State Fault Refusal) = .next (btUpdate (f s)) :=
  congrArg _ (clockEvent_of hs)

theorem next_powered {f : State → State} {s : State} (hs : s.supplied) :
    (Host.Outcome.next (powered f s) : Host.Outcome State Fault Refusal) = .next (f s) :=
  congrArg _ (powered_of hs)

theorem next_awake {f : State → State} {s : State} (hs : s.settles) :
    (Host.Outcome.next (awake f s) : Host.Outcome State Fault Refusal) = .next (f s) :=
  congrArg _ (awake_of hs)

/-- Settles O31: each row is its effect, followed by billing time where the clock may have moved. -/
theorem clockRowsTakeEffect : Obligations.ClockRowsTakeEffect := by
  unfold Obligations.ClockRowsTakeEffect
  intro s hs
  refine ⟨?slewEnd, ?leap, ?expiry, ?announce, ?ppsMissing, ?rateSave, ?rtc⟩
  case slewEnd => exact next_clockEvent (f := slewEnd) hs
  case leap => exact next_clockEvent (f := leapSecond) hs
  case expiry => exact next_clockEvent (f := validExpiry) hs
  case announce => exact next_clockEvent (f := announceTimeout) hs
  case ppsMissing => exact next_clockEvent (f := ppsMissing) hs
  case rateSave => exact next_powered (f := rateSave) hs
  case rtc => exact next_powered (f := rtcWrite) hs

/-- Settles O32: the row is the servo's update, followed by billing time. -/
theorem servoUpdateTakesEffect : Obligations.ServoUpdateTakesEffect := by
  unfold Obligations.ServoUpdateTakesEffect
  intro s hs
  exact next_clockEvent (f := servoUpdate) hs

/-- Settles O33: each row is its effect under its guard; the capture has none. -/
theorem ptpAndPulseRowsTakeEffect : Obligations.PtpAndPulseRowsTakeEffect := by
  unfold Obligations.PtpAndPulseRowsTakeEffect
  intro s port msg dt falling high ingress egress residence m
  refine ⟨fun hs => ⟨?message, ?sync, ?announce, ?evaluation, ?edge, ?pulse⟩, fun hs => ?forward, rfl⟩
  case message => exact next_clockEvent hs
  case sync => exact next_powered hs
  case announce => exact next_powered hs
  case evaluation => exact next_clockEvent hs
  case edge => exact next_clockEvent (f := ppsIn dt falling) hs
  case pulse => exact next_powered (f := ppsPulse dt high) hs
  case forward => exact next_awake hs

end Sys2Proof.Machine
end

section
/-! The registers that the rows of the frame write: one lemma an effect, and the guards they run under. -/
namespace Sys2Proof.Machine.State

variable (s : State) {a : Nat}

/-! Effects on hidden counters and triggers alone. -/

@[simp] theorem rd_rateSave : s.rateSave.rd a = s.rd a := by
  unfold rateSave; simp only [rd_ite, rd_setV, ite_self]

@[simp] theorem rd_rtcWrite : s.rtcWrite.rd a = s.rd a := by
  unfold rtcWrite; simp only [rd_ite, rd_setV, ite_self]

@[simp] theorem rd_ppsPulse (dt : Nat) (high : Bool) : (ppsPulse dt high s).rd a = s.rd a := by
  unfold ppsPulse; simp only [rd_ite, rd_setV, ite_self]

@[simp] theorem rd_powerDelivery (p : Partition) (n : Nat) : (powerDelivery p n s).rd a = s.rd a := by
  unfold powerDelivery; simp only [rd_ite, rd_trigger, ite_self]

@[simp] theorem rd_seqTimeout (n : Nat) : (seqTimeout n s).rd a = s.rd a := by
  unfold seqTimeout; simp only [rd_ite, rd_trigger, ite_self]

@[simp] theorem rd_safeCauseCleared (n : Nat) : (safeCauseCleared n s).rd a = s.rd a := by
  unfold safeCauseCleared; simp only [rd_ite, rd_trigger, ite_self]

@[simp] theorem rd_vehicleLift (n : Nat) : (vehicleLift n s).rd a = s.rd a := by
  unfold vehicleLift; simp only [rd_ite, rd_trigger, ite_self]

/-! Effects on registers: every other one reads as before. -/

theorem rd_rtcLost_ne (h : a ≠ Reg.pwrClk) : s.rtcLost.rd a = s.rd a := by
  unfold rtcLost; simp only [rd_hwb_ne _ _ _ h, rd_setV]

/-- A capture of TIM_NOW writes the master's own four slots. -/
theorem rd_nowCapture_ne (m : Master) (dt : Nat)
    (h : a ∉ [bankKey m Reg.timNowSec, bankKey m Reg.timNowNs, bankKey m Reg.timNowCntLo, bankKey m Reg.timNowCntHi]) :
    (nowCapture m dt s).rd a = s.rd a := by
  simp only [List.mem_cons, List.not_mem_nil, or_false, not_or] at h
  obtain ⟨hsec, hns, hlo, hhi⟩ := h
  unfold nowCapture wrB
  simp only [rd_ite, rd_setV, rd_wr_ne _ _ hhi, rd_wr_ne _ _ hlo, rd_wr_ne _ _ hns, rd_wr_ne _ _ hsec, ite_self]

theorem rd_diodeFault_ne (n : Nat) (lo : Int) (h : a ≠ Reg.stlPilot n) : (diodeFault n lo s).rd a = s.rd a := by
  unfold diodeFault; simp only [rd_ite, rd_trigger, rd_hwf_ne _ _ _ _ h, rd_hwb_ne _ _ _ h, ite_self]

theorem rd_dutyApply_ne (n : Nat) (h : a ≠ Reg.stlPilot n) : (dutyApply n s).rd a = s.rd a := by
  unfold dutyApply; simp only [rd_vehicleLift, rd_ite, rd_hwf_ne _ _ _ _ h, rd_setV, ite_self]

theorem rd_pilotDutyApply_ne (n : Nat) (h : a ≠ Reg.stlPilot n) : (pilotDutyApply n s).rd a = s.rd a := by
  unfold pilotDutyApply; simp only [rd_ite, rd_dutyApply_ne _ _ h, ite_self]

theorem rd_insRun_ne (n : Nat) (h : a ≠ Reg.stlIns n) : (insRun n s).rd a = s.rd a := by
  unfold insRun; simp only [rd_ite, rd_hwb_ne _ _ _ h, rd_setV, ite_self]

theorem rd_cableCheckStart_ne (p : Partition) (n : Nat) (h : a ≠ Reg.stlIns n) : (cableCheckStart p n s).rd a = s.rd a := by
  unfold cableCheckStart; simp only [rd_ite, rd_insRun_ne _ _ h, rd_setV, ite_self]

theorem rd_sdpRequest_ne (n : Nat) (tls : Bool) (h : a ≠ Reg.vhsSess n) : (sdpRequest n tls s).rd a = s.rd a := by
  unfold sdpRequest; simp only [rd_ite, rd_hwb_ne _ _ _ h, rd_setV, ite_self]

theorem rd_tcpTimeout_ne (n k : Nat) (h : a ≠ Reg.vhsErrCnt n) : (tcpTimeout n k s).rd a = s.rd a := by
  unfold tcpTimeout; simp only [rd_ite, rd_trigger, rd_inc_ne _ _ _ _ h, ite_self]

theorem rd_retriesRestore_ne (o : Nat) (h : a ≠ Reg.drvOutStat o) : (retriesRestore o s).rd a = s.rd a := by
  unfold retriesRestore; simp only [rd_ite, rd_hwf_ne _ _ _ _ h, ite_self]

theorem rd_noiseTimeout_ne (p : Nat) (h : a ≠ Reg.mlkPErr p) : (noiseTimeout p s).rd a = s.rd a := by
  unfold noiseTimeout; simp only [rd_ite, rd_inc_ne _ _ _ _ h, ite_self]

/-! Guards. -/

section Guards
variable {s} {f : State → State} (hf : (f s).rd a = s.rd a)
include hf

theorem rd_powered : (powered f s).rd a = s.rd a := by
  unfold powered; split_ifs <;> [rfl; exact hf]

theorem rd_blockRuns (code : Nat) : (blockRuns code f s).rd a = s.rd a := by
  unfold blockRuns; split_ifs <;> [rfl; exact hf]

theorem rd_engine : (engine f s).rd a = s.rd a := by
  unfold engine; split_ifs <;> [rfl; exact hf]

theorem rd_linkEvent : (linkEvent f s).rd a = s.rd a := by
  unfold linkEvent; split_ifs <;> [rfl; exact hf]

end Guards

/-- A row reads outside the registers it writes as the state it answers does. -/
theorem rd_of_next {s t u : State} {i : Instr} {l : List Nat} (hu : exec i s = .next u) (hr : ∀ a ∉ l, u.rd a = s.rd a)
    (ht : exec i s = .next t) : ∀ a : Nat, a ∉ l → t.rd a = s.rd a := by
  rw [hu] at ht
  cases ht
  exact hr

/-- Settles O60, row by row. -/
theorem rowsWriteTheirOwnRegisters : Obligations.RowsWriteTheirOwnRegisters := by
  unfold Obligations.RowsWriteTheirOwnRegisters
  intro s t m n o p l k lo b
  simp only [List.forall_mem_cons]
  exact ⟨
    rd_of_next rfl fun _ _ => rd_powered (rd_rateSave s),
    rd_of_next rfl fun _ _ => rd_powered (rd_rtcWrite s),
    rd_of_next rfl fun _ _ => rd_powered (rd_ppsPulse s k b),
    rd_of_next rfl fun _ _ => rd_blockRuns (rd_powerDelivery s p n) 6,
    rd_of_next rfl fun _ h => rd_engine (rd_tcpTimeout_ne s n k (List.ne_of_not_mem_cons h)),
    rd_of_next rfl fun _ _ => rd_engine (rd_seqTimeout s n),
    rd_of_next rfl fun _ _ => rd_blockRuns (rd_safeCauseCleared s n) 6,
    rd_of_next rfl fun _ h => rd_rtcLost_ne s (List.ne_of_not_mem_cons h),
    rd_of_next rfl fun _ h => rd_nowCapture_ne s m k h,
    rd_of_next rfl fun _ h => rd_blockRuns (rd_diodeFault_ne s n lo (List.ne_of_not_mem_cons h)) 6,
    rd_of_next rfl fun _ h => rd_blockRuns (rd_pilotDutyApply_ne s n (List.ne_of_not_mem_cons h)) 6,
    rd_of_next rfl fun _ h => rd_blockRuns (rd_cableCheckStart_ne s p n (List.ne_of_not_mem_cons h)) 6,
    rd_of_next rfl fun _ h => rd_engine (rd_sdpRequest_ne s n b (List.ne_of_not_mem_cons h)),
    rd_of_next rfl fun _ h => rd_blockRuns (rd_retriesRestore_ne s o (List.ne_of_not_mem_cons h)) 8,
    rd_of_next rfl fun _ h => rd_linkEvent (rd_noiseTimeout_ne s l (List.ne_of_not_mem_cons h)),
    List.forall_mem_nil _⟩

end Sys2Proof.Machine.State
end

section
/-! The commands of the inputs, the seal, the saves and the import limit, and a write to a metering slot, that a lone master has taken
(R110, R118, R149 to R153, R172, R173). -/
namespace Sys2Proof.Machine
open State

/-- A command row whose group's owner acts on the code and the argument that were written. -/
theorem commands_of_owner {i : Instr} {m : Master} {a : Nat} {g : BitVec 16} {code : Nat} {arg : BitVec 40} {eff : State → State}
    {owner : Nat → Nat → State → State} (howner : ∀ v seq s, cmdEffect a v m false false seq s = owner (codeOf v) (argOf v) s)
    (ht : targetOf a = .at .cmd) (hc : code < 256)
    (hx : ∀ s, exec i s = .next (command m a g.toNat code arg.toNat false s))
    (he : ∀ t, owner code arg.toNat t = eff t) : Commands i (cmdWrite m a g code arg false) (fun _ => eff) := by
  refine commands_of hx ht fun seq t => ?_
  rw [howner, codeOf_cmd code arg hc, argOf_cmd]
  exact he t

theorem cmdEffect_metWinCmd (v : Nat) (m : Master) (both ok : Bool) (seq : Nat) (s : State) :
    cmdEffect Reg.metWinCmd v m both ok seq s = winEffect (codeOf v) (argOf v) s := rfl

theorem cmdEffect_metCtlCmd (v : Nat) (m : Master) (both ok : Bool) (seq : Nat) (s : State) :
    cmdEffect Reg.metCtlCmd v m both ok seq s = metCtlEffect (codeOf v) m s := rfl

theorem cmdEffect_alcCmd (v : Nat) (m : Master) (both ok : Bool) (seq : Nat) (s : State) :
    cmdEffect Reg.alcCmd v m both ok seq s = alcEffect (codeOf v) (argOf v) s := rfl

theorem commands_metWinCmd {i : Instr} {m : Master} {g : BitVec 16} {code : Nat} {arg : BitVec 40} {eff : State → State}
    (hc : code < 256) (hx : ∀ s, exec i s = .next (command m Reg.metWinCmd g.toNat code arg.toNat false s))
    (he : ∀ t, winEffect code arg.toNat t = eff t) : Commands i (cmdWrite m Reg.metWinCmd g code arg false) (fun _ => eff) :=
  commands_of_owner (fun v => cmdEffect_metWinCmd v m false false) (by decide) hc hx he

theorem commands_metCtlCmd {i : Instr} {m : Master} {g : BitVec 16} {code : Nat} {arg : BitVec 40} {eff : State → State}
    (hc : code < 256) (hx : ∀ s, exec i s = .next (command m Reg.metCtlCmd g.toNat code arg.toNat false s))
    (he : ∀ t, metCtlEffect code m t = eff t) : Commands i (cmdWrite m Reg.metCtlCmd g code arg false) (fun _ => eff) :=
  commands_of_owner (owner := fun c _ => metCtlEffect c m) (fun v => cmdEffect_metCtlCmd v m false false) (by decide) hc hx he

theorem commands_alcCmd {i : Instr} {m : Master} {g : BitVec 16} {code : Nat} {arg : BitVec 40} {eff : State → State}
    (hc : code < 256) (hx : ∀ s, exec i s = .next (command m Reg.alcCmd g.toNat code arg.toNat false s))
    (he : ∀ t, alcEffect code arg.toNat t = eff t) : Commands i (cmdWrite m Reg.alcCmd g code arg false) (fun _ => eff) :=
  commands_of_owner (fun v => cmdEffect_alcCmd v m false false) (by decide) hc hx he

/-- SET_LIMIT in the fields of its argument: LIMIT_W, and the margin above it. -/
theorem alcEffect_setLimit (arg : Nat) (s : State) :
    alcEffect 1 arg s = limitSet (arg % 2 ^ 24) (arg / 2 ^ 24 % 2 ^ 16) (limitItems s.now s) := by
  rw [alcEffect, if_pos rfl, field_low, field]

/-- RELEASE_PAUSE in the field of its argument: the stall. -/
theorem alcEffect_releasePause (arg : Nat) (s : State) :
    alcEffect 2 arg s = if s.bit Reg.alcPaused (arg % 2 ^ 5) then (hardRelease (arg % 2 ^ 5) 3 s).evt 0x620 17 else s := by
  rw [alcEffect, if_neg (by decide), field_low]

/-- A write that meets a shared slot meets it in the register map. -/
theorem accessOf_of_targetOf_rw {a : Nat} {f : List FieldRule} (ht : targetOf a = .at (.rw f)) : accessOf a = some (.rw f) := by
  unfold targetOf at ht
  split at ht
  · cases ht
  · split at ht
    case h_5 =>
      split at ht
      · cases ht
      · split at ht <;> simp_all
    all_goals cases ht

/-- What a committed write sets off does not depend on the slot's own entry of the values to restore, which it drops first. -/
theorem cfgSet_drop_cfgOld (a old : Nat) (s : State) :
    cfgSet a old { s with cfgOld := s.cfgOld.filter fun e => decide (e.1 ≠ a) } = cfgSet a old s := by
  have hdrop : (s.cfgOld.filter fun e => decide (e.1 ≠ a)).filter (fun e => decide (e.1 ≠ a))
      = s.cfgOld.filter fun e => decide (e.1 ≠ a) := by
    simp only [List.filter_filter, Bool.and_self]
  unfold cfgSet
  dsimp only
  rw [hdrop]

/-- Settles O20: a command row is its write, whose group's owner has the stated effect of its code; a write to a shared slot sets its
fields, and then does what the slot's owner does. -/
theorem meterCommandsTakeEffect : Obligations.MeterCommandsTakeEffect := by
  unfold Obligations.MeterCommandsTakeEffect
  intro m g arg
  refine ⟨?readmit, ?takeOut, ?sealed, ?sealOpen, ?sealClose, ?save, ?limit, ?pause⟩
  case readmit =>
    exact commands_metWinCmd (by decide) (fun _ => rfl) fun t => by rw [winEffect, if_pos rfl, field_low]
  case takeOut =>
    exact commands_metWinCmd (by decide) (fun _ => rfl) fun t => by rw [winEffect, if_neg (by decide), field_low]
  case sealed =>
    rintro a v ⟨f, ht⟩
    refine writes_of (fun _ => rfl) (by simp [ht]) fun t => ?_
    exact slotEffect_rw ht (accessOf_of_targetOf_rw ht) (fun old u => (cfgSet_drop_cfgOld a old u).symm) v.toNat m false t
  case sealOpen => exact commands_metCtlCmd (by decide) (fun _ => rfl) fun _ => rfl
  case sealClose => exact commands_metCtlCmd (by decide) (fun _ => rfl) fun _ => rfl
  case save => exact commands_metCtlCmd (by decide) (fun _ => rfl) fun _ => rfl
  case limit => exact commands_alcCmd (by decide) (fun _ => rfl) (alcEffect_setLimit arg.toNat)
  case pause => exact commands_alcCmd (by decide) (fun _ => rfl) (alcEffect_releasePause arg.toNat)

end Sys2Proof.Machine
end

section
/-! The rows of the winnower: samples, fault conditions of the inputs, and the overcurrent decision (R100 to R117, R190). -/
namespace Sys2Proof.Machine
open State

theorem next_blockRuns {code : Nat} {f : State → State} {s : State} (hs : s.runs code) :
    (Host.Outcome.next (blockRuns code f s) : Host.Outcome State Fault Refusal) = .next (f s) :=
  congrArg _ (blockRuns_of hs)

/-- Settles O34: the part is supplied, so each row is its effect. -/
theorem sampleRowsTakeEffect : Obligations.SampleRowsTakeEffect := by
  unfold Obligations.SampleRowsTakeEffect
  intro s freq n dt samples input m line hs
  constructor
  case left => exact next_powered (f := mainSamples freq n dt samples) hs
  case right => exact next_powered (f := fastSample input m dt line) hs

/-- Settles O35: the MET block runs, so each row is its effect. -/
theorem inputRowsTakeEffect : Obligations.InputRowsTakeEffect := by
  unfold Obligations.InputRowsTakeEffect
  intro s input run dly k hs
  refine ⟨?stuck, ?unstuck, ?lock, ?lost, ?clock, ?clockBack, ?qualified, ?overcurrent⟩
  case stuck => exact next_blockRuns (f := inputStuck input run) hs
  case unstuck => exact next_blockRuns (f := stuckCleared input) hs
  case lock => exact next_blockRuns (f := manchesterLock input dly) hs
  case lost => exact next_blockRuns (f := lockLost input) hs
  case clock => exact next_blockRuns (f := mclkFault k) hs
  case clockBack => exact next_blockRuns (f := mclkClear k) hs
  case qualified => exact next_blockRuns (f := qualificationComplete input) hs
  case overcurrent => exact next_blockRuns (f := overcurrentDecision input) hs

end Sys2Proof.Machine
end

section
/-! Settled energy (R137, R139): what a settlement adds to which accumulator, and that a step keeps the sums. -/
namespace Sys2Proof.Machine

namespace Mp

variable (p : Mp)

@[simp] theorem length_add_acc (a v : Nat) : (p.add a v).acc.length = p.acc.length := List.length_set

theorem getD_add_acc_self {a : Nat} (v : Nat) (ha : a < p.acc.length) :
    (p.add a v).acc.getD a 0 = (p.acc.getD a 0 + v) % 2 ^ 96 := by
  simp only [add]
  rw [List.getD_eq_getElem?_getD, List.getElem?_set_self ha, Option.getD_some]

theorem getD_add_acc_ne {a k : Nat} (v : Nat) (hk : k ≠ a) : (p.add a v).acc.getD k 0 = p.acc.getD k 0 := by
  simp only [add]
  rw [List.getD_eq_getElem?_getD, List.getElem?_set_ne hk.symm, ← List.getD_eq_getElem?_getD]

/-- The accumulator of the direction total that a settled amount goes to. -/
def dirTotal (n : Int) : Nat := if 0 < n then 0 else 1

/-- The accumulator of the tariff register in force, in the direction of a settled amount. -/
def tariffReg (n : Int) : Nat := (if 0 < n then 2 else 10) + p.tar % 8

theorem dirTotal_lt (n : Int) : dirTotal n < 2 := by unfold dirTotal; split <;> decide

theorem tariffReg_range (n : Int) : 2 ≤ p.tariffReg n ∧ p.tariffReg n < 18 := by unfold tariffReg; split <;> omega

@[simp] theorem settle_zero : p.settle 0 = p := rfl

theorem settle_of_ne_zero {n : Int} (hn : n ≠ 0) : p.settle n = (p.add (dirTotal n) n.natAbs).add (p.tariffReg n) n.natAbs := by
  rcases Int.lt_or_gt_of_ne hn with h | h
  · have h0 : ¬ 0 < n := by omega
    simp only [settle, dirTotal, tariffReg, if_neg h0, if_pos h]
  · have ha : n.toNat = n.natAbs := by omega
    simp only [settle, dirTotal, tariffReg, if_pos h, ha]

/-- A settlement changes the accumulators only. -/
theorem settle_eq_acc (n : Int) : p.settle n = { p with acc := (p.settle n).acc } := by
  by_cases hn : n = 0
  · rw [hn, settle_zero]
  · rw [settle_of_ne_zero p hn]
    rfl

theorem length_settle_acc (n : Int) : (p.settle n).acc.length = p.acc.length := by
  by_cases hn : n = 0
  · rw [hn, settle_zero]
  · simp only [settle_of_ne_zero p hn, length_add_acc]

/-- The direction total and the tariff register in force each gain the settled amount, once. -/
theorem getD_settle_acc_of_mem {n : Int} {k : Nat} (hl : p.acc.length = 23) (hn : n ≠ 0) (hk : k = dirTotal n ∨ k = p.tariffReg n) :
    (p.settle n).acc.getD k 0 = (p.acc.getD k 0 + n.natAbs) % 2 ^ 96 := by
  have hd := dirTotal_lt n
  obtain ⟨hr, hr'⟩ := p.tariffReg_range n
  rw [settle_of_ne_zero p hn]
  rcases hk with rfl | rfl
  · rw [getD_add_acc_ne _ _ (by omega), getD_add_acc_self _ _ (by omega)]
  · rw [getD_add_acc_self _ _ (by rw [length_add_acc]; omega), getD_add_acc_ne _ _ (by omega)]

/-- Every other accumulator stays. -/
theorem getD_settle_acc_of_not_mem {n : Int} {k : Nat} (hk : n = 0 ∨ (k ≠ dirTotal n ∧ k ≠ p.tariffReg n)) :
    (p.settle n).acc.getD k 0 = p.acc.getD k 0 := by
  by_cases hn : n = 0
  · rw [hn, settle_zero]
  · obtain ⟨hd, hr⟩ := hk.resolve_left hn
    rw [settle_of_ne_zero p hn, getD_add_acc_ne _ _ hr, getD_add_acc_ne _ _ hd]

end Mp

open State

/-- What a step can do: the block idles, or the front command leaves the queue and its row keeps what every row keeps. -/
theorem step_next_cases {s t : State} (h : step s = .next t) : t = s ∨ ∃ rest, Keeps { s with pending := rest } t := by
  cases hp : s.pending with
  | nil =>
    rw [stepRunsTheFrontCommand.2 s hp] at h
    cases h
    exact .inl rfl
  | cons c rest =>
    rw [stepRunsTheFrontCommand.1 s c rest hp] at h
    obtain ⟨u, hu, hk⟩ := exec_keeps c { s with pending := rest }
    rw [hu] at h
    cases h
    exact .inr ⟨rest, hk⟩

/-- A step keeps the energy even: the queue is no part of it. -/
theorem step_keeps_even {s t : State} (hs : s.even = true) (h : step s = .next t) : t.even = true := by
  obtain rfl | ⟨rest, hk⟩ := step_next_cases h
  · exact hs
  · exact hk.even hs

/-- Settles O4: a settlement is two additions, to the direction total and to the tariff register in force; every row of the table keeps
the sums (`exec_keeps`), and so does a step. -/
theorem settledEnergyGoesToOneTariff : Obligations.SettledEnergyGoesToOneTariff := by
  unfold Obligations.SettledEnergyGoesToOneTariff
  constructor
  case left =>
    intro p n k hl
    exact ⟨p.settle_eq_acc n, (p.length_settle_acc n).trans hl, fun hn hk => p.getD_settle_acc_of_mem hl hn hk,
      fun hk => p.getD_settle_acc_of_not_mem hk⟩
  case right => exact fun s t hs h => step_keeps_even hs h

/-- Settles O5: no table lists an entry and no metering point has accumulated. -/
theorem resetIsCanonicalAndEven : Obligations.ResetIsCanonicalAndEven := by
  unfold Obligations.ResetIsCanonicalAndEven
  have htables : State.reset.canonical = true := rfl
  have henergy : MetEven State.reset.mps State.reset.mpCap State.reset.capSet State.reset.saveSet State.reset.copies
      State.reset.saving :=
    { mps := nil_even, caps := nil_even, capSet := nil_even, saveSet := by rintro _ ⟨⟩, copies := by rintro _ ⟨⟩,
      saving := by rintro _ ⟨⟩ }
  exact ⟨htables, metEven_iff.mpr henergy⟩

end Sys2Proof.Machine
end

section
/-! The rows of settlement, analysis, publication, saves and the metrology core (R137 to R147). -/
namespace Sys2Proof.Machine
open State

/-- Settles O36: the rows of the metering core run where the part is supplied, the lockstep error where it settles; each is then its
effect. -/
theorem energyRowsTakeEffect : Obligations.EnergyRowsTakeEffect := by
  unfold Obligations.EnergyRowsTakeEffect
  intro s mp ok
  refine ⟨fun hs => ⟨?settlement, ?publication, ?save, ?saved, ?restored, ?analysis⟩, fun hs => ?lockstep⟩
  case settlement => exact next_powered (f := settlementEnd mp.val) hs
  case publication => exact next_powered hs
  case save => exact next_powered (f := periodicSave) hs
  case saved => exact next_powered (f := saveComplete ok) hs
  case restored => exact next_powered (f := coreRestored) hs
  case analysis => exact next_powered hs
  case lockstep => exact next_awake (f := coreTrial) hs

end Sys2Proof.Machine
end

section
/-! The grants of an instant (R167): the shares of one class, and the classes in turn. -/
namespace Sys2Proof.Machine

variable {i : AlcIn} {a : Nat} {ts : List Nat}

/-! The shares of one class. -/

/-- The largest L that fits does fit: each bit is taken only where it does. -/
theorem sum_alcL_le : (ts.map fun t => min (i.want t) (alcL i ts a * (i.stall t).weight)).sum ≤ a := by
  unfold alcL
  refine List.foldlRecOn (motive := fun l => (ts.map fun t => min (i.want t) (l * (i.stall t).weight)).sum ≤ a) _ _ (by simp)
    fun l hl k _ => ?_
  split
  case isTrue h => exact h
  case isFalse => exact hl

theorem sum_alcShare_le : ((alcShare i ts a).map (·.2)).sum ≤ a := by
  simp only [alcShare, List.map_map, Function.comp_def]
  split
  case isTrue h => exact h
  case isFalse => exact sum_alcL_le

theorem alcShare_bound {e : Nat × Nat} (he : e ∈ alcShare i ts a) : e.1 ∈ ts ∧ e.2 ≤ i.want e.1 := by
  obtain ⟨t, ht, rfl⟩ := List.mem_map.mp he
  refine ⟨ht, ?_⟩
  dsimp only
  split
  case isTrue => exact le_rfl
  case isFalse => exact min_le_left _ _

theorem alcDrop_mem (h : ts ≠ []) : alcDrop i ts ∈ ts := by
  unfold alcDrop
  refine List.foldlRecOn (motive := (· ∈ ts)) _ _ ?first fun d hd t ht => ?later
  case first => simp [List.headD_eq_head?_getD, List.head?_eq_some_head h]
  case later => split <;> assumption

/-- What the shares and the stalls dropped of a class keep to: the power at hand, what a stall wants, and nothing for a stall dropped. -/
structure ClassShares (i : AlcIn) (a : Nat) (ts : List Nat) (r : List (Nat × Nat) × List Nat) : Prop where
  sum_le : (r.1.map (·.2)).sum ≤ a
  bound : ∀ e ∈ r.1, e.1 ∈ ts ∧ e.2 ≤ i.want e.1
  held : ∀ d ∈ r.2, d ∈ ts ∧ ∀ e ∈ r.1, e.1 ≠ d

theorem classShares_alcShare : ClassShares i a ts (alcShare i ts a, []) :=
  ⟨sum_alcShare_le, fun _ => alcShare_bound, by simp⟩

/-- A stall that is dropped keeps out of the shares of those that stay. -/
theorem ClassShares.drop {d : Nat} {r : List (Nat × Nat) × List Nat} (hd : d ∈ ts)
    (h : ClassShares i a (ts.filter fun t => decide (t ≠ d)) r) : ClassShares i a ts (r.1, d :: r.2) where
  sum_le := h.sum_le
  bound e he := ⟨List.mem_of_mem_filter (h.bound e he).1, (h.bound e he).2⟩
  held := by
    have hne : ∀ e ∈ r.1, e.1 ≠ d := fun e he => by simpa using List.of_mem_filter (h.bound e he).1
    rintro c (_ | ⟨_, hc⟩)
    · exact ⟨hd, hne⟩
    · exact ⟨List.mem_of_mem_filter (h.held c hc).1, (h.held c hc).2⟩

theorem alcClassLoop_shares (n : Nat) (ts : List Nat) : ClassShares i a ts (alcClassLoop i a n ts) := by
  induction n generalizing ts with
  | zero => exact ⟨Nat.zero_le a, by simp [alcClassLoop], by simp [alcClassLoop]⟩
  | succ n ih =>
    simp only [alcClassLoop]
    split
    case isTrue => exact classShares_alcShare
    case isFalse hmin =>
      have hts : ts ≠ [] := by rintro rfl; exact hmin rfl
      exact (ih _).drop (alcDrop_mem hts)

/-! Shares enter the list of grants. -/

/-- The grants after the shares `x` of a class. -/
def withShares (x : List (Nat × Nat)) (g : List Nat) : List Nat := x.foldl (fun g e => g.set e.1 e.2) g

theorem length_withShares (x : List (Nat × Nat)) (g : List Nat) : (withShares x g).length = g.length :=
  List.foldlRecOn (motive := fun u : List Nat => u.length = g.length) x _ rfl fun _ hu _ _ => List.length_set.trans hu

theorem sum_set_le (g : List Nat) (k v : Nat) : (g.set k v).sum ≤ g.sum + v := by
  induction g generalizing k with
  | nil => simp
  | cons w g ih =>
    cases k with
    | zero => simp only [List.set_cons_zero, List.sum_cons]; omega
    | succ k => simpa only [List.set_cons_succ, List.sum_cons, Nat.add_assoc] using Nat.add_le_add_left (ih k) w

theorem sum_withShares_le (x : List (Nat × Nat)) (g : List Nat) : (withShares x g).sum ≤ g.sum + (x.map (·.2)).sum := by
  induction x generalizing g with
  | nil => exact le_rfl
  | cons e x ih =>
    calc (withShares x (g.set e.1 e.2)).sum
        ≤ (g.set e.1 e.2).sum + (x.map (·.2)).sum := ih _
      _ ≤ g.sum + e.2 + (x.map (·.2)).sum := Nat.add_le_add_right (sum_set_le g e.1 e.2) _
      _ = g.sum + ((e :: x).map (·.2)).sum := Nat.add_assoc ..

theorem getD_set_eq (g : List Nat) (k v t : Nat) :
    (g.set k v).getD t 0 = if k = t ∧ t < g.length then v else g.getD t 0 := by
  simp only [List.getD_eq_getElem?_getD, List.getElem?_set]
  by_cases hk : k = t <;> by_cases ht : t < g.length <;> simp [hk, ht]

/-- A grant stays, or is a share of its stall. -/
theorem getD_withShares_cases (x : List (Nat × Nat)) (g : List Nat) (t : Nat) :
    (withShares x g).getD t 0 = g.getD t 0 ∨ ∃ e ∈ x, e.1 = t ∧ (withShares x g).getD t 0 = e.2 := by
  refine List.foldlRecOn (motive := fun u : List Nat => u.getD t 0 = g.getD t 0 ∨ ∃ e ∈ x, e.1 = t ∧ u.getD t 0 = e.2) x _ (.inl rfl)
    fun u hu e he => ?_
  rw [getD_set_eq]
  split
  case isTrue h => exact .inr ⟨e, he, h.1, rfl⟩
  case isFalse => exact hu

theorem getD_withShares_of_not_mem {x : List (Nat × Nat)} {g : List Nat} {t : Nat} (h : ∀ e ∈ x, e.1 ≠ t) :
    (withShares x g).getD t 0 = g.getD t 0 :=
  (getD_withShares_cases x g t).resolve_right fun ⟨e, he, ht, _⟩ => h e he ht

/-! The classes in turn. -/

/-- The stalls of class `7 - c` that take part (R167). -/
def alcClassStalls (i : AlcIn) (c : Nat) : List Nat :=
  (List.range 32).filter fun t => decide ((i.stall t).cls = 7 - c) && decide (0 < (i.stall t).demand) && !(i.stall t).paused

theorem cls_of_mem_alcClassStalls {c t : Nat} (h : t ∈ alcClassStalls i c) : (i.stall t).cls = 7 - c := by
  have := List.of_mem_filter h
  simp only [Bool.and_eq_true, decide_eq_true_eq] at this
  exact this.1.1

/-- One class of `alcGrants`: the power left, the grants and the HELD stalls. -/
def alcClassStep (i : AlcIn) (acc : Nat × List Nat × List Nat) (c : Nat) : Nat × List Nat × List Nat :=
  let r := alcClassLoop i acc.1 33 (alcClassStalls i c)
  (acc.1 - (r.1.map (·.2)).sum, withShares r.1 acc.2.1, acc.2.2 ++ r.2)

theorem alcGrants_eq (i : AlcIn) (a : Nat) :
    alcGrants i a = ((List.range 8).foldl (alcClassStep i) (a, List.replicate 32 0, [])).2 := by
  simp only [alcGrants, Prod.mk.eta]
  rfl

/-- What holds after the first `n` classes: grants and the power left are within `a`, and a stall of a later class is untouched. -/
structure GrantsAfter (i : AlcIn) (a n : Nat) (acc : Nat × List Nat × List Nat) : Prop where
  length_eq : acc.2.1.length = 32
  sum_le : acc.2.1.sum + acc.1 ≤ a
  le_want : ∀ t, acc.2.1.getD t 0 ≤ i.want t
  held_zero : ∀ t ∈ acc.2.2, acc.2.1.getD t 0 = 0
  later : ∀ t, (i.stall t).cls + n < 8 → t ∉ acc.2.2 ∧ acc.2.1.getD t 0 = 0

theorem grantsAfter_zero (i : AlcIn) (a : Nat) : GrantsAfter i a 0 (a, List.replicate 32 0, []) := by
  have hzero (t : Nat) : (List.replicate 32 0).getD t 0 = 0 := by
    rw [List.getD_eq_getElem?_getD, List.getElem?_getD_replicate_default_eq]
  exact ⟨List.length_replicate, by simp, fun t => (hzero t).trans_le (Nat.zero_le _), fun t _ => hzero t,
    fun t _ => ⟨List.not_mem_nil, hzero t⟩⟩

theorem GrantsAfter.step {n : Nat} {acc : Nat × List Nat × List Nat} (h : GrantsAfter i a n acc) (hn : n < 8) :
    GrantsAfter i a (n + 1) (alcClassStep i acc n) := by
  obtain ⟨hlen, hsum, hwant, hheld, hlater⟩ := h
  have hloop : ClassShares i acc.1 (alcClassStalls i n) (alcClassLoop i acc.1 33 (alcClassStalls i n)) := alcClassLoop_shares 33 _
  unfold alcClassStep
  generalize alcClassLoop i acc.1 33 (alcClassStalls i n) = r at hloop
  obtain ⟨hr, hbound, hdrop⟩ := hloop
  have hfresh : ∀ t ∈ alcClassStalls i n, t ∉ acc.2.2 ∧ acc.2.1.getD t 0 = 0 := fun t ht =>
    hlater t (by rw [cls_of_mem_alcClassStalls ht]; omega)
  have hother : ∀ t ∉ alcClassStalls i n, (withShares r.1 acc.2.1).getD t 0 = acc.2.1.getD t 0 := fun t ht =>
    getD_withShares_of_not_mem fun e he h => ht (h ▸ (hbound e he).1)
  refine ⟨(length_withShares ..).trans hlen, ?sum, fun t => ?want, fun t ht => ?held, fun t ht => ?later⟩
  case sum =>
    have := sum_withShares_le r.1 acc.2.1
    dsimp only
    omega
  case want =>
    obtain hsame | ⟨e, he, rfl, hshare⟩ := getD_withShares_cases r.1 acc.2.1 t
    · exact hsame.trans_le (hwant t)
    · exact hshare.trans_le (hbound e he).2
  case held =>
    obtain hbefore | hnow := List.mem_append.mp ht
    · exact (hother t fun hmem => (hfresh t hmem).1 hbefore).trans (hheld t hbefore)
    · obtain ⟨hmem, hnone⟩ := hdrop t hnow
      exact (getD_withShares_of_not_mem hnone).trans (hfresh t hmem).2
  case later =>
    have hmem : t ∉ alcClassStalls i n := fun hmem => by
      have := cls_of_mem_alcClassStalls hmem
      omega
    obtain ⟨hnotHeld, hzero⟩ := hlater t (by omega)
    exact ⟨fun hin => (List.mem_append.mp hin).elim hnotHeld fun hnow => hmem (hdrop t hnow).1, (hother t hmem).trans hzero⟩

theorem grantsAfter_foldl (i : AlcIn) (a n : Nat) (hn : n ≤ 8) :
    GrantsAfter i a n ((List.range n).foldl (alcClassStep i) (a, List.replicate 32 0, [])) := by
  induction n with
  | zero => exact grantsAfter_zero i a
  | succ n ih =>
    rw [List.range_succ, List.foldl_append]
    exact (ih (by omega)).step (by omega)

/-- Settles O56: the invariant of the classes in turn, after all eight. -/
theorem grantsNeverExceedAvailablePower : Obligations.GrantsNeverExceedAvailablePower := by
  unfold Obligations.GrantsNeverExceedAvailablePower
  intro i a
  rw [alcGrants_eq]
  obtain ⟨hlen, hsum, hwant, hheld, -⟩ := grantsAfter_foldl i a 8 le_rfl
  exact ⟨hlen, (Nat.le_add_right ..).trans hsum, fun t => ⟨hwant t, hheld t⟩⟩

end Sys2Proof.Machine
end

section
/-! The headroom of an instant (R168): the increases, in the order of descending class and ascending stall number. -/
namespace Sys2Proof.Machine

variable {i : AlcIn} {s : State} {x : List Nat}

/-! The order: where the classes are 0 to 7, every stall once. -/

theorem mem_alcOrder (h : ∀ t, (i.stall t).cls ≤ 7) {t : Nat} : t ∈ alcOrder i ↔ t ∈ List.range 32 := by
  simp only [alcOrder, List.mem_flatMap, List.mem_filter, decide_eq_true_eq]
  exact ⟨fun ⟨_, _, ht, _⟩ => ht, fun ht => ⟨7 - (i.stall t).cls, List.mem_range.mpr (by omega), ht, by have := h t; omega⟩⟩

theorem nodup_alcOrder (i : AlcIn) : (alcOrder i).Nodup := by
  refine List.nodup_flatMap.mpr ⟨fun _ _ => List.nodup_range.filter _, List.pairwise_iff_forall_sublist.mpr fun {b c} hbc => ?_⟩
  have hlt : b < c := List.pairwise_iff_forall_sublist.mp List.pairwise_lt_range hbc
  have hc : c < 8 := List.mem_range.mp (hbc.subset (by simp))
  intro t hb hc'
  simp only [List.mem_filter, decide_eq_true_eq] at hb hc'
  omega

theorem alcOrder_perm_range (h : ∀ t, (i.stall t).cls ≤ 7) : (alcOrder i).Perm (List.range 32) :=
  (List.perm_ext_iff_of_nodup (nodup_alcOrder i) List.nodup_range).mpr fun _ => mem_alcOrder h

/-! One stall. -/

/-- The grant in force of a stall. -/
def grantNow (s : State) (t : Nat) : Nat := s.fd (Reg.alcGrant t) 0 24

/-- One stall of `alcHeadroom`: the headroom left, the grants and the HELD stalls. -/
def headroomStep (i : AlcIn) (x : List Nat) (s : State) (acc : Nat × List Nat × List Nat) (t : Nat) : Nat × List Nat × List Nat :=
  if x.getD t 0 ≤ grantNow s t then acc
  else if x.getD t 0 - grantNow s t ≤ acc.1 then (acc.1 - (x.getD t 0 - grantNow s t), acc.2.1, acc.2.2)
  else
    (0, acc.2.1.set t (grantNow s t + acc.1),
      if grantNow s t + acc.1 < (i.stall t).min_ then acc.2.2 ++ [t] else acc.2.2)

theorem alcHeadroom_eq (i : AlcIn) (room : Nat) (x held : List Nat) (s : State) :
    State.alcHeadroom i room x held s = ((alcOrder i).foldl (headroomStep i x s) (room, x, held)).2 := by
  simp only [State.alcHeadroom, Prod.mk.eta]
  rfl

/-- The grants and the headroom left after a stall: it is no increase, its increase fits, or it takes what headroom is left. -/
theorem headroomStep_cases (acc : Nat × List Nat × List Nat) (t : Nat) :
    (x.getD t 0 ≤ grantNow s t ∧ headroomStep i x s acc t = acc) ∨
    (grantNow s t < x.getD t 0 ∧ (headroomStep i x s acc t).2.1 = acc.2.1 ∧
      (headroomStep i x s acc t).1 + (x.getD t 0 - grantNow s t) = acc.1) ∨
    (grantNow s t + acc.1 < x.getD t 0 ∧ (headroomStep i x s acc t).2.1 = acc.2.1.set t (grantNow s t + acc.1) ∧
      (headroomStep i x s acc t).1 = 0) := by
  unfold headroomStep
  split_ifs with hdown hfits
  · exact .inl ⟨hdown, rfl⟩
  · exact .inr (.inl ⟨by omega, rfl, Nat.sub_add_cancel hfits⟩)
  all_goals exact .inr (.inr ⟨by omega, rfl, rfl⟩)

theorem getD_headroomStep_ne (acc : Nat × List Nat × List Nat) {t u : Nat} (h : t ≠ u) :
    (headroomStep i x s acc t).2.1.getD u 0 = acc.2.1.getD u 0 := by
  obtain ⟨-, heq⟩ | ⟨-, heq, -⟩ | ⟨-, heq, -⟩ := headroomStep_cases (i := i) (x := x) (s := s) acc t
  · rw [heq]
  · rw [heq]
  · rw [heq, getD_set_eq, if_neg fun hu => h hu.1]

/-- What a stall gains, the headroom loses. -/
theorem headroomStep_spends {acc : Nat × List Nat × List Nat} {t : Nat} (h : acc.2.1.getD t 0 = x.getD t 0) :
    (headroomStep i x s acc t).2.1.getD t 0 - grantNow s t + (headroomStep i x s acc t).1 ≤ acc.1 := by
  obtain ⟨hle, heq⟩ | ⟨-, heq, hroom⟩ | ⟨hlt, heq, hroom⟩ := headroomStep_cases (i := i) (x := x) (s := s) acc t
  · rw [heq]
    omega
  · rw [heq]
    omega
  · have hin : t < acc.2.1.length := by
      by_contra hout
      rw [List.getD_eq_default _ _ (by omega)] at h
      omega
    rw [heq, hroom, getD_set_eq, if_pos ⟨rfl, hin⟩]
    omega

/-! All stalls of an order. -/

theorem getD_headroom_foldl_of_not_mem (l : List Nat) (acc : Nat × List Nat × List Nat) {u : Nat} (h : u ∉ l) :
    (l.foldl (headroomStep i x s) acc).2.1.getD u 0 = acc.2.1.getD u 0 :=
  List.foldlRecOn (motive := fun b : Nat × List Nat × List Nat => b.2.1.getD u 0 = acc.2.1.getD u 0) l _ rfl
    fun b hb _ ht => (getD_headroomStep_ne b (ne_of_mem_of_not_mem ht h)).trans hb

/-- The increases over the grants in force and the headroom left are together no more than the headroom at hand. -/
theorem sum_increases_le (l : List Nat) (hl : l.Nodup) (acc : Nat × List Nat × List Nat)
    (h : ∀ t ∈ l, acc.2.1.getD t 0 = x.getD t 0) :
    (l.map fun t => (l.foldl (headroomStep i x s) acc).2.1.getD t 0 - grantNow s t).sum
      + (l.foldl (headroomStep i x s) acc).1 ≤ acc.1 := by
  induction l generalizing acc with
  | nil => simp
  | cons t l ih =>
    obtain ⟨ht, hl⟩ := List.nodup_cons.mp hl
    have hrest : ∀ u ∈ l, (headroomStep i x s acc t).2.1.getD u 0 = x.getD u 0 := fun u hu =>
      (getD_headroomStep_ne acc (ne_of_mem_of_not_mem hu ht).symm).trans (h u (List.mem_cons_of_mem _ hu))
    have hlater := ih hl _ hrest
    have hnow : _ ≤ acc.1 := headroomStep_spends (i := i) (s := s) (h t List.mem_cons_self)
    rw [List.foldl_cons, List.map_cons, List.sum_cons, getD_headroom_foldl_of_not_mem l _ ht]
    omega

/-- How the grant `y` of a stall that was to get `want` lies to its grant in force `old`. -/
structure GrantWithin (want old y : Nat) : Prop where
  le_want : y ≤ want
  min_le : min want old ≤ y
  eq_of_le : want ≤ old → y = want

theorem grantWithin_self (want old : Nat) : GrantWithin want old want := ⟨le_rfl, min_le_left .., fun _ => rfl⟩

theorem headroomStep_within {acc : Nat × List Nat × List Nat} (t : Nat) {u : Nat}
    (h : GrantWithin (x.getD u 0) (grantNow s u) (acc.2.1.getD u 0)) :
    GrantWithin (x.getD u 0) (grantNow s u) ((headroomStep i x s acc t).2.1.getD u 0) := by
  obtain ⟨-, heq⟩ | ⟨-, heq, -⟩ | ⟨hlt, heq, -⟩ := headroomStep_cases (i := i) (x := x) (s := s) acc t
  · rwa [heq]
  · rwa [heq]
  · rw [heq, getD_set_eq]
    split
    case isTrue hu =>
      obtain ⟨rfl, -⟩ := hu
      exact ⟨by omega, by omega, by omega⟩
    case isFalse => exact h

theorem headroom_foldl_within (l : List Nat) (room : Nat) (held : List Nat) (u : Nat) :
    GrantWithin (x.getD u 0) (grantNow s u) ((l.foldl (headroomStep i x s) (room, x, held)).2.1.getD u 0) :=
  List.foldlRecOn (motive := fun b : Nat × List Nat × List Nat => GrantWithin (x.getD u 0) (grantNow s u) (b.2.1.getD u 0)) l _
    (grantWithin_self ..) fun _ hb t _ => headroomStep_within t hb

/-- The allocator gathers classes of three bits; a stall that it does not hold is of class 0. -/
theorem cls_stall_alcGather_le (s : State) (k t : Nat) : ((s.alcGather k).stall t).cls ≤ 7 := by
  unfold AlcIn.stall State.alcGather
  by_cases ht : t < 32
  · rw [List.getD_eq_getElem _ _ (by simpa using ht), List.getElem_map]
    exact Nat.le_of_lt_succ (field_lt ..)
  · rw [List.getD_eq_default _ _ (by simpa using ht)]
    exact Nat.zero_le 7

/-- Settles O57: the order takes every stall once, so what the stalls gain together is what the headroom loses. -/
theorem increasesStayWithinHeadroom : Obligations.IncreasesStayWithinHeadroom := by
  unfold Obligations.IncreasesStayWithinHeadroom
  refine ⟨fun s i room x held hcls => ?_, cls_stall_alcGather_le⟩
  rw [alcHeadroom_eq]
  constructor
  case left =>
    rw [← ((alcOrder_perm_range hcls).map _).sum_eq]
    exact (Nat.le_add_right ..).trans (sum_increases_le _ (nodup_alcOrder i) (room, x, held) fun _ _ => rfl)
  case right =>
    intro t
    obtain ⟨hle, hmin, heq⟩ := headroom_foldl_within (i := i) (s := s) (x := x) (alcOrder i) room held t
    exact ⟨hle, hmin, heq⟩

end Sys2Proof.Machine
end

section
/-! The rows of the hub balance and of the allocator (R159 to R172). -/
namespace Sys2Proof.Machine
open State

/-- Settles O37: the rows of the balance are their effects where its block runs, those of the allocator where the part is supplied. -/
theorem balanceAndLimitRowsTakeEffect : Obligations.BalanceAndLimitRowsTakeEffect := by
  unfold Obligations.BalanceAndLimitRowsTakeEffect
  intro s frame g
  refine ⟨fun hs => ⟨?tick, ?frame, ?period⟩, fun hs => ⟨?instant, ?commit, ?resume⟩⟩
  case tick => exact next_blockRuns (f := fun t => balSentOut t (State.balanceTick t)) hs
  case frame => exact next_blockRuns (f := balanceFrame frame) hs
  case period => exact next_blockRuns (f := State.balancePeriodEnd g.val) hs
  case instant => exact next_powered (f := State.allocationInstant) hs
  case commit => exact next_powered (f := State.grantCommit) hs
  case resume => exact next_powered (f := State.hardPauseResume) hs

end Sys2Proof.Machine
end

section
/-! The rows of power quality and of the lost fast path (R180 to R189, R291). -/
namespace Sys2Proof.Machine
open State

/-- Settles O38: the rows of power quality are their effects where the MET block runs, that of the lost fast path where the part is
supplied. -/
theorem powerQualityRowsTakeEffect : Obligations.PowerQualityRowsTakeEffect := by
  unfold Obligations.PowerQualityRowsTakeEffect
  intro s input mp
  refine ⟨fun hs => ⟨?peak, ?halfCycle, ?invalid⟩, fun hs => ?fastPath⟩
  case peak => exact next_blockRuns (f := State.peakClose input.val) hs
  case halfCycle => exact next_blockRuns (f := State.halfCycleEnd mp.val) hs
  case invalid => exact next_blockRuns (f := State.pqInvalidTimeout mp.val) hs
  case fastPath => exact next_powered (f := fastPathTimeout) hs

end Sys2Proof.Machine
end

section
/-! The bands of a pilot plateau (R208) and of a proximity resistance (R212). -/
namespace Sys2Proof.Machine

/-- The plateaus of R208 meet one another and leave nothing out. -/
theorem pilotClass_bands (v : Int) :
    (1050 ≤ v ∧ pilotClass v = 0) ∨ (750 ≤ v ∧ v < 1050 ∧ pilotClass v = 1) ∨ (450 ≤ v ∧ v < 750 ∧ pilotClass v = 2) ∨
    (150 ≤ v ∧ v < 450 ∧ pilotClass v = 3) ∨ (-150 ≤ v ∧ v < 150 ∧ pilotClass v = 4) ∨ (v < -150 ∧ pilotClass v = 6) := by
  unfold pilotClass
  split_ifs <;> omega

/-- The resistances of R212 meet one another and leave nothing out. -/
theorem ppCode_bands (r : Nat) :
    (r < 50 ∧ ppCode r = 6) ∨ (50 ≤ r ∧ r < 150 ∧ ppCode r = 4) ∨ (150 ≤ r ∧ r < 400 ∧ ppCode r = 3) ∨
    (400 ≤ r ∧ r < 1000 ∧ ppCode r = 2) ∨ (1000 ≤ r ∧ r < 2700 ∧ ppCode r = 1) ∨ (2700 ≤ r ∧ r < 4500 ∧ ppCode r = 5) ∨
    (4500 ≤ r ∧ ppCode r = 0) := by
  unfold ppCode
  split_ifs <;> omega

/-- Settles O15: every value lies in one band, and every band has a number of its own. -/
theorem pilotTablesAreAsStated : Obligations.PilotTablesAreAsStated := by
  unfold Obligations.PilotTablesAreAsStated
  refine ⟨?classA, ?classB, ?classC, ?classD, ?classE, ?invalid, fun r => ?proximity, rfl, rfl, rfl, rfl, rfl, rfl, rfl⟩
  case proximity =>
    have hbands := ppCode_bands r
    refine ⟨?_, ?_, ?_, ?_, ?_, ?_, ?_⟩ <;> omega
  all_goals
    intro v
    have hbands := pilotClass_bands v
    omega

end Sys2Proof.Machine
end

section
/-! The commands of a stall and a write of its configuration that a lone master has taken (R200, R216). -/
namespace Sys2Proof.Machine
open State

/-! The two slots in the register map. -/

theorem pageEntry_stlCmd : ∀ n : Fin 32, pageEntry (Reg.stlCmd n / 0x1000) = some (.stl, n.val) := by decide

theorem pageEntry_stlCfg : ∀ n : Fin 32, pageEntry (Reg.stlCfg n / 0x1000) = some (.stl, n.val) := by decide

theorem targetOf_stlCmd : ∀ n : Fin 32, targetOf (Reg.stlCmd n) = .at .cmd := by decide

/-- STL_CFG is laid out alike on the pages of all stalls. -/
theorem targetOf_stlCfg_eq : ∀ n : Fin 32, targetOf (Reg.stlCfg n) = targetOf (Reg.stlCfg 0) := by decide

theorem targetOf_stlCfg_rw (n : Fin 32) : ∃ f, targetOf (Reg.stlCfg n) = .at (.rw f) :=
  (⟨_, rfl⟩ : ∃ f, targetOf (Reg.stlCfg 0) = .at (.rw f)).imp fun _ h => (targetOf_stlCfg_eq n).trans h

/-! What their owner does. -/

theorem cmdEffect_stlCmd (n : Fin 32) (v : Nat) (m : Master) (both ok : Bool) (seq : Nat) (s : State) :
    cmdEffect (Reg.stlCmd n) v m both ok seq s = stlEffect n (codeOf v) (argOf v) s := by
  simp only [cmdEffect, pageEntry_stlCmd]

theorem cfgSet_stlCfg (n : Fin 32) (old : Nat) (s : State) :
    cfgSet (Reg.stlCfg n) old s =
      demandRefresh n (stlCfgSet n old { s with cfgOld := s.cfgOld.filter fun e => decide (e.1 ≠ Reg.stlCfg n) }) := by
  have hoff : Reg.stlCfg n % 0x1000 = 0x40 := by unfold Reg.stlCfg; omega
  simp only [cfgSet, pageEntry_stlCfg, hoff, if_true]

theorem slotEffect_stlCfg (n : Fin 32) (v : Nat) (m : Master) (ok : Bool) (s : State) :
    slotEffect (Reg.stlCfg n) v m ok s = slotSet (Reg.stlCfg n) v (fun old t => demandRefresh n (stlCfgSet n old t)) s := by
  obtain ⟨f, ht⟩ := targetOf_stlCfg_rw n
  exact slotEffect_rw ht (accessOf_of_targetOf_rw ht) (cfgSet_stlCfg n) v m ok s

/-- A stall command row, by what the stall makes of its code and argument. -/
theorem commands_stlCmd {i : Instr} {m : Master} {n : Fin 32} {g : BitVec 16} {code : Nat} {arg : BitVec 40} {eff : State → State}
    (hc : code < 256) (hx : ∀ s, exec i s = .next (command m (Reg.stlCmd n) g.toNat code arg.toNat false s))
    (he : ∀ t, stlEffect n code arg.toNat t = eff t) : Commands i (cmdWrite m (Reg.stlCmd n) g code arg false) (fun _ => eff) :=
  commands_of_owner (fun v => cmdEffect_stlCmd n v m false false) (targetOf_stlCmd n) hc hx he

/-- ON in the field of its argument: AUTH_REF. -/
theorem stlEffect_on (n arg : Nat) (s : State) : stlEffect n 1 arg s = stlTrig n (.on (arg % 2 ^ 32)) s := by
  rw [stlEffect, field_low]

/-- LIMIT in the field of its argument: SESSION_LIMIT_W. -/
theorem stlEffect_limit (n arg : Nat) (s : State) : stlEffect n 2 arg s = stlTrig n (.limit (arg % 2 ^ 24)) s := by
  rw [stlEffect, field_low]

/-- Settles O21: a command row is its write to STL_CMD, and the stall answers its code with the stated trigger; the write of STL_CFG
sets its fields, and then does what the stall does. -/
theorem stallCommandsTakeEffect : Obligations.StallCommandsTakeEffect := by
  unfold Obligations.StallCommandsTakeEffect
  intro m n g arg v
  refine ⟨?on, ?limit, ?pause, ?off, ?takeOut, ?return_, ?cfg⟩
  case on => exact commands_stlCmd (by decide) (fun _ => rfl) (stlEffect_on n arg.toNat)
  case limit => exact commands_stlCmd (by decide) (fun _ => rfl) (stlEffect_limit n arg.toNat)
  case pause => exact commands_stlCmd (by decide) (fun _ => rfl) fun _ => rfl
  case off => exact commands_stlCmd (by decide) (fun _ => rfl) fun _ => rfl
  case takeOut => exact commands_stlCmd (by decide) (fun _ => rfl) fun _ => rfl
  case return_ => exact commands_stlCmd (by decide) (fun _ => rfl) fun _ => rfl
  case cfg =>
    obtain ⟨f, ht⟩ := targetOf_stlCfg_rw n
    exact writes_of (fun _ => rfl) (by simp [ht]) (slotEffect_stlCfg n v.toNat m false)

end Sys2Proof.Machine
end

section
/-! The pilot rows and the other rows of a stall (R199 to R214), and the rows of the front ends and of the partitions (R202, R245 to
R248, R510 to R513). -/
namespace Sys2Proof.Machine
open State

/-- Settles O39: the STL block runs, so each row is its effect. -/
theorem pilotRowsTakeEffect : Obligations.PilotRowsTakeEffect := by
  unfold Obligations.PilotRowsTakeEffect
  intro s stall hi lo hs
  refine ⟨?accepted, ?invalid, ?diode, ?duty, ?withdraw⟩
  case accepted => exact next_blockRuns (f := pilotAccepted stall hi lo) hs
  case invalid => exact next_blockRuns (f := pilotInvalid stall) hs
  case diode => exact next_blockRuns (f := State.diodeFault stall lo) hs
  case duty => exact next_blockRuns (f := State.pilotDutyApply stall) hs
  case withdraw => exact next_blockRuns (f := State.pilotBWithdraw stall) hs

/-- Settles O40: the STL block runs, so each row is its effect. -/
theorem stallRowsTakeEffect : Obligations.StallRowsTakeEffect := by
  unfold Obligations.StallRowsTakeEffect
  intro s stall ohms held p hs
  refine ⟨?ppCode, ?ppTimeout, ?overdraw, ?idleProof, ?cleared, ?checkStart, ?checkEnd, ?delivery, ?bridge⟩
  case ppCode => exact next_blockRuns (f := ppAccepted stall ohms) hs
  case ppTimeout => exact next_blockRuns (f := State.ppTimeout stall) hs
  case overdraw => exact next_blockRuns (f := State.overdraw stall) hs
  case idleProof => exact next_blockRuns (f := fun t => State.idleProof stall held (gleanProof stall held t)) hs
  case cleared => exact next_blockRuns (f := State.safeCauseCleared stall) hs
  case checkStart => exact next_blockRuns (f := cableCheckStart p stall) hs
  case checkEnd => exact next_blockRuns (f := cableCheckEnd p stall) hs
  case delivery => exact next_blockRuns (f := powerDelivery p stall) hs
  case bridge => exact next_blockRuns (f := insToggle stall) hs

/-- A row of the partitions or of a reader where no device reset holds them (R529). -/
theorem next_inService {f : State → State} {s : State} (hs : s.serving) :
    (Host.Outcome.next (inService f s) : Host.Outcome State Fault Refusal) = .next (f s) :=
  congrArg _ (inService_of hs)

/-- Settles O42: the device settles writes, or serves, so each row is its effect. -/
theorem frontEndAndPartitionRowsTakeEffect : Obligations.FrontEndAndPartitionRowsTakeEffect := by
  unfold Obligations.FrontEndAndPartitionRowsTakeEffect
  intro s stall pp ok p cause
  refine ⟨fun hs => ⟨?pilot, ?modem, ?reload, ?healthy, ?supervision, ?failure, ?takeover, ?unavailable⟩,
    fun hs => ⟨?stage, ?rebuilt⟩⟩
  case pilot => exact next_awake (f := pilotFault stall pp) hs
  case modem => exact next_awake (f := modemFault stall) hs
  case reload => exact next_awake (f := State.engineReload stall ok) hs
  case healthy => exact next_awake (f := frontEndsHealthy stall) hs
  case supervision => exact next_awake (f := State.supervision (partIx p)) hs
  case failure => exact next_awake (f := partTrial (partIx p) cause) hs
  case takeover => exact next_awake (f := fun t => updNext (takeOver stall t)) hs
  case unavailable => exact next_awake (f := State.partitionsUnavailable) hs
  case stage => exact next_inService (f := fun t => updNext (partStage (partIx p) t)) hs
  case rebuilt => exact next_inService (f := fun t => updNext (State.ringRebuilt (partIx p) t)) hs

end Sys2Proof.Machine
end

section
/-! The rows of the vehicle sessions: link matching, protocol choice and the session in progress (R228 to R247). -/
namespace Sys2Proof.Machine
open State

/-- A row of the vehicle sessions while they run (R248, R370). -/
theorem next_engine {f : State → State} {s : State} (hs : s.sessionsRun) :
    (Host.Outcome.next (engine f s) : Host.Outcome State Fault Refusal) = .next (f s) :=
  congrArg _ (engine_of hs)

/-- Settles O41: the vehicle sessions run, so each row is its effect. -/
theorem vehicleRowsTakeEffect : Obligations.VehicleRowsTakeEffect := by
  unfold Obligations.VehicleRowsTakeEffect
  refine ⟨fun s stall runId atten evccid tls offers hs => ⟨?slacParam, ?slacMatch, ?slacTimeout, ?sdp, ?sdpTimeout, ?protocol⟩,
    fun s stall r hs => ?record,
    fun s stall req p r chain retx hs => ⟨?request, ?response, ?certificate, ?deadline, ?grace, ?tcp, ?sequence⟩⟩
  case slacParam => exact next_engine (f := slacParam stall runId atten) hs
  case slacMatch => exact next_engine (f := slacMatch stall runId evccid) hs
  case slacTimeout => exact next_engine (f := State.slacTimeout stall) hs
  case sdp => exact next_engine (f := State.sdpRequest stall tls) hs
  case sdpTimeout => exact next_engine (f := State.sdpTimeout stall) hs
  case protocol => exact next_engine (f := appProtocol stall offers) hs
  case record => exact next_engine (f := tlsRecord stall r) hs
  case request => exact next_engine (f := State.v2gRequest stall req) hs
  case response => exact next_engine (f := State.partitionResponse p stall r) hs
  case certificate => exact next_engine (f := certVerified stall chain) hs
  case deadline => exact next_engine (f := State.authDeadline stall) hs
  case grace => exact next_engine (f := stopGrace stall) hs
  case tcp => exact next_engine (f := State.tcpTimeout stall retx) hs
  case sequence => exact next_engine (f := seqTimeout stall) hs

end Sys2Proof.Machine
end

section
/-! The commands of the output banks and of the safety functions that a lone master has taken (R255, R272, R288, R300, R301, R311). -/
namespace Sys2Proof.Machine
open State

/-! The two command groups in the register map, and what their owners do. -/

theorem pageEntry_drvCmd : ∀ b : Fin 8, pageEntry (Reg.drvCmd b / 0x1000) = some (.drv, b.val) := by decide

theorem targetOf_drvCmd : ∀ b : Fin 8, targetOf (Reg.drvCmd b) = .at .cmd := by decide

theorem cmdEffect_drvCmd (b : Fin 8) (v : Nat) (m : Master) (both ok : Bool) (seq : Nat) (s : State) :
    cmdEffect (Reg.drvCmd b) v m both ok seq s = drvEffect b (codeOf v) (argOf v) s := by
  simp only [cmdEffect, pageEntry_drvCmd]

theorem cmdEffect_safCmd (v : Nat) (m : Master) (both ok : Bool) (seq : Nat) (s : State) :
    cmdEffect Reg.safCmd v m both ok seq s = safEffect (codeOf v) (argOf v) s := rfl

/-- A command row of an output bank, by what the bank makes of its code and argument. -/
theorem commands_drvCmd {i : Instr} {m : Master} {b : Fin 8} {g : BitVec 16} {code : Nat} {arg : BitVec 40} {eff : State → State}
    (hc : code < 256) (hx : ∀ s, exec i s = .next (command m (Reg.drvCmd b) g.toNat code arg.toNat false s))
    (he : ∀ t, drvEffect b code arg.toNat t = eff t) : Commands i (cmdWrite m (Reg.drvCmd b) g code arg false) (fun _ => eff) :=
  commands_of_owner (fun v => cmdEffect_drvCmd b v m false false) (targetOf_drvCmd b) hc hx he

/-- A command row of the safety functions, by what the island makes of its code and argument. -/
theorem commands_safCmd {i : Instr} {m : Master} {g : BitVec 16} {code : Nat} {arg : BitVec 40} {eff : State → State}
    (hc : code < 256) (hx : ∀ s, exec i s = .next (command m Reg.safCmd g.toNat code arg.toNat false s))
    (he : ∀ t, safEffect code arg.toNat t = eff t) : Commands i (cmdWrite m Reg.safCmd g code arg false) (fun _ => eff) :=
  commands_of_owner (fun v => cmdEffect_safCmd v m false false) (by decide) hc hx he

/-! The bank's commands in the field of their argument: the output of the bank (R255). -/

theorem field_low_three (arg : Nat) : field arg 0 3 = arg % 8 := field_low arg 3

theorem drvEffect_on (b arg : Nat) (s : State) : drvEffect b 1 arg s = setDemand (8 * b + arg % 8) true s := by
  rw [drvEffect, field_low_three]

theorem drvEffect_off (b arg : Nat) (s : State) :
    drvEffect b 2 arg s = pulseDrop (8 * b + arg % 8) (setDemand (8 * b + arg % 8) false s) := by
  rw [drvEffect, field_low_three]

theorem drvEffect_reenable (b arg : Nat) (s : State) : drvEffect b 3 arg s = State.reenable (8 * b + arg % 8) s := by
  rw [drvEffect, field_low_three]

/-! The island's commands in the field of their argument: the trip input, the stall and the output (R288, R300, R301). ACTIVATE and
DISCARD have no argument (R311). -/

theorem safEffect_activate (arg : Nat) (s : State) : safEffect 1 arg s = setActivate s := by rw [safEffect]

theorem safEffect_discard (arg : Nat) (s : State) : safEffect 2 arg s = setDiscard s := by rw [safEffect]

theorem safEffect_ackTrip (arg : Nat) (s : State) : safEffect 3 arg s = State.ackTrip (arg % 2 ^ 4) s := by
  rw [safEffect, field_low]

theorem safEffect_proofNow (arg : Nat) (s : State) : safEffect 4 arg s = proofStart (arg % 2 ^ 5) s := by
  rw [safEffect, field_low]

theorem safEffect_releaseOut (arg : Nat) (s : State) : safEffect 5 arg s = State.releaseOut (arg % 2 ^ 6) s := by
  rw [safEffect, field_low]

/-- Settles O22: a command row is its write, whose group's owner has the stated effect of its code. -/
theorem driveAndSafetyCommandsTakeEffect : Obligations.DriveAndSafetyCommandsTakeEffect := by
  unfold Obligations.DriveAndSafetyCommandsTakeEffect
  intro m b g arg
  refine ⟨?on, ?off, ?reenable, ?activate, ?discard, ?ackTrip, ?proofNow, ?releaseOut⟩
  case on => exact commands_drvCmd (by decide) (fun _ => rfl) (drvEffect_on b arg.toNat)
  case off => exact commands_drvCmd (by decide) (fun _ => rfl) (drvEffect_off b arg.toNat)
  case reenable => exact commands_drvCmd (by decide) (fun _ => rfl) (drvEffect_reenable b arg.toNat)
  case activate => exact commands_safCmd (by decide) (fun _ => rfl) (safEffect_activate arg.toNat)
  case discard => exact commands_safCmd (by decide) (fun _ => rfl) (safEffect_discard arg.toNat)
  case ackTrip => exact commands_safCmd (by decide) (fun _ => rfl) (safEffect_ackTrip arg.toNat)
  case proofNow => exact commands_safCmd (by decide) (fun _ => rfl) (safEffect_proofNow arg.toNat)
  case releaseOut => exact commands_safCmd (by decide) (fun _ => rfl) (safEffect_releaseOut arg.toNat)

end Sys2Proof.Machine
end

section
/-! The rows of a drive output and of an output bank (R256 to R274). -/
namespace Sys2Proof.Machine
open State

/-- Settles O43: the rows that the DRV block detects are their effects where it runs, those that the switches and the supplies bring
about where the part is supplied. -/
theorem driveRowsTakeEffect : Obligations.DriveRowsTakeEffect := by
  unfold Obligations.DriveRowsTakeEffect
  constructor
  case left =>
    intro s out ma mv10 tj us uj inPwmOff
    refine ⟨fun hs => ⟨?measurement, ?openLoad, ?fuse, ?retry, ?restore, ?clampEnd, ?pullIn⟩,
      fun hs => ⟨?short, ?thermal, ?clamp⟩⟩
    case measurement => exact next_blockRuns (f := State.currentMeasurement out ma mv10 tj) hs
    case openLoad => exact next_blockRuns (f := State.openLoad out) hs
    case fuse => exact next_blockRuns (f := fuseUpdate out) hs
    case retry => exact next_blockRuns (f := State.retry out) hs
    case restore => exact next_blockRuns (f := State.retriesRestore out) hs
    case clampEnd => exact next_blockRuns (f := State.clampHotEnd out) hs
    case pullIn => exact next_blockRuns (f := State.pullInEnd out) hs
    case short => exact next_powered (f := State.shortCircuit out us) hs
    case thermal => exact next_powered (f := State.thermalShutdown out) hs
    case clamp => exact next_powered (f := State.clampEvent out uj inPwmOff) hs
  case right =>
    intro s bank mv
    refine ⟨fun hs => ⟨?vaux, ?release, ?ground, ?groundBack⟩, fun hs => ?shed⟩
    case vaux => exact next_powered (f := State.vauxCondition bank mv) hs
    case release => exact next_powered (f := vauxRelease bank mv) hs
    case ground => exact next_powered (f := State.gndLoss bank) hs
    case groundBack => exact next_powered (f := State.gndRestored bank) hs
    case shed => exact next_blockRuns (f := State.bankShed bank) hs

end Sys2Proof.Machine
end

section
/-! The rows of the safety functions: trip inputs and outputs, channels, feed, contactors, proof tests, dark pulses and the safety link
(R283 to R312). -/
namespace Sys2Proof.Machine
open State

/-- Settles O44: the part is supplied, so each row is its effect; where a channel is lost or the two disagree, a trial of the SAFETY kind
hears of it. -/
theorem tripInputAndChannelRowsTakeEffect : Obligations.TripInputAndChannelRowsTakeEffect := by
  unfold Obligations.TripInputAndChannelRowsTakeEffect
  intro s k high j verdictsDiffer c osc seq target hs
  refine ⟨?change, ?filter, ?chatter, ?chatterEnd, ?holdEnd, ?exchange, ?disagree, ?loss, ?feed, ?feedLost, ?release⟩
  case change => exact next_powered (f := State.tripInChange k high) hs
  case filter => exact next_powered (f := tripFilter k) hs
  case chatter => exact next_powered (f := State.chatter k) hs
  case chatterEnd => exact next_powered (f := State.chatterEnd k) hs
  case holdEnd => exact next_powered (f := State.tripOutHoldEnd j) hs
  case exchange => exact next_powered (f := State.channelExchange verdictsDiffer) hs
  case disagree => exact next_powered (f := chanTrial State.disagree) hs
  case loss => exact next_powered (f := chanTrial (State.channelLoss (channelIx c) osc)) hs
  case feed => exact next_powered (f := State.feedRecord seq) hs
  case feedLost => exact next_powered (f := State.feedLost) hs
  case release => exact next_powered (f := State.safetyRelease target) hs

/-- Settles O45: the part is supplied, so each row is its effect. -/
theorem contactorRowsTakeEffect : Obligations.ContactorRowsTakeEffect := by
  unfold Obligations.ContactorRowsTakeEffect
  intro s stall dc p causeSeq kind fb open_ out hs
  refine ⟨?residual, ?close, ?openRow, ?feedback, ?closeTimeout, ?openTimeout, ?drive, ?proof, ?overdue⟩
  case residual => exact next_powered (f := residualTrip stall dc) hs
  case close => exact next_powered (f := State.closeRequest p stall causeSeq) hs
  case openRow => exact next_powered (f := State.openRequest p stall kind causeSeq) hs
  case feedback => exact next_powered (f := State.fbChange fb open_) hs
  case closeTimeout => exact next_powered (f := State.fbCloseTimeout stall) hs
  case openTimeout => exact next_powered (f := State.fbOpenTimeout stall) hs
  case drive => exact next_powered (f := State.driveFault out) hs
  case proof => exact next_powered (f := State.proofTest stall) hs
  case overdue => exact next_powered (f := State.proofOverdue stall) hs

/-- Settles O46: the part is supplied, so each row is its effect; a copy is heard on a port that is up alone. -/
theorem darkPulseAndSafetyLinkRowsTakeEffect : Obligations.DarkPulseAndSafetyLinkRowsTakeEffect := by
  unfold Obligations.DarkPulseAndSafetyLinkRowsTakeEffect
  intro s out passed same port frame peer path hs
  refine ⟨?due, ?retry, ?pulseEnd, ?transmit, ?copy, ?pair, ?watchdog⟩
  case due => exact next_powered (f := pulseDue out) hs
  case retry => exact next_powered (f := pulseRetry out) hs
  case pulseEnd => exact next_powered (f := State.pulseEnd out passed) hs
  case transmit => exact next_powered (f := fun t => slSentOut t (slTransmit same t)) hs
  case copy => exact next_powered (f := fun t => if t.portUp port then slCopy port frame t else t) hs
  case pair => exact next_powered (f := slPairTimeout peer) hs
  case watchdog => exact next_powered (f := slWatchdog peer path) hs

end Sys2Proof.Machine
end

section
/-! What an event of a page, the refresh of an output and the trip outputs leave of the registers that a trip of a stall writes (R32,
R253, R290). -/
namespace Sys2Proof.Machine.State

variable {s : State} {a : Nat}

/-! Fields of a slot, under an update of a field that is not among them. -/

theorem fd_hwf_disjoint {b lo w l k : Nat} (v : Nat) (h : lo + w ≤ 48) (d : b = a → l + k ≤ lo ∨ lo + w ≤ l) :
    (s.hwf a lo w v).fd b l k = s.fd b l k := by
  rcases eq_or_ne b a with rfl | hne
  · exact fd_hwf_apart s v h (d rfl)
  · exact fd_hwf_ne s _ _ _ _ _ hne

theorem fd_hwb_disjoint {b i l k : Nat} (x : Bool) (h : i < 48) (d : b = a → l + k ≤ i ∨ i < l) :
    (s.hwb a i x).fd b l k = s.fd b l k :=
  fd_hwf_disjoint _ h d

theorem bit_hwf_disjoint {b lo w j : Nat} (v : Nat) (h : lo + w ≤ 48) (d : b = a → j < lo ∨ lo + w ≤ j) :
    (s.hwf a lo w v).bit b j = s.bit b j := by
  unfold bit
  rw [fd_hwf_disjoint v h d]

/-- Clearing a bit sets none. -/
theorem bit_hwb_false {b i j : Nat} (h : i < 48) (hb : s.bit b j = false) : (s.hwb a i false).bit b j = false := by
  by_cases e : b = a ∧ j = i
  · obtain ⟨rfl, rfl⟩ := e
    exact bit_hwb_same s false h
  · rw [hwb, bit_hwf_disjoint _ h (by omega), hb]

theorem fd_of_rd {t : State} (h : t.rd a = s.rd a) (lo w : Nat) : t.fd a lo w = s.fd a lo w := congrArg (field · lo w) h

theorem bit_of_rd {t : State} (h : t.rd a = s.rd a) (i : Nat) : t.bit a i = s.bit a i := by
  unfold bit
  rw [fd_of_rd h]

/-! Events of a page. -/

/-- A slot beyond the pages of SYS that is neither a PAGE_EVT nor QUE_SUM_EVT: no event of a page moves it (R32, R53, R339). -/
def EventFree (a : Nat) : Prop := 0x10000 ≤ a ∧ a % 0x1000 ≠ 0x18 ∧ a % 0x1000 ≠ 0x50 ∧ a % 0x1000 ≠ 0x58

theorem eventFree_safStStat (n : Nat) : EventFree (Reg.safStStat n) := by unfold EventFree Reg.safStStat; omega

theorem eventFree_safStCause (n : Nat) : EventFree (Reg.safStCause n) := by unfold EventFree Reg.safStCause; omega

theorem eventFree_drvOutStat (o : Nat) : EventFree (Reg.drvOutStat o) := by unfold EventFree Reg.drvOutStat; omega

theorem rd_queEvtSum (h : EventFree a) (p : Nat) : (queEvtSum p s).rd a = s.rd a := by
  obtain ⟨-, -, hlo, hhi⟩ := h
  unfold queEvtSum
  dsimp only
  split_ifs
  · exact rd_hwb_ne s _ _ fun e => hlo (by rw [e, Reg.queSumEvtLo])
  · exact rd_hwb_ne s _ _ fun e => hhi (by rw [e, Reg.queSumEvtHi])
  · rfl

theorem rd_sendMsi_evt (h : EventFree a) : (sendMsi 64 s).rd a = s.rd a := by
  obtain ⟨hlow, -⟩ := h
  unfold sendMsi
  split_ifs
  · exact rd_wrf_ne s _ _ _ (by omega)
  · rfl
  · rfl

theorem rd_evt (h : EventFree a) (p i : Nat) : (evt p i s).rd a = s.rd a := by
  have hraised : (s.wrf (evtAddr p) i 1 1).rd a = s.rd a :=
    rd_wrf_ne s _ _ _ fun e => h.2.1 (by rw [e, evtAddr]; omega)
  unfold evt
  rw [rd_queEvtSum h, rd_ite, rd_sendMsi_evt h, hraised, ite_self]

/-! Trip outputs. -/

theorem rd_tripOutRefresh (h : EventFree a) (ha : a ≠ Reg.safToutStat) (j : Nat) : (tripOutRefresh j s).rd a = s.rd a := by
  unfold tripOutRefresh
  simp only [rd_ite, rd_evt h, rd_hwb_ne _ _ _ ha, rd_setV, ite_self]

theorem rd_tripOuts (h : EventFree a) (ha : a ≠ Reg.safToutStat) : s.tripOuts.rd a = s.rd a :=
  List.foldlRecOn (motive := fun (t : State) => t.rd a = s.rd a) _ _ rfl fun _ ht j _ => (rd_tripOutRefresh h ha j).trans ht

/-! Outputs. -/

/-- Not a slot that the refresh of a drive output writes: DRV_OUT_STAT, DRV_OUT_CNT and the conduction summaries (R279, R282). -/
def OutputFree (a : Nat) : Prop :=
  a ≠ Reg.drvSumOnLo ∧ a ≠ Reg.drvSumOnHi ∧ ∀ o : Nat, a ≠ Reg.drvOutStat o ∧ a ≠ Reg.drvOutCnt o

theorem outputFree_safStStat (n : Nat) : OutputFree (Reg.safStStat n) := by
  unfold OutputFree Reg.safStStat Reg.drvSumOnLo Reg.drvSumOnHi Reg.drvOutStat Reg.drvOutCnt
  exact ⟨by omega, by omega, fun o => ⟨by omega, by omega⟩⟩

theorem outputFree_safStCause (n : Nat) : OutputFree (Reg.safStCause n) := by
  unfold OutputFree Reg.safStCause Reg.drvSumOnLo Reg.drvSumOnHi Reg.drvOutStat Reg.drvOutCnt
  exact ⟨by omega, by omega, fun o => ⟨by omega, by omega⟩⟩

theorem rd_drvRefresh_outputFree (h : OutputFree a) (o : Nat) : (drvRefresh o s).rd a = s.rd a := by
  obtain ⟨hlo, hhi, hout⟩ := h
  obtain ⟨hstat, hcnt⟩ := hout o
  have hsum : a ≠ if o < 32 then Reg.drvSumOnLo else Reg.drvSumOnHi := by split_ifs <;> assumption
  unfold drvRefresh
  simp only [rd_hwb_ne _ _ _ hsum, rd_hwb_ne _ _ _ hstat, rd_hwf_ne _ _ _ _ hstat, rd_ite, rd_setV, rd_inc_ne _ _ _ _ hcnt, ite_self]

theorem rd_dropEnables (h : OutputFree a) (o : Nat) : (dropEnables o s).rd a = s.rd a := by
  have hstat := (h.2.2 o).1
  unfold dropEnables setEnables
  rw [rd_drvRefresh_outputFree h, rd_hwb_ne _ _ _ hstat, rd_hwb_ne _ _ _ hstat, rd_setV]

theorem rd_setDemand (h : OutputFree a) (o : Nat) (on : Bool) : (setDemand o on s).rd a = s.rd a := by
  unfold setDemand
  rw [rd_drvRefresh_outputFree h, rd_hwb_ne _ _ _ (h.2.2 o).1]

/-- A refresh writes STATE and OUT_HIGH, which follow from bits 3 to 15 of DRV_OUT_STAT, and leaves those bits (R281). -/
theorem bit_drvRefresh {o i : Nat} (p : Nat) (h3 : 3 ≤ i) (h16 : i < 16) :
    (drvRefresh p s).bit (Reg.drvOutStat o) i = s.bit (Reg.drvOutStat o) i := by
  have hcnt : Reg.drvOutStat o ≠ Reg.drvOutCnt p := by unfold Reg.drvOutStat Reg.drvOutCnt; omega
  have hsum : Reg.drvOutStat o ≠ if p < 32 then Reg.drvSumOnLo else Reg.drvSumOnHi := by
    unfold Reg.drvOutStat Reg.drvSumOnLo Reg.drvSumOnHi; split_ifs <;> omega
  have hstart (c : Prop) [Decidable c] (t : State) (ht : t.bit (Reg.drvOutStat o) i = s.bit (Reg.drvOutStat o) i) :
      (if c then t else s).bit (Reg.drvOutStat o) i = s.bit (Reg.drvOutStat o) i := by split_ifs <;> [exact ht; rfl]
  unfold drvRefresh hwb
  dsimp only
  rw [bit_hwf_disjoint _ (by omega) fun e => absurd e hsum, bit_hwf_disjoint _ (by omega) fun _ => by omega,
    bit_hwf_disjoint _ (by omega) fun _ => by omega]
  refine hstart _ _ ?_
  rw [bit_setV, bit_setV, bit_setV, inc, bit_hwf_disjoint _ (by omega) fun e => absurd e hcnt]

end Sys2Proof.Machine.State
end

section
/-! The withdrawal of a stall's contactor enables (R297): both channels and the demand leave every output, and the stall has none. -/
namespace Sys2Proof.Machine.State

/-- Both channels have left the output, and DRV has no demand for it (R253). -/
def Released (o : Nat) (s : State) : Prop :=
  s.bit (Reg.drvOutStat o) 4 = false ∧ s.bit (Reg.drvOutStat o) 5 = false ∧ s.bit (Reg.drvOutStat o) 3 = false

namespace Released

variable {s t : State} {o : Nat}

theorem of_rd (h : Released o s) (e : t.rd (Reg.drvOutStat o) = s.rd (Reg.drvOutStat o)) : Released o t := by
  unfold Released at *
  simpa only [bit_of_rd e] using h

theorem hwb_false (h : Released o s) {a i : Nat} (hi : i < 48) : Released o (s.hwb a i false) :=
  ⟨bit_hwb_false hi h.1, bit_hwb_false hi h.2.1, bit_hwb_false hi h.2.2⟩

theorem drvRefresh (h : Released o s) (p : Nat) : Released o (drvRefresh p s) := by
  unfold Released at *
  simpa only [bit_drvRefresh p (show 3 ≤ 4 by decide) (by decide), bit_drvRefresh p (show 3 ≤ 5 by decide) (by decide),
    bit_drvRefresh p (show 3 ≤ 3 by decide) (by decide)] using h

theorem dropEnables (h : Released o s) (p : Nat) : Released o (dropEnables p s) :=
  (((h.of_rd (rd_setV ..)).hwb_false (by decide)).hwb_false (by decide)).drvRefresh p

theorem setDemand_false (h : Released o s) (p : Nat) : Released o (setDemand p false s) := (h.hwb_false (by decide)).drvRefresh p

end Released

variable {s : State} {n : Nat}

/-- One output of a stall is released: its enables, then its demand. -/
def release (o : Nat) (s : State) : State := setDemand o false (dropEnables o s)

theorem released_release (o : Nat) (s : State) : Released o (release o s) := by
  have h4 (t : State) : (t.hwb (Reg.drvOutStat o) 4 false).bit (Reg.drvOutStat o) 4 = false := bit_hwb_same t false (by decide)
  have h5 (t : State) : (t.hwb (Reg.drvOutStat o) 5 false).bit (Reg.drvOutStat o) 5 = false := bit_hwb_same t false (by decide)
  have h3 (t : State) : (t.hwb (Reg.drvOutStat o) 3 false).bit (Reg.drvOutStat o) 3 = false := bit_hwb_same t false (by decide)
  refine Released.drvRefresh ⟨bit_hwb_false (by decide) ?_, bit_hwb_false (by decide) ?_, h3 _⟩ o
  · rw [dropEnables, setEnables, bit_drvRefresh o (by decide) (by decide)]
    exact bit_hwb_false (by decide) (h4 _)
  · rw [dropEnables, setEnables, bit_drvRefresh o (by decide) (by decide)]
    exact h5 _

theorem Released.release {o : Nat} (h : Released o s) (p : Nat) : Released o (release p s) := (h.dropEnables p).setDemand_false p

theorem rd_release {a : Nat} (h : OutputFree a) (o : Nat) : (release o s).rd a = s.rd a := by
  rw [release, rd_setDemand h, rd_dropEnables h]

/-- Every output of a list is released, one after another. -/
def releaseAll (l : List Nat) (s : State) : State := l.foldl (fun t o => release o t) s

theorem rd_releaseAll {a : Nat} (h : OutputFree a) (l : List Nat) : (releaseAll l s).rd a = s.rd a :=
  List.foldlRecOn (motive := fun (t : State) => t.rd a = s.rd a) l _ rfl fun _ ht o _ => (rd_release h o).trans ht

theorem released_releaseAll {l : List Nat} {o : Nat} (ho : o ∈ l) : Released o (releaseAll l s) := by
  obtain ⟨before, after, rfl⟩ := List.append_of_mem ho
  rw [releaseAll, List.foldl_append, List.foldl_cons]
  exact List.foldlRecOn (motive := Released o) after _ (released_release o _) fun _ ht p _ => ht.release p

theorem released_withdraw {o : Nat} (ho : o ∈ s.outsOf n) : Released o (withdraw n s) := by
  have hall : Released o (releaseAll (s.outsOf n) s) := released_releaseAll ho
  have hgone : Released o (((releaseAll (s.outsOf n) s).hwb (Reg.safStStat n) 4 false).hwb (Reg.safStStat n) 3 false) :=
    (hall.hwb_false (by decide)).hwb_false (by decide)
  have hcnt : Reg.drvOutStat o ≠ Reg.safStCnt n := by unfold Reg.drvOutStat Reg.safStCnt; omega
  unfold withdraw
  dsimp only
  split_ifs
  · exact hgone.of_rd (by rw [rd_evt (eventFree_drvOutStat o), rd_inc_ne _ _ _ _ hcnt, rd_setV, rd_setV, rd_setV]; rfl)
  · exact hgone.of_rd (by rw [rd_setV, rd_setV, rd_setV]; rfl)
  · exact hall.of_rd (rd_setV ..)
  · exact hall

theorem enabled_withdraw (n : Nat) (s : State) : (withdraw n s).enabled n = false := by
  have hcleared : (((releaseAll (s.outsOf n) s).hwb (Reg.safStStat n) 4 false).hwb (Reg.safStStat n) 3 false).bit (Reg.safStStat n) 4
      = false := bit_hwb_false (by decide) (bit_hwb_same _ false (by decide))
  have hcnt : Reg.safStStat n ≠ Reg.safStCnt n := by unfold Reg.safStStat Reg.safStCnt; omega
  have hall : (releaseAll (s.outsOf n) s).bit (Reg.safStStat n) 4 = s.bit (Reg.safStStat n) 4 :=
    bit_of_rd (rd_releaseAll (outputFree_safStStat n) _) 4
  unfold withdraw enabled
  dsimp only
  split_ifs with hon
  · rw [bit_of_rd (rd_evt (eventFree_safStStat n) _ _), bit_of_rd (rd_inc_ne _ _ _ _ hcnt), bit_setV, bit_setV, bit_setV]
    exact hcleared
  · rw [bit_setV, bit_setV, bit_setV]
    exact hcleared
  · rw [bit_setV]
    exact hall.trans (Bool.eq_false_of_not_eq_true hon)
  · exact hall.trans (Bool.eq_false_of_not_eq_true hon)

end Sys2Proof.Machine.State
end

section
/-! A trip of a stall in its parts (R303): the withdrawal, the marks of the trip, and what follows them, the lock, the trip outputs and
the events. -/
namespace Sys2Proof.Machine.State

variable {s : State}

/-- The marks of a trip: TRIPPED and its count, the pilot forced to F, no proof test, CODE and DETAIL (R303). -/
def tripMarks (n code detail : Nat) (s : State) : State :=
  let st := Reg.safStStat n
  let s1 := (((((s.hwb st 8 true).hwb st 0 true).inc st 32 16 (decide (code ≠ 0x0D)).toNat).setV .prfStep n 0).hwb Reg.safTripped n
    true).hwb st 5 false
  (s1.hwf (Reg.safStCause n) 0 8 code).hwf (Reg.safStCause n) 8 8 detail

/-- What follows the marks: the lock, the trip outputs and the two events (R303). -/
def tripFollows (n : Nat) (s : State) : State :=
  ((lockRefresh n s).tripOuts.evt (pageOf (Reg.safStStat n)) 16).evt (pageOf Reg.safTripped) 18

/-- The trip is held, and both channels look at its source from now (R305). -/
def tripHeld (n code detail : Nat) (s : State) : State :=
  ({ s with trips := s.trips ++ [Trip.mk n code detail s.counter] }).setV .quiet n s.counter

theorem tripRaw_of_tripped (n code detail cause : Nat) (h : s.tripped n = true) :
    tripRaw n code detail cause s = tripHeld n code detail s := by
  unfold tripRaw
  exact if_pos h

theorem tripRaw_of_not_tripped (n code detail cause : Nat) (h : s.tripped n = false) :
    tripRaw n code detail cause s =
      (tripFollows n (tripMarks n code detail (withdraw n (tripHeld n code detail s)))).trigger n (.safe cause) := by
  unfold tripRaw
  exact if_neg (by simp [h])

/-! The marks. -/

theorem drvOutStat_ne_safStStat (o n : Nat) : Reg.drvOutStat o ≠ Reg.safStStat n := by unfold Reg.drvOutStat Reg.safStStat; omega

theorem safStStat_ne_safTripped (n : Nat) : Reg.safStStat n ≠ Reg.safTripped := by unfold Reg.safStStat Reg.safTripped; omega

theorem safStStat_ne_safStCause (n : Nat) : Reg.safStStat n ≠ Reg.safStCause n := by unfold Reg.safStStat Reg.safStCause; omega

/-- Of the low five bits of SAF_ST_STAT the marks set TRIPPED alone. -/
theorem bit_tripMarks_stat (n code detail : Nat) {j : Nat} (h : j < 5) :
    (tripMarks n code detail s).bit (Reg.safStStat n) j = (s.hwb (Reg.safStStat n) 0 true).bit (Reg.safStStat n) j := by
  have hcause := safStStat_ne_safStCause n
  have htripped := safStStat_ne_safTripped n
  unfold tripMarks
  dsimp only
  rw [bit_hwf_disjoint _ (by decide) fun e => absurd e hcause, bit_hwf_disjoint _ (by decide) fun e => absurd e hcause,
    bit_hwb_apart _ _ (by decide) (by omega), bit_hwb_ne _ _ _ _ htripped, bit_setV, inc,
    bit_hwf_disjoint _ (by decide) fun _ => .inl (by omega)]
  by_cases h0 : j = 0
  · subst h0
    rw [bit_hwb_same _ _ (by decide), bit_hwb_same _ _ (by decide)]
  · rw [bit_hwb_apart _ _ (by decide) h0, bit_hwb_apart _ _ (by decide) h0, bit_hwb_apart _ _ (by decide) (by omega)]

theorem tripped_tripMarks (n code detail : Nat) : (tripMarks n code detail s).tripped n = true :=
  (bit_tripMarks_stat n code detail (by decide)).trans (bit_hwb_same s true (by decide))

theorem enabled_tripMarks (n code detail : Nat) : (tripMarks n code detail s).enabled n = s.enabled n :=
  (bit_tripMarks_stat n code detail (by decide)).trans (bit_hwb_apart s true (by decide) (by decide))

/-- CODE in bits 0 to 7 and DETAIL in bits 8 to 15. -/
theorem fd_tripMarks_cause (n code detail : Nat) :
    (tripMarks n code detail s).fd (Reg.safStCause n) 0 16 = code % 256 + detail % 256 * 256 := by
  unfold tripMarks
  dsimp only
  rw [fd, rd_hwf_same _ _ (by decide), rd_hwf_same _ _ (by decide)]
  unfold setField field
  omega

theorem rd_tripMarks_drvOutStat (n code detail o : Nat) :
    (tripMarks n code detail s).rd (Reg.drvOutStat o) = s.rd (Reg.drvOutStat o) := by
  have hstat := drvOutStat_ne_safStStat o n
  have hcause : Reg.drvOutStat o ≠ Reg.safStCause n := by unfold Reg.drvOutStat Reg.safStCause; omega
  have htripped : Reg.drvOutStat o ≠ Reg.safTripped := by unfold Reg.drvOutStat Reg.safTripped; omega
  unfold tripMarks
  simp only [rd_hwf_ne _ _ _ _ hcause, rd_hwb_ne _ _ _ hstat, rd_hwb_ne _ _ _ htripped, rd_setV, rd_inc_ne _ _ _ _ hstat]

/-! The lock. -/

/-- The lock of a stall moves bit 9 of its SAF_ST_STAT and what its output has, no other register. -/
theorem fd_lockRefresh {n a lo w : Nat} (h : OutputFree a) (d : a = Reg.safStStat n → lo + w ≤ 9 ∨ 9 < lo) :
    (lockRefresh n s).fd a lo w = s.fd a lo w := by
  have hheld (b : Bool) (t : State) : (t.hwb (Reg.safStStat n) 9 b).fd a lo w = t.fd a lo w := fd_hwb_disjoint b (by decide) d
  unfold lockRefresh
  split_ifs
  · refine List.foldlRecOn (motive := fun (t : State) => t.fd a lo w = s.fd a lo w) _ _ rfl fun t ht o _ => ?_
    split_ifs
    · rw [hheld, fd_of_rd (rd_dropEnables h o), ht]
    · rw [hheld, ht]
    · exact ht
  · exact hheld false s

theorem Released.lockRefresh {o : Nat} (h : Released o s) (n : Nat) : Released o (lockRefresh n s) := by
  have hheld (b : Bool) {t : State} (ht : Released o t) : Released o (t.hwb (Reg.safStStat n) 9 b) :=
    ht.of_rd (rd_hwb_ne _ _ _ (drvOutStat_ne_safStStat o n))
  unfold State.lockRefresh
  split_ifs
  · refine List.foldlRecOn (motive := Released o) _ _ h fun t ht p _ => ?_
    split_ifs
    · exact hheld false (ht.dropEnables p)
    · exact hheld true ht
    · exact ht
  · exact hheld false h

/-! What follows the marks. -/

/-- Once the lock is settled, the trip outputs and the two events leave a slot that no event moves. -/
theorem rd_tripFollows {a : Nat} (h : EventFree a) (ha : a ≠ Reg.safToutStat) (n : Nat) :
    (tripFollows n s).rd a = (lockRefresh n s).rd a := by
  rw [tripFollows, rd_evt h, rd_evt h, rd_tripOuts h ha]

theorem bit_tripFollows_stat (n : Nat) {j : Nat} (h : j < 9) :
    (tripFollows n s).bit (Reg.safStStat n) j = s.bit (Reg.safStStat n) j := by
  have hout : Reg.safStStat n ≠ Reg.safToutStat := by unfold Reg.safStStat Reg.safToutStat; omega
  rw [bit_of_rd (rd_tripFollows (eventFree_safStStat n) hout n)]
  unfold bit
  rw [fd_lockRefresh (outputFree_safStStat n) fun _ => .inl (by omega)]

theorem fd_tripFollows_cause (n lo w : Nat) : (tripFollows n s).fd (Reg.safStCause n) lo w = s.fd (Reg.safStCause n) lo w := by
  have hout : Reg.safStCause n ≠ Reg.safToutStat := by unfold Reg.safStCause Reg.safToutStat; omega
  rw [fd_of_rd (rd_tripFollows (eventFree_safStCause n) hout n),
    fd_lockRefresh (outputFree_safStCause n) fun e => absurd e.symm (safStStat_ne_safStCause n)]

theorem Released.tripFollows {o : Nat} (h : Released o s) (n : Nat) : Released o (tripFollows n s) :=
  have hout : Reg.drvOutStat o ≠ Reg.safToutStat := by unfold Reg.drvOutStat Reg.safToutStat; omega
  (h.lockRefresh n).of_rd (rd_tripFollows (eventFree_drvOutStat o) hout n)

/-- Settles O58: the withdrawal releases the outputs, the marks stand in the stall's two registers, and what follows keeps both; a stall
already tripped holds the further code in its list alone. -/
theorem tripWithdrawsTheEnables : Obligations.TripWithdrawsTheEnables := by
  unfold Obligations.TripWithdrawsTheEnables
  intro s n code detail cause
  constructor
  case left =>
    intro h
    rw [tripRaw_of_not_tripped n code detail cause h]
    refine ⟨?tripped, ?enabled, ?cause, fun o ho _ => ?outputs, ?signal⟩
    case tripped => exact (bit_tripFollows_stat n (by decide)).trans (tripped_tripMarks n code detail)
    case enabled =>
      exact (bit_tripFollows_stat n (by decide)).trans ((enabled_tripMarks n code detail).trans (enabled_withdraw n _))
    case cause =>
      rw [rd_trigger, ← field_low, ← fd_tripMarks_cause n code detail]
      exact fd_tripFollows_cause n 0 16
    case outputs =>
      have hwithdrawn : Released o (withdraw n (tripHeld n code detail s)) := released_withdraw ho
      exact (hwithdrawn.of_rd (rd_tripMarks_drvOutStat n code detail o)).tripFollows n
    case signal => exact List.mem_append_right _ (List.mem_singleton_self _)
  case right =>
    intro h
    rw [tripRaw_of_tripped n code detail cause h]
    exact ⟨rfl, rfl⟩

end Sys2Proof.Machine.State
end

section
/-! What the operations of a queue leave of the stored words, and of the other queues (R327 to R334). -/
namespace Sys2Proof.Machine.State

variable {s : State}

/-! Queues read and written. -/

theorem queue_of_queues {t : State} (h : t.queues = s.queues) (p : Nat) : t.queue p = s.queue p := by
  unfold queue
  rw [h]

@[simp] theorem queue_setQueue_same (q : Nat) (x : Queue) : (s.setQueue q x).queue q = x :=
  Tab.get_put_same natLt _ s.queues q x

theorem queue_setQueue_ne {p q : Nat} (x : Queue) (h : p ≠ q) : (s.setQueue q x).queue p = s.queue p :=
  Tab.get_put_ne natLt _ s.queues x h

@[simp] theorem queue_inc (a lo w k p : Nat) : (s.inc a lo w k).queue p = s.queue p :=
  queue_of_queues (inc_queues s a lo w k) p

/-! Messages, events and levels are no part of a queue. -/

@[simp] theorem sendMsi_queues (vec : Nat) : (sendMsi vec s).queues = s.queues := by
  unfold sendMsi
  split_ifs
  · exact wrf_queues s _ _ _ _
  · rfl
  · rfl

@[simp] theorem queEvtSum_queues (page : Nat) : (queEvtSum page s).queues = s.queues := by
  unfold queEvtSum
  split_ifs
  · exact hwb_queues s _ _ _
  · rfl

@[simp] theorem evt_queues (page i : Nat) : (evt page i s).queues = s.queues := by
  unfold evt
  rw [queEvtSum_queues]
  split_ifs
  · rw [sendMsi_queues, wrf_queues]
  · exact wrf_queues s _ _ _ _

@[simp] theorem queMarks_queues (q old new : Nat) : (queMarks q old new s).queues = s.queues := by
  unfold queMarks
  dsimp only
  split_ifs
  · rw [evt_queues, hwb_queues, inc_queues]
  · rw [evt_queues, hwb_queues, inc_queues]
  · rfl
  · rfl

@[simp] theorem queLevels_queues (q old : Nat) : (queLevels q old s).queues = s.queues := by
  unfold queLevels
  dsimp only
  rw [queMarks_queues, hwb_queues]
  split_ifs
  · simp only [hwf_queues, hwb_queues]
  · simp only [hwf_queues, hwb_queues]

/-! The interrupt disarms its own queue and takes no word from it (R334). -/

/-- What the interrupt of a queue can do: its vector is sent and it is disarmed, or nothing changes. -/
theorem queIrq_eq_or (q : Nat) :
    queIrq q s = sendMsi q (s.setQueue q { s.queue q with armed := false }) ∨ queIrq q s = s := by
  unfold queIrq
  exact ite_eq_or_eq _ _ _

theorem words_queIrq (q : Nat) : ((queIrq q s).queue q).words = (s.queue q).words := by
  obtain h | h := queIrq_eq_or (s := s) q
  · rw [h, queue_of_queues (sendMsi_queues q), queue_setQueue_same]
  · rw [h]

theorem queue_queIrq_ne {p q : Nat} (h : p ≠ q) : (queIrq q s).queue p = s.queue p := by
  obtain hsent | hkept := queIrq_eq_or (s := s) q
  · rw [hsent, queue_of_queues (sendMsi_queues q), queue_setQueue_ne _ h]
  · rw [hkept]

theorem words_queSync (q old : Nat) : ((queSync q old s).queue q).words = (s.queue q).words := by
  rw [queSync, words_queIrq, queue_of_queues (queLevels_queues q old)]

theorem queue_queSync_ne {p q : Nat} (old : Nat) (h : p ≠ q) : (queSync q old s).queue p = s.queue p := by
  rw [queSync, queue_queIrq_ne h, queue_of_queues (queLevels_queues q old)]

/-! Taking words (R328). -/

theorem words_queTake (q k : Nat) : ((queTake q k s).queue q).words = (s.queue q).words.drop k := by
  unfold queTake
  rw [words_queSync, queue_inc, queue_setQueue_same]

theorem queue_queTake_ne {p q : Nat} (k : Nat) (h : p ≠ q) : (queTake q k s).queue p = s.queue p := by
  unfold queTake
  rw [queue_queSync_ne _ h, queue_inc, queue_setQueue_ne _ h]

/-- The completion of a POP is the host's answer, no part of a queue. -/
theorem queue_popNow (q units p : Nat) :
    (popNow q units s).queue p = (queTake q (min units (s.queVisible q)) s).queue p := rfl

/-- Settles O16: what is taken leaves the front of its own queue, and the completion is laid out of those same words. -/
theorem popTakesTheFrontWords : Obligations.PopTakesTheFrontWords := by
  unfold Obligations.PopTakesTheFrontWords
  intro s q units
  refine ⟨?words, ?completion, fun p hp => ?others⟩
  case words => rw [queue_popNow, words_queTake]
  case completion => rfl
  case others => rw [queue_popNow, queue_queTake_ne _ hp]

end Sys2Proof.Machine.State
end

section
/-! The commands of the queues, of billing and of the granary's acknowledgement that a lone master has taken (R321, R332, R337, R355,
R391, R393, R396). -/
namespace Sys2Proof.Machine
open State

/-! The slots in the register map. -/

theorem pageEntry_queCmd : ∀ q : Fin 64, pageEntry (Reg.queCmd q / 0x1000) = some (.que, q.val) := by decide

theorem pageEntry_queCfg : ∀ q : Fin 64, pageEntry (Reg.queCfg q / 0x1000) = some (.que, q.val) := by decide

theorem targetOf_queCmd : ∀ q : Fin 64, targetOf (Reg.queCmd q) = .at .cmd := by decide

/-- QUE_CFG is laid out alike on the pages of all queues. -/
theorem targetOf_queCfg_eq : ∀ q : Fin 64, targetOf (Reg.queCfg q) = targetOf (Reg.queCfg 0) := by decide

theorem targetOf_queCfg_rw (q : Fin 64) : ∃ f, targetOf (Reg.queCfg q) = .at (.rw f) :=
  (⟨_, rfl⟩ : ∃ f, targetOf (Reg.queCfg 0) = .at (.rw f)).imp fun _ h => (targetOf_queCfg_eq q).trans h

theorem pageEntry_jnlAck : pageEntry (Reg.jnlAck / 0x1000) = some (.jnl0, 0) := by decide

theorem targetOf_jnlAck_rw : ∃ f, targetOf Reg.jnlAck = .at (.rw f) := ⟨_, rfl⟩

/-! What their owners do. -/

theorem cmdEffect_queCmd (q : Fin 64) (v : Nat) (m : Master) (both ok : Bool) (seq : Nat) (s : State) :
    cmdEffect (Reg.queCmd q) v m both ok seq s = if codeOf v = 1 then queFlush q false s else queMaxReset q s := by
  simp only [cmdEffect, pageEntry_queCmd]

theorem cmdEffect_bilCmd (v : Nat) (m : Master) (both ok : Bool) (seq : Nat) (s : State) :
    cmdEffect Reg.bilCmd v m both ok seq s = bilEffect (codeOf v) (argOf v) s := rfl

/-- A queue command row, by what the queue makes of its code; no command of a queue has an argument (R337). -/
theorem commands_queCmd {i : Instr} {m : Master} {q : Fin 64} {g : BitVec 16} {code : Nat} {arg : BitVec 40} {eff : State → State}
    (hc : code < 256) (hx : ∀ s, exec i s = .next (command m (Reg.queCmd q) g.toNat code arg.toNat false s))
    (he : ∀ t, (if code = 1 then queFlush q false t else queMaxReset q t) = eff t) :
    Commands i (cmdWrite m (Reg.queCmd q) g code arg false) (fun _ => eff) :=
  commands_of_owner (owner := fun c _ t => if c = 1 then queFlush q false t else queMaxReset q t)
    (fun v => cmdEffect_queCmd q v m false false) (targetOf_queCmd q) hc hx he

/-- A billing command row, by what BIL makes of its code and argument. -/
theorem commands_bilCmd {i : Instr} {m : Master} {g : BitVec 16} {code : Nat} {arg : BitVec 40} {eff : State → State}
    (hc : code < 256) (hx : ∀ s, exec i s = .next (command m Reg.bilCmd g.toNat code arg.toNat false s))
    (he : ∀ t, bilEffect code arg.toNat t = eff t) : Commands i (cmdWrite m Reg.bilCmd g code arg false) (fun _ => eff) :=
  commands_of_owner (fun v => cmdEffect_bilCmd v m false false) (by decide) hc hx he

/-- SIGN_READING in the field of its argument: the metering point (R396). -/
theorem bilEffect_signReading (arg : Nat) (s : State) :
    bilEffect 2 arg s = s.setV .rdgWant (arg % 2 ^ 6) (s.gridNs + 1) :=
  congrArg (s.setV .rdgWant · (s.gridNs + 1)) (field_low arg 6)

/-- DEMAND_RESET in the field of its argument: the metering point (R393). -/
theorem bilEffect_demandReset (arg : Nat) (s : State) : bilEffect 3 arg s = State.demandReset (arg % 2 ^ 6) s :=
  congrArg (State.demandReset · s) (field_low arg 6)

theorem cfgSet_queCfg (q : Fin 64) (old : Nat) (s : State) :
    cfgSet (Reg.queCfg q) old s =
      queCfgSet q old { s with cfgOld := s.cfgOld.filter fun e => decide (e.1 ≠ Reg.queCfg q) } := by
  have hoff : Reg.queCfg q % 0x1000 = 0x40 := by unfold Reg.queCfg; omega
  simp only [cfgSet, pageEntry_queCfg, hoff, if_true]

theorem slotEffect_queCfg (q : Fin 64) (v : Nat) (m : Master) (ok : Bool) (s : State) :
    slotEffect (Reg.queCfg q) v m ok s = slotSet (Reg.queCfg q) v (queCfgSet q) s := by
  obtain ⟨f, ht⟩ := targetOf_queCfg_rw q
  exact slotEffect_rw ht (accessOf_of_targetOf_rw ht) (cfgSet_queCfg q) v m ok s

theorem cfgSet_jnlAck (old : Nat) (s : State) :
    cfgSet Reg.jnlAck old s = ackSet old { s with cfgOld := s.cfgOld.filter fun e => decide (e.1 ≠ Reg.jnlAck) } := by
  have hoff : Reg.jnlAck % 0x1000 = 0x58 := by decide
  simp only [cfgSet, pageEntry_jnlAck, hoff, if_true]

theorem slotEffect_jnlAck (v : Nat) (m : Master) (ok : Bool) (s : State) :
    slotEffect Reg.jnlAck v m ok s = slotSet Reg.jnlAck v ackSet s := by
  obtain ⟨f, ht⟩ := targetOf_jnlAck_rw
  exact slotEffect_rw ht (accessOf_of_targetOf_rw ht) cfgSet_jnlAck v m ok s

/-- Settles O23: a command row is its write, whose group's owner has the stated effect of its code; the writes of QUE_CFG and JNL_ACK
set their fields, and then do what the queue and the granary do. -/
theorem queueGranaryAndBillingCommandsTakeEffect : Obligations.QueueGranaryAndBillingCommandsTakeEffect := by
  unfold Obligations.QueueGranaryAndBillingCommandsTakeEffect
  intro m q g arg v
  refine ⟨?flush, ?maxReset, ?enable, ?ack, ?dropPending, ?signReading, ?demandReset⟩
  case flush => exact commands_queCmd (by decide) (fun _ => rfl) fun _ => if_pos rfl
  case maxReset => exact commands_queCmd (by decide) (fun _ => rfl) fun _ => if_neg (by decide)
  case enable =>
    obtain ⟨f, ht⟩ := targetOf_queCfg_rw q
    exact writes_of (fun _ => rfl) (by simp [ht]) (slotEffect_queCfg q v.toNat m false)
  case ack => exact writes_of (fun _ => rfl) (by decide) (slotEffect_jnlAck v.toNat m false)
  case dropPending => exact commands_bilCmd (by decide) (fun _ => rfl) fun _ => rfl
  case signReading => exact commands_bilCmd (by decide) (fun _ => rfl) (bilEffect_signReading arg.toNat)
  case demandReset => exact commands_bilCmd (by decide) (fun _ => rfl) (bilEffect_demandReset arg.toNat)

end Sys2Proof.Machine
end

section
/-! The rows of the queues (R324 to R334). -/
namespace Sys2Proof.Machine
open State

/-- Settles O47: the device settles writes, so each row is its effect. -/
theorem queueRowsTakeEffect : Obligations.QueueRowsTakeEffect := by
  unfold Obligations.QueueRowsTakeEffect
  intro s q bytes units hs
  refine ⟨?push, ?pushEnd, ?pop, ?stallEnd, ?age⟩
  case push => exact next_awake (f := quePush q bytes false) hs
  case pushEnd => exact next_awake (f := quePush q bytes true) hs
  case pop => exact next_awake (f := quePop q units) hs
  case stallEnd => exact next_awake (f := State.popStallEnd q) hs
  case age => exact next_awake (f := irqAge q) hs

end Sys2Proof.Machine
end

section
/-! Numbers laid out in a row as bytes, the least significant first: each is read back at its place. -/
namespace Sys2Proof.Machine

theorem length_toLE (n v : Nat) : (toLE n v).length = n := by
  induction n generalizing v with
  | zero => rfl
  | succ n ih => rw [toLE, List.length_cons, ih]

/-- A number read back from its bytes: as much of it as they hold. -/
theorem ofLE_toLE (n v : Nat) : ofLE (toLE n v) = v % 2 ^ (8 * n) := by
  induction n generalizing v with
  | zero => rw [Nat.mul_zero, pow_zero, Nat.mod_one]; rfl
  | succ n ih =>
    calc ofLE (toLE (n + 1) v)
        = v % 2 ^ 8 + 2 ^ 8 * (v / 2 ^ 8 % 2 ^ (8 * n)) := by rw [toLE, ofLE, ih, BitVec.toNat_ofNat]; rfl
      _ = v % 2 ^ (8 * (n + 1)) := by rw [← Nat.mod_mul, ← pow_add, Nat.add_comm, Nat.mul_succ]

/-- The bytes of a row of numbers, each with its width in bytes. -/
def rowBytes (l : List (Nat × Nat)) : List Byte := l.flatMap fun x => toLE x.1 x.2

/-- The bytes before the number at a place of a row. -/
def rowOffset (l : List (Nat × Nat)) (k : Nat) : Nat := ((l.take k).map (·.1)).sum

theorem length_rowBytes (l : List (Nat × Nat)) : (rowBytes l).length = (l.map (·.1)).sum := by
  simp only [rowBytes, List.length_flatMap, length_toLE]

theorem drop_rowBytes (l : List (Nat × Nat)) (k : Nat) : (rowBytes l).drop (rowOffset l k) = rowBytes (l.drop k) := by
  have hsplit : rowBytes l = rowBytes (l.take k) ++ rowBytes (l.drop k) := by
    rw [rowBytes, rowBytes, rowBytes, ← List.flatMap_append, List.take_append_drop]
  rw [hsplit, rowOffset, ← length_rowBytes, List.drop_left]

/-- The number at a place of a row is read back from its own bytes. -/
theorem ofLE_take_drop_rowBytes (l : List (Nat × Nat)) {k : Nat} (hk : k < l.length) :
    ofLE (((rowBytes l).drop (rowOffset l k)).take l[k].1) = l[k].2 % 2 ^ (8 * l[k].1) := by
  rw [drop_rowBytes, List.drop_eq_getElem_cons hk, rowBytes, List.flatMap_cons, List.take_left' (length_toLE _ _), ofLE_toLE]

end Sys2Proof.Machine
end

section
/-! The record (R340, R342, R345): its 64 bytes, and what the staging buffer does with one that enters. -/
namespace Sys2Proof.Machine

/-- The fields of a record in their order, each with its width in bytes (R345). -/
def Record.layout (r : Record) : List (Nat × Nat) :=
  [(6, r.seq), (2, r.cls % 16 * 4096 + r.code % 4096), (8, r.counter), (6, r.tSec), (4, r.tNs), (1, r.source), (1, r.flags),
    (2, r.inst), (1, r.actor), (1, r.parts), (24, r.payload), (4, r.prev), (4, r.check)]

theorem Record.bytes_eq_rowBytes (r : Record) : r.bytes = rowBytes r.layout := by
  simp only [Record.bytes, Record.body, Record.layout, rowBytes, List.flatMap_cons, List.flatMap_nil, List.append_assoc,
    List.append_nil]

/-- The field at a place of a record is read back from its bytes. -/
theorem Record.ofLE_bytes (r : Record) (k : Fin 13) :
    ofLE ((r.bytes.drop (rowOffset r.layout k)).take (r.layout[k.val]'k.isLt).1) =
      (r.layout[k.val]'k.isLt).2 % 2 ^ (8 * (r.layout[k.val]'k.isLt).1) := by
  rw [r.bytes_eq_rowBytes]
  exact ofLE_take_drop_rowBytes r.layout k.isLt

theorem Record.length_bytes (r : Record) : r.bytes.length = 64 := by
  rw [r.bytes_eq_rowBytes, length_rowBytes]
  rfl

/-- Class and code fill their two bytes and no more. -/
theorem Record.classCode_lt (r : Record) : r.cls % 16 * 4096 + r.code % 4096 < 2 ^ (8 * 2) := by omega

/-- The check stands in the last four bytes. -/
theorem Record.drop_bytes_check (r : Record) : r.bytes.drop 60 = (r.bytes.drop 60).take 4 :=
  (List.take_of_length_le (by rw [List.length_drop, r.length_bytes])).symm

namespace State

/-! Dropping the oldest record of an area keeps the others. -/

theorem length_of_span {α : Type} {p : α → Bool} {l a b : List α} (h : l.reverse.span p = (a, b)) :
    a.length + b.length = l.length := by
  rw [List.span_eq_takeWhile_dropWhile, Prod.mk.injEq] at h
  rw [← h.1, ← h.2, ← List.length_append, List.takeWhile_append_dropWhile, List.length_reverse]

theorem length_le_of_span_cons {α : Type} {p : α → Bool} {l a b : List α} {r : α} (h : l.reverse.span p = (a, r :: b)) :
    (a ++ b).reverse.length ≤ l.length := by
  have hlen := length_of_span h
  rw [List.length_cons] at hlen
  rw [List.length_reverse, List.length_append]
  omega

theorem length_le_of_span_nil {α : Type} {p : α → Bool} {l a : List α} (h : l.reverse.span p = (a, [])) :
    a.reverse.length ≤ l.length :=
  List.length_reverse.trans_le (length_of_span h).le

theorem length_dropOldestGeneral_le (l : List Record) : (dropOldestGeneral l).length ≤ l.length := by
  unfold dropOldestGeneral
  split
  case h_1 h => exact length_le_of_span_cons h
  case h_2 h => exact length_le_of_span_nil h

theorem length_dropOldestReserve_le (l : List Record) : (dropOldestReserve l).length ≤ l.length := by
  unfold dropOldestReserve
  split
  case h_1 h => exact length_le_of_span_cons h
  case h_2 h => exact length_le_of_span_nil h

/-- The records that stay when another enters the reserve or the general area (R355, R357). -/
def recordsKept (reserve : Bool) (s : State) : List Record :=
  if !reserve && decide (s.v .genStored = generalRecords) then dropOldestGeneral s.records
  else if reserve && decide (reserveRecords ≤ (s.records.filter fun x => decide (x.flags / 2 % 2 = 1)).length) then
    dropOldestReserve s.records
  else s.records

theorem length_recordsKept_le (reserve : Bool) (s : State) : (s.recordsKept reserve).length ≤ s.records.length := by
  unfold recordsKept
  split_ifs
  · exact length_dropOldestGeneral_le _
  · exact length_dropOldestReserve_le _
  · exact le_rfl

@[simp] theorem beside_addV (s : State) (x : Var) (i : Nat) (k : Int) : (s.addV x i k).besideRegisters = s.besideRegisters := rfl

@[simp] theorem rd_addV (s : State) (x : Var) (i : Nat) (k : Int) (a : Nat) : (s.addV x i k).rd a = s.rd a := rd_setV _ _ _ _ _

variable (e : Stamp) (x : Submission) (i : Nat) (reserve : Bool) (s : State)

/-- Beside registers and hidden counters, a record that enters changes the stored records alone. -/
theorem beside_storePart : (storePart e x i reserve s).besideRegisters =
    { s with records := s.makeRecord e x i reserve :: s.recordsKept reserve }.besideRegisters := by
  unfold storePart
  simp only [beside_ite, beside_hwf, beside_hwb, beside_hw, beside_evt, beside_addV, beside_setV, ite_self]
  rfl

theorem records_of_beside {t u : State} (h : t.besideRegisters = u.besideRegisters) : t.records = u.records :=
  (congrArg records h : t.besideRegisters.records = u.besideRegisters.records)

theorem tokens_of_beside {t u : State} (h : t.besideRegisters = u.besideRegisters) (m : Master) : t.tokens m = u.tokens m := by
  cases m with
  | host => exact (congrArg tokH h : t.besideRegisters.tokH = u.besideRegisters.tokH)
  | mgmt => exact (congrArg tokM h : t.besideRegisters.tokM = u.besideRegisters.tokM)

theorem records_storePart :
    (storePart e x i reserve s).records = s.makeRecord e x i reserve :: s.recordsKept reserve :=
  records_of_beside (beside_storePart e x i reserve s)

theorem seq_makeRecord : (s.makeRecord e x i reserve).seq = s.rd Reg.jnlHead := rfl

/-- The check covers the bytes before it (R345). -/
theorem check_makeRecord : (s.makeRecord e x i reserve).check = crc32c (s.makeRecord e x i reserve).body := rfl

/-- A record that enters is no matter of the token memories. -/
theorem tokens_storePart (m : Master) : (storePart e x i reserve s).tokens m = s.tokens m := by
  rw [tokens_of_beside (beside_storePart e x i reserve s)]
  cases m <;> rfl

/-- A record moves JNL_HEAD and JNL_DURABLE, and of the other registers those that its area shows: JNL_TAIL, JNL_FREE and JNL_STAT. -/
theorem rd_storePart {a : Nat} (hf : EventFree a) (htail : a ≠ Reg.jnlTail) (hfree : a ≠ Reg.jnlFree) (hstat : a ≠ Reg.jnlStat) :
    (storePart e x i reserve s).rd a =
      (({ s with records := s.makeRecord e x i reserve :: s.recordsKept reserve }.hw Reg.jnlHead (s.rd Reg.jnlHead + 1)).hw
        Reg.jnlDurable (s.rd Reg.jnlHead + 1)).rd a := by
  unfold storePart
  simp only [rd_ite, rd_hwf_ne _ _ _ _ hfree, rd_hwb_ne _ _ _ hstat, rd_evt hf, rd_addV, rd_setV, rd_hw_ne _ _ htail, ite_self]
  rfl

theorem eventFree_jnlHead : EventFree Reg.jnlHead := by unfold EventFree; decide

theorem eventFree_jnlDurable : EventFree Reg.jnlDurable := by unfold EventFree; decide

theorem rd_jnlDurable_storePart (h : s.rd Reg.jnlHead + 1 < 2 ^ 48) :
    (storePart e x i reserve s).rd Reg.jnlDurable = s.rd Reg.jnlHead + 1 := by
  rw [rd_storePart _ _ _ _ _ eventFree_jnlDurable (by decide) (by decide) (by decide), rd_hw_same, Nat.mod_eq_of_lt h]

theorem rd_jnlHead_storePart (h : s.rd Reg.jnlHead + 1 < 2 ^ 48) :
    (storePart e x i reserve s).rd Reg.jnlHead = s.rd Reg.jnlHead + 1 := by
  rw [rd_storePart _ _ _ _ _ eventFree_jnlHead (by decide) (by decide) (by decide), rd_hw_ne _ _ (by decide), rd_hw_same,
    Nat.mod_eq_of_lt h]

/-- Settles O14: the staging buffer puts the record made from JNL_HEAD in front of those kept; and the fields of a record are a row of
numbers, each read back at its place. -/
theorem recordsAreNumberedAndLaidOut : Obligations.RecordsAreNumberedAndLaidOut := by
  unfold Obligations.RecordsAreNumberedAndLaidOut
  constructor
  case left =>
    intro s e i x reserve hroom
    exact ⟨s.makeRecord e x i reserve, s.recordsKept reserve, records_storePart e x i reserve s, seq_makeRecord e x i reserve s,
      length_recordsKept_le reserve s, rfl, check_makeRecord e x i reserve s, rfl, rfl, rfl,
      rd_jnlHead_storePart e x i reserve s hroom, rd_jnlDurable_storePart e x i reserve s hroom,
      tokens_storePart e x i reserve s .host, tokens_storePart e x i reserve s .mgmt⟩
  case right =>
    intro r
    refine ⟨r.length_bytes, r.ofLE_bytes 0, ?classCode, r.ofLE_bytes 2, r.ofLE_bytes 3, r.ofLE_bytes 4, r.ofLE_bytes 5, r.ofLE_bytes 6,
      r.ofLE_bytes 7, r.ofLE_bytes 8, r.ofLE_bytes 9, r.ofLE_bytes 10, r.ofLE_bytes 11, ?check⟩
    case classCode => exact (r.ofLE_bytes 1).trans (Nat.mod_eq_of_lt r.classCode_lt)
    case check =>
      rw [r.drop_bytes_check]
      exact r.ofLE_bytes 12

end State
end Sys2Proof.Machine
end

section
/-! The token memories (R42, R349, R350). -/
namespace Sys2Proof.Machine.State

/-- A command that is remembered stands at the front of its master's memory, which holds at most 65536 tokens. -/
theorem tokens_remember_same (m : Master) (tok seq : Nat) (s : State) :
    (remember m tok seq s).tokens m = ((tok, seq) :: s.tokens m).take tokenCap := by
  cases m with
  | host => exact hwf_tokH _ _ _ _ _
  | mgmt => exact hwf_tokM _ _ _ _ _

theorem tokens_remember_ne {m m' : Master} (h : m' ≠ m) (tok seq : Nat) (s : State) :
    (remember m tok seq s).tokens m' = s.tokens m' := by
  cases m <;> cases m'
  case host.host | mgmt.mgmt => exact absurd rfl h
  case host.mgmt => exact hwf_tokM _ _ _ _ _
  case mgmt.host => exact hwf_tokH _ _ _ _ _

theorem take_tokenCap_cons_of_full {α : Type} (x : α) {l : List α} (h : l.length = tokenCap) :
    (x :: l).take tokenCap = x :: l.dropLast := by
  rw [List.dropLast_eq_take, h]
  exact List.take_succ_cons

theorem take_tokenCap_cons_of_room {α : Type} (x : α) {l : List α} (h : l.length < tokenCap) :
    (x :: l).take tokenCap = x :: l := List.take_of_length_le h

/-- A command whose token is not remembered is no DUPLICATE: every other check has a status of its own (R44). -/
theorem checkStatus_ne_duplicate {w : Write} {acc : Acc} (h : acc.s.tokenSeq w.m (acc.s.rdB w.m (w.addr - 8)) = none) :
    checkStatus w acc ≠ 0x02 := by
  unfold checkStatus
  simp only [h, Option.isSome_none, Bool.false_eq_true, if_false]
  split_ifs <;> decide

/-- Settles O11: the front of the memory is kept up to its capacity, so a full one loses its last entry. -/
theorem fullTokenMemoryEvictsTheOldest : Obligations.FullTokenMemoryEvictsTheOldest := by
  unfold Obligations.FullTokenMemoryEvictsTheOldest
  refine ⟨fun s m tok seq => ⟨fun hfull => ?full, fun hroom => ?room, fun m' hm => ?other⟩, fun w acc h => ?fresh⟩
  case full => rw [tokens_remember_same, take_tokenCap_cons_of_full _ hfull]
  case room => rw [tokens_remember_same, take_tokenCap_cons_of_room _ hroom]
  case other => exact tokens_remember_ne hm tok seq s
  case fresh => exact checkStatus_ne_duplicate h

end Sys2Proof.Machine.State
end

section
/-! The field memory of the tag (R437): a byte written reads as written, and every other byte as before. -/
namespace Sys2Proof.Machine.State

variable {s : State}

/-- The byte at an offset of the field memory. -/
def fieldByte (s : State) (a : Nat) : Byte := Tab.get (fun _ => 0#8) s.fmem a

theorem fmemRead_eq_map (off n : Nat) : s.fmemRead off n = (List.range n).map fun i => s.fieldByte (off + i) := rfl

theorem fmemRead_one (a : Nat) : s.fmemRead a 1 = [s.fieldByte a] := rfl

/-- Writing bytes changes the field memory alone. -/
theorem fmemWrite_eq_fmem (off : Nat) (l : List Byte) (s : State) : fmemWrite off l s = { s with fmem := (fmemWrite off l s).fmem } := by
  induction l generalizing off s with
  | nil => rfl
  | cons b l ih => exact ih (off + 1) { s with fmem := Tab.put natLt (fun _ => 0#8) s.fmem off b }

theorem fieldByte_fmemWrite_outside {off a : Nat} {l : List Byte} (h : a < off ∨ off + l.length ≤ a) :
    (fmemWrite off l s).fieldByte a = s.fieldByte a := by
  induction l generalizing off s with
  | nil => rfl
  | cons b l ih =>
    rw [List.length_cons] at h
    rw [fmemWrite, ih (by omega)]
    exact Tab.get_put_ne natLt _ s.fmem b (by omega)

theorem fieldByte_fmemWrite_inside (off : Nat) {i : Nat} {l : List Byte} (h : i < l.length) :
    (fmemWrite off l s).fieldByte (off + i) = l[i] := by
  induction l generalizing off i s with
  | nil => cases h
  | cons b l ih =>
    rw [fmemWrite]
    cases i with
    | zero =>
      rw [fieldByte_fmemWrite_outside (by omega)]
      exact Tab.get_put_same natLt _ s.fmem off b
    | succ i =>
      rw [show off + (i + 1) = off + 1 + i by omega, ih (off + 1) (Nat.lt_of_succ_lt_succ h)]
      rfl

theorem fmemRead_fmemWrite (off : Nat) (l : List Byte) (s : State) : (fmemWrite off l s).fmemRead off l.length = l := by
  rw [fmemRead_eq_map]
  refine List.ext_getElem (by simp) fun i hi hl => ?_
  rw [List.getElem_map, List.getElem_range, fieldByte_fmemWrite_inside off hl]

/-- Settles O17: a byte that is written is read back, and no other byte is touched. -/
theorem fieldMemoryReadsWhatWasWritten : Obligations.FieldMemoryReadsWhatWasWritten := by
  unfold Obligations.FieldMemoryReadsWhatWasWritten
  intro s off l
  refine ⟨fmemRead_fmemWrite off l s, fun a ha => ?others, ?slots, ?vars⟩
  case others => rw [fmemRead_one, fmemRead_one, fieldByte_fmemWrite_outside ha]
  case slots => rw [fmemWrite_eq_fmem]
  case vars => rw [fmemWrite_eq_fmem]

end Sys2Proof.Machine.State
end

section
/-! The rows of the granary journal, of supply loss and gleaning, and of billing (R341 to R404). -/
namespace Sys2Proof.Machine
open State

/-- Settles O48: the rows that number and store records run where the part is supplied, those that report on them where it settles. -/
theorem journalRowsTakeEffect : Obligations.JournalRowsTakeEffect := by
  unfold Obligations.JournalRowsTakeEffect
  intro s rec corrected
  refine ⟨fun hs => ⟨?submit, ?drain⟩, fun hs => ⟨?pending, ?scrub, ?uncorrectable, ?mismatch⟩⟩
  case submit => exact next_powered (f := State.submit rec) hs
  case drain => exact next_powered (f := State.stagingDrain) hs
  case pending => exact next_awake (f := State.recordsPending) hs
  case scrub => exact next_awake (f := State.scrubPass corrected) hs
  case uncorrectable => exact next_awake (f := State.granaryUncorrectable) hs
  case mismatch => exact next_awake (f := granaryMismatchActs) hs

/-- Settles O49: the warning and its cancellation count while the device settles; the commit, the captures and the end of gleaning hold
in every state. -/
theorem supplyLossRowsTakeEffect : Obligations.SupplyLossRowsTakeEffect := by
  unfold Obligations.SupplyLossRowsTakeEffect
  intro s us mv complete meanMw
  refine ⟨fun hs => ⟨?asserted, ?cancelled⟩, rfl, rfl, rfl⟩
  case asserted => exact next_awake (f := State.pfwAsserted us) hs
  case cancelled => exact next_awake (f := State.preCaptureCancelled) hs

/-- Settles O50: the part is supplied, so each row is its effect; the tariff switch and the capture of billing time have no guard. -/
theorem billingRowsTakeEffect : Obligations.BillingRowsTakeEffect := by
  unfold Obligations.BillingRowsTakeEffect
  intro s mp stall recNum signed_ m dt
  refine ⟨fun hs => ⟨?demand, ?calendar, ?holdEnd, ?close, ?release⟩, rfl, rfl⟩
  case demand => exact next_powered (f := demandEnd mp.val) hs
  case calendar => exact next_powered (f := State.calendarActivation) hs
  case holdEnd => exact next_powered (f := State.btHoldEnd) hs
  case close => exact next_powered (f := State.sessionClose stall.val) hs
  case release => exact next_powered (f := State.recordRelease recNum signed_) hs

end Sys2Proof.Machine
end

section
/-! The rows of the key store and of firmware update (R418 to R430, R456 to R474). -/
namespace Sys2Proof.Machine
open State

/-- Settles O51: the KEY block runs, so its operations are their effects; tamper and the battery are watched in every state. -/
theorem keyStoreRowsTakeEffect : Obligations.KeyStoreRowsTakeEffect := by
  unfold Obligations.KeyStoreRowsTakeEffect
  intro s req id src mv
  refine ⟨fun hs => ⟨?operation, ?complete⟩, rfl, rfl⟩
  case operation => exact next_blockRuns (f := State.keyOperation req) hs
  case complete => exact next_blockRuns (f := keyComplete id) hs

/-- Settles O53: the rows that store bales run where the device settles, that of a piece frame where it is supplied, and those of an
image's life where the UPD block runs; each is then its effect. -/
theorem firmwareUpdateRowsTakeEffect : Obligations.FirmwareUpdateRowsTakeEffect := by
  unfold Obligations.FirmwareUpdateRowsTakeEffect
  intro s kind fetched ok bale chip frame res stall port msg down
  refine ⟨fun hs => ⟨?fetched, ?stored, ?nor⟩, fun hs => ?piece,
    fun hs => ⟨?verified, ?activated, ?deferred, ?trialExpiry, ?trialFailure, ?mirrored, ?offerExpiry, ?relay, ?repeat_⟩⟩
  case fetched => exact next_awake (f := State.fetchComplete (kindOf kind) fetched ok bale) hs
  case stored => exact next_awake (f := baleArrives (kindOf kind) bale) hs
  case nor => exact next_awake (f := State.norFault chip.val) hs
  case piece => exact next_powered (f := State.pieceFrame frame) hs
  case verified => exact next_blockRuns (f := State.verifyComplete (kindOf kind) ok) hs
  case activated => exact next_blockRuns (f := State.activationComplete (kindOf kind) res) hs
  case deferred => exact next_blockRuns (f := deferredApply stall.val) hs
  case trialExpiry => exact next_blockRuns (f := State.trialExpiry (kindOf kind)) hs
  case trialFailure => exact next_blockRuns (f := State.trialFailure (kindOf kind)) hs
  case mirrored => exact next_blockRuns (f := State.mirroringComplete (kindOf kind)) hs
  case offerExpiry => exact next_blockRuns (f := State.offerExpiry (kindOf kind)) hs
  case relay => exact next_blockRuns (f := State.relayMessage port.val msg) hs
  case repeat_ => exact next_blockRuns (f := relayRepeat (kindOf kind) down.val) hs

end Sys2Proof.Machine
end

section
/-! The rows of the Ethernet ports and of the mains link (R476 to R505), and what every command leaves of the queue. -/
namespace Sys2Proof.Machine
open State

/-- A row of the mains link while its block runs (R486). -/
theorem next_linkEvent {f : State → State} {s : State} (hs : s.linkIdle = false) :
    (Host.Outcome.next (linkEvent f s) : Host.Outcome State Fault Refusal) = .next (f s) :=
  congrArg _ (linkEvent_of hs)

/-- Settles O54: a port comes up and an address ages where the device settles, the mains link runs while it is not idle; the other rows
have no guard. -/
theorem portAndLinkRowsTakeEffect : Obligations.PortAndLinkRowsTakeEffect := by
  unfold Obligations.PortAndLinkRowsTakeEffect
  constructor
  case left =>
    intro s port speed full mac f
    refine ⟨fun hs => ⟨?linkUp, ?ageOut⟩, rfl, rfl, rfl⟩
    case linkUp => exact next_awake (f := State.portLinkUp port.val speed.val full) hs
    case ageOut => exact next_awake (f := macAge mac) hs
  case right =>
    intro s z port frame dt attenDb lseq allOk e
    refine ⟨fun hs => ⟨?lost, ?beacon, ?abandoned, ?received, ?ack, ?backoff, ?noise, ?off, ?retry, ?neighbour⟩, rfl⟩
    case lost => exact next_linkEvent (f := zxLoss z.val) hs
    case beacon => exact next_linkEvent (f := State.beaconDue port.val) hs
    case abandoned => exact next_linkEvent (f := State.beaconAbandoned port.val) hs
    case received => exact next_linkEvent (f := linkIn port.val frame dt attenDb) hs
    case ack => exact next_linkEvent (f := State.linkAck port.val lseq allOk) hs
    case backoff => exact next_linkEvent (f := State.backoffEnd port.val) hs
    case noise => exact next_linkEvent (f := State.noiseTimeout port.val) hs
    case off => exact next_linkEvent (f := State.driverOff port.val) hs
    case retry => exact next_linkEvent (f := State.driverRetry port.val) hs
    case neighbour => exact next_linkEvent (f := nbAge port.val e.val) hs

/-- Settles O2, by the case split over the rows of `exec_keeps`: the queue of waiting commands is among what every row keeps. -/
theorem everyCommandRunsAndLeavesTheQueue : Obligations.EveryCommandRunsAndLeavesTheQueue := by
  unfold Obligations.EveryCommandRunsAndLeavesTheQueue
  intro c s
  obtain ⟨t, ht, hkeeps⟩ := exec_keeps c s
  exact ⟨t, ht, hkeeps.pending⟩

end Sys2Proof.Machine
end

section
/-! The commands of the key store that a lone master has taken (R416, R417, R427, R431). -/
namespace Sys2Proof.Machine
open State

/-- A command of one master, not merged with the other's, leaves the other's staging window. -/
theorem cmdEffect_keyCmd (v : Nat) (m : Master) (ok : Bool) (seq : Nat) (s : State) :
    cmdEffect Reg.keyCmd v m false ok seq s = keyEffect (codeOf v) (argOf v) m s := rfl

/-- A command row of the key store, by what KEY makes of its code and argument. -/
theorem commands_keyCmd {i : Instr} {m : Master} {g : BitVec 16} {code : Nat} {arg : BitVec 40} {ok : Bool} {eff : State → State}
    (hc : code < 256) (hx : ∀ s, exec i s = .next (command m Reg.keyCmd g.toNat code arg.toNat ok s))
    (he : ∀ t, keyEffect code arg.toNat m t = eff t) : Commands i (cmdWrite m Reg.keyCmd g code arg ok) (fun _ => eff) := by
  refine commands_of hx (by decide) fun seq t => ?_
  rw [cmdEffect_keyCmd, codeOf_cmd code arg hc, argOf_cmd]
  exact he t

/-! The commands in the fields of their argument: a slot with what it takes, or a handle (R416, R417, R431). -/

theorem keyEffect_generate (arg : Nat) (m : Master) (s : State) :
    keyEffect 2 arg m s = slotPut (arg % 2 ^ 8) (arg / 2 ^ 8 % 2 ^ 4) (arg / 2 ^ 12 % 2 ^ 8) 2 s := by
  rw [keyEffect, field_low, field, field]

theorem keyEffect_invalidate (arg : Nat) (m : Master) (s : State) :
    keyEffect 3 arg m s =
      let h := arg % 2 ^ 32
      if h / 2 ^ 30 % 4 = 0 then enginesRun (slotRec (h / 2 ^ 16 % 2 ^ 14) 3 (genNext (h / 2 ^ 16 % 2 ^ 14) s))
      else enginesRun (clearBelow h true s) := by
  rw [keyEffect, field_low, field]

theorem keyEffect_erase (arg : Nat) (m : Master) (s : State) :
    keyEffect 4 arg m s =
      let i := arg % 2 ^ 8
      let u := slotRec i 4 (fault 0x0E02 i 0 0 false (slotSum (((genNext i s).hwf (Reg.keySlot i) 0 4 0).hwf (Reg.keySlot i) 4 8 0)))
      enginesRun (if i = 7 then identCert false u else u) := by
  rw [keyEffect, field_low]

/-- ZEROISE has no argument. -/
theorem keyEffect_zeroise (arg : Nat) (m : Master) (s : State) :
    keyEffect 7 arg m s = State.zeroise 2 6 (((tamperLog 6 false s).hwb Reg.keyState 2 true).evt 0xE00 16) := by
  rw [keyEffect]

/-- Settles O24: a command row is its write to KEY_CMD, and the key store's effect of its code is as stated. -/
theorem keyCommandsTakeEffect : Obligations.KeyCommandsTakeEffect := by
  unfold Obligations.KeyCommandsTakeEffect
  intro m g arg ok
  refine ⟨?import_, ?generate, ?invalidate, ?erase, ?exportPublic, ?exportCsr, ?zeroise, ?recommission⟩
  case import_ => exact commands_keyCmd (by decide) (fun _ => rfl) fun _ => rfl
  case generate => exact commands_keyCmd (by decide) (fun _ => rfl) (keyEffect_generate arg.toNat m)
  case invalidate => exact commands_keyCmd (by decide) (fun _ => rfl) (keyEffect_invalidate arg.toNat m)
  case erase => exact commands_keyCmd (by decide) (fun _ => rfl) (keyEffect_erase arg.toNat m)
  case exportPublic => exact commands_keyCmd (by decide) (fun _ => rfl) fun _ => rfl
  case exportCsr => exact commands_keyCmd (by decide) (fun _ => rfl) fun _ => rfl
  case zeroise => exact commands_keyCmd (by decide) (fun _ => rfl) (keyEffect_zeroise arg.toNat m)
  case recommission => exact commands_keyCmd (by decide) (fun _ => rfl) fun _ => rfl

end Sys2Proof.Machine
end

section
/-! The commands of the contactless interface and of firmware update that a lone master has taken (R443, R459 to R469). -/
namespace Sys2Proof.Machine
open State

theorem cmdEffect_ctlCmd (v : Nat) (m : Master) (both ok : Bool) (seq : Nat) (s : State) :
    cmdEffect Reg.ctlCmd v m both ok seq s = ctlEffect (codeOf v) (argOf v) m both seq s := rfl

theorem cmdEffect_updCmd (v : Nat) (m : Master) (both ok : Bool) (seq : Nat) (s : State) :
    cmdEffect Reg.updCmd v m both ok seq s = updEffect (codeOf v) (argOf v) m ok s := rfl

/-- A command row of the contactless interface, whose effect keeps the number of the command's record. -/
theorem commands_ctlCmd {i : Instr} {m : Master} {g : BitVec 16} {code : Nat} {arg : BitVec 40} {eff : Nat → State → State}
    (hc : code < 256) (hx : ∀ s, exec i s = .next (command m Reg.ctlCmd g.toNat code arg.toNat false s))
    (he : ∀ seq t, ctlEffect code arg.toNat m false seq t = eff seq t) : Commands i (cmdWrite m Reg.ctlCmd g code arg false) eff := by
  refine commands_of hx (by decide) fun seq t => ?_
  rw [cmdEffect_ctlCmd, codeOf_cmd code arg hc, argOf_cmd]
  exact he seq t

/-- A command row of firmware update, by what UPD makes of its code and argument and of the verdict on its image. -/
theorem commands_updCmd {i : Instr} {m : Master} {g : BitVec 16} {code : Nat} {arg : BitVec 40} {ok : Bool} {eff : State → State}
    (hc : code < 256) (hx : ∀ s, exec i s = .next (command m Reg.updCmd g.toNat code arg.toNat ok s))
    (he : ∀ t, updEffect code arg.toNat m ok t = eff t) : Commands i (cmdWrite m Reg.updCmd g code arg ok) (fun _ => eff) := by
  refine commands_of hx (by decide) fun seq t => ?_
  rw [cmdEffect_updCmd, codeOf_cmd code arg hc, argOf_cmd]
  exact he t

/-- The operation on field memory that a master posts: the page, and where it writes, the bytes of the master's window (R443). -/
theorem ctlEffect_eq (code arg : Nat) (m : Master) (seq : Nat) (s : State) :
    ctlEffect code arg m false seq s =
      let o : MemOp := ⟨m, false, decide (code = 2), arg % 2 ^ 7, if code = 2 then s.memWindow m else [], seq, s.counter⟩
      memShow o 1 0 { s with memOps := s.memOps ++ [o] } := by
  rw [ctlEffect, field_low]

/-! The commands of UPD in the fields of their argument: the kind of the image, and what the command says of it (R459 to R469). -/

theorem updEffect_offer (arg : Nat) (m : Master) (ok : Bool) (s : State) :
    updEffect 1 arg m ok s =
      offerTake (if m = .mgmt then 1 else 2) (arg % 2 ^ 4) (arg / 2 ^ 4 % 2 ^ 10) (s.fdB m Reg.updParam 0 32) 0 s := by
  rw [updEffect, field_low, field]

theorem updEffect_fetch (arg : Nat) (m : Master) (ok : Bool) (s : State) :
    updEffect 2 arg m ok s = { s with fetches := s.fetches ++ [(arg % 2 ^ 4, arg / 2 ^ 4 % 2 ^ 9, s.fetchAddr m)] } := by
  rw [updEffect, field_low, field]

theorem updEffect_withdraw (arg : Nat) (m : Master) (ok : Bool) (s : State) :
    updEffect 3 arg m ok s = offerEnd (arg % 2 ^ 4) 0 4 s := by
  rw [updEffect, field_low]

theorem updEffect_confirm (arg : Nat) (m : Master) (ok : Bool) (s : State) :
    updEffect 5 arg m ok s = State.confirm (arg % 2 ^ 4) s := by
  rw [updEffect, field_low]

theorem updEffect_revert (arg : Nat) (m : Master) (ok : Bool) (s : State) :
    updEffect 6 arg m ok s = updNext (fallback (arg % 2 ^ 4) 0x0E s) := by
  rw [updEffect, field_low]
  all_goals decide

/-- Settles O25: a command row is its write to CTL_CMD or UPD_CMD, and the effect of its code is as stated. -/
theorem fieldAndUpdateCommandsTakeEffect : Obligations.FieldAndUpdateCommandsTakeEffect := by
  unfold Obligations.FieldAndUpdateCommandsTakeEffect
  intro m g arg ok
  refine ⟨?readPage, ?writePage, ?offer, ?fetch, ?withdraw, ?activate, ?confirm, ?revert⟩
  case readPage => exact commands_ctlCmd (by decide) (fun _ => rfl) (ctlEffect_eq 1 arg.toNat m)
  case writePage => exact commands_ctlCmd (by decide) (fun _ => rfl) (ctlEffect_eq 2 arg.toNat m)
  case offer => exact commands_updCmd (by decide) (fun _ => rfl) (updEffect_offer arg.toNat m false)
  case fetch => exact commands_updCmd (by decide) (fun _ => rfl) (updEffect_fetch arg.toNat m false)
  case withdraw => exact commands_updCmd (by decide) (fun _ => rfl) (updEffect_withdraw arg.toNat m false)
  case activate => exact commands_updCmd (by decide) (fun _ => rfl) fun _ => rfl
  case confirm => exact commands_updCmd (by decide) (fun _ => rfl) (updEffect_confirm arg.toNat m false)
  case revert => exact commands_updCmd (by decide) (fun _ => rfl) (updEffect_revert arg.toNat m false)

end Sys2Proof.Machine
end

section
/-! The commands of the Ethernet ports, the mains link, the partitions and the supplies, and a write of a port's configuration, that a
lone master has taken (R480, R485, R504, R511, R536). -/
namespace Sys2Proof.Machine
open State

/-! The slots in the register map. -/

theorem pageEntry_netPCfg : ∀ p : Fin 4, pageEntry (Reg.netPCfg p / 0x1000) = some (.netp, p.val) := by decide

/-- NET_P_CFG is laid out alike on the pages of all ports. -/
theorem targetOf_netPCfg_eq : ∀ p : Fin 4, targetOf (Reg.netPCfg p) = targetOf (Reg.netPCfg 0) := by decide

theorem targetOf_netPCfg_rw (p : Fin 4) : ∃ f, targetOf (Reg.netPCfg p) = .at (.rw f) :=
  (⟨_, rfl⟩ : ∃ f, targetOf (Reg.netPCfg 0) = .at (.rw f)).imp fun _ h => (targetOf_netPCfg_eq p).trans h

/-! What their owners do. -/

theorem cmdEffect_netCmd (v : Nat) (m : Master) (both ok : Bool) (seq : Nat) (s : State) :
    cmdEffect Reg.netCmd v m both ok seq s = netEffect (codeOf v) (argOf v) s := rfl

theorem cmdEffect_mlkCmd (v : Nat) (m : Master) (both ok : Bool) (seq : Nat) (s : State) :
    cmdEffect Reg.mlkCmd v m both ok seq s = mlkEffect (codeOf v) (argOf v) s := rfl

theorem cmdEffect_fltCmd (v : Nat) (m : Master) (both ok : Bool) (seq : Nat) (s : State) :
    cmdEffect Reg.fltCmd v m both ok seq s = readmitPart (argOf v % 2) s := by
  rw [← pow_one 2, ← field_low]
  rfl

theorem cmdEffect_pwrCmd (v : Nat) (m : Master) (both ok : Bool) (seq : Nat) (s : State) :
    cmdEffect Reg.pwrCmd v m both ok seq s = State.blockRestart (argOf v % 2 ^ 8) 2 s := by
  rw [← field_low]
  rfl

/-- A command row of the ports, by what NET makes of its code and argument. -/
theorem commands_netCmd {i : Instr} {m : Master} {g : BitVec 16} {code : Nat} {arg : BitVec 40} {eff : State → State}
    (hc : code < 256) (hx : ∀ s, exec i s = .next (command m Reg.netCmd g.toNat code arg.toNat false s))
    (he : ∀ t, netEffect code arg.toNat t = eff t) : Commands i (cmdWrite m Reg.netCmd g code arg false) (fun _ => eff) :=
  commands_of_owner (fun v => cmdEffect_netCmd v m false false) (by decide) hc hx he

/-- A command row of the mains link, by what MLK makes of its code and argument. -/
theorem commands_mlkCmd {i : Instr} {m : Master} {g : BitVec 16} {code : Nat} {arg : BitVec 40} {eff : State → State}
    (hc : code < 256) (hx : ∀ s, exec i s = .next (command m Reg.mlkCmd g.toNat code arg.toNat false s))
    (he : ∀ t, mlkEffect code arg.toNat t = eff t) : Commands i (cmdWrite m Reg.mlkCmd g code arg false) (fun _ => eff) :=
  commands_of_owner (fun v => cmdEffect_mlkCmd v m false false) (by decide) hc hx he

/-! The ports' commands in the field of their argument: the port (R480, R504). -/

theorem field_low_two (x : Nat) : field x 0 2 = x % 4 := field_low x 2

theorem netEffect_readmit (arg : Nat) (s : State) : netEffect 1 arg s = netPost (arg % 4) .readmit s := by
  rw [netEffect, if_pos rfl, field_low_two]

theorem netEffect_takeOut (arg : Nat) (s : State) : netEffect 2 arg s = netPost (arg % 4) .takeOut s := by
  rw [netEffect, if_neg (by decide), if_pos rfl, field_low_two]

theorem mlkEffect_restart (arg : Nat) (s : State) : mlkEffect 1 arg s = linkStart (arg % 2) s := by
  rw [mlkEffect, if_pos rfl, field_low, pow_one]

theorem mlkEffect_clearTable (arg : Nat) (s : State) : mlkEffect 2 arg s = nbClear (arg % 2) s := by
  rw [mlkEffect, if_neg (by decide), field_low, pow_one]

theorem cfgSet_netPCfg (p : Fin 4) (old : Nat) (s : State) :
    cfgSet (Reg.netPCfg p) old s = netPCfgSet p old { s with cfgOld := s.cfgOld.filter fun e => decide (e.1 ≠ Reg.netPCfg p) } := by
  simp only [cfgSet, pageEntry_netPCfg]

theorem slotEffect_netPCfg (p : Fin 4) (v : Nat) (m : Master) (ok : Bool) (s : State) :
    slotEffect (Reg.netPCfg p) v m ok s = slotSet (Reg.netPCfg p) v (netPCfgSet p) s := by
  obtain ⟨f, ht⟩ := targetOf_netPCfg_rw p
  exact slotEffect_rw ht (accessOf_of_targetOf_rw ht) (cfgSet_netPCfg p) v m ok s

/-- Settles O26: a command row is its write, whose group's owner has the stated effect of its code; the write of NET_P_CFG sets its
fields, and then does what the port does. -/
theorem portAndServiceCommandsTakeEffect : Obligations.PortAndServiceCommandsTakeEffect := by
  unfold Obligations.PortAndServiceCommandsTakeEffect
  intro m p g arg v
  refine ⟨?readmit, ?takeOut, ?flush, ?enable, ?restart, ?clear, ?partition, ?block⟩
  case readmit => exact commands_netCmd (by decide) (fun _ => rfl) (netEffect_readmit arg.toNat)
  case takeOut => exact commands_netCmd (by decide) (fun _ => rfl) (netEffect_takeOut arg.toNat)
  case flush => exact commands_netCmd (by decide) (fun _ => rfl) fun _ => rfl
  case enable =>
    obtain ⟨f, ht⟩ := targetOf_netPCfg_rw p
    exact writes_of (fun _ => rfl) (by simp [ht]) (slotEffect_netPCfg p v.toNat m false)
  case restart => exact commands_mlkCmd (by decide) (fun _ => rfl) (mlkEffect_restart arg.toNat)
  case clear => exact commands_mlkCmd (by decide) (fun _ => rfl) (mlkEffect_clearTable arg.toNat)
  case partition =>
    exact commands_of_owner (owner := fun _ a => readmitPart (a % 2)) (fun v => cmdEffect_fltCmd v m false false) (by decide)
      (by decide) (fun _ => rfl) fun _ => rfl
  case block =>
    exact commands_of_owner (owner := fun _ a => State.blockRestart (a % 2 ^ 8) 2) (fun v => cmdEffect_pwrCmd v m false false)
      (by decide) (by decide) (fun _ => rfl) fun _ => rfl

end Sys2Proof.Machine
end

section
/-! A login through the field where its record finds no room (R356): the tag refuses it, which the statement of the contactless rows does
not say. -/
namespace Sys2Proof.Machine
open State

namespace State

theorem fieldReply_fieldSay (data : List Byte) (sw : Nat) (s : State) : (fieldSay data sw s).fieldReply = data ++ toBE 2 sw := by
  unfold fieldSay
  rw [setV_fieldReply, hwb_fieldReply, inc_fieldReply]

/-- AUTHENTICATE without a fault of form and outside a block, where the journal is EXHAUSTED and its reserve is used up: the challenge is
spent, and the tag answers 6982 (log entry 39). -/
theorem fieldAuth_exhausted {s : State} (hup : s.fieldUp = true) (hactive : s.fieldActive = true) (hmodule : s.fieldModule = true)
    (hblock : s.v .loginBlockEnd 2 ≤ s.counter) (hspace : s.space 3 = true) (hreserve : reserveRecords ≤ s.n .resUsed) (role : Nat)
    (valid : Bool) : fieldAuth role 0 96 valid s = fieldSay [] 0x6982 (s.setV .fieldChal 0 0) := by
  have hopen : ¬ (s.counter : Int) < s.v .loginBlockEnd 2 := by omega
  simp [fieldAuth, hup, hactive, hmodule, hopen, hspace, hreserve]

/-- A tag in the field, its application selected and a challenge outstanding for the key of role 2, with the journal EXHAUSTED and every
record of its reserve used. -/
def exhaustedField : State :=
  (((((((State.reset.wr Reg.ctlTagCfg (1 + 2 ^ 4)).wr Reg.ctlTagStat (1 + 2 ^ 1)).wr Reg.keyState 1).wr (Reg.keySlot 2) 3).wr
    Reg.jnlStat (2 ^ 3)).setV .fieldChal 0 1).setV .resUsed 0 reserveRecords)

theorem exhaustedField_serves : exhaustedField.fieldUp = true ∧ exhaustedField.fieldActive = true ∧
    exhaustedField.fieldModule = true := by decide

theorem exhaustedField_unblocked : exhaustedField.v .loginBlockEnd 2 ≤ exhaustedField.counter := by decide

theorem exhaustedField_full : exhaustedField.space 3 = true ∧ reserveRecords ≤ exhaustedField.n .resUsed := by decide

/-- The signature apart, nothing speaks against a login for role 2. -/
theorem exhaustedField_logsIn : (exhaustedField.bit Reg.ctlTagCfg 4 && decide (2 = 2 ∨ 2 = 3) &&
    decide (exhaustedField.v .fieldChal ≠ 0) && true && decide (exhaustedField.slotAlg 2 ≠ 0)) = true := by decide

end State

/-- Refutes O52: the row of AUTHENTICATE is stated to log in wherever the signature is valid, but in `exhaustedField` the record of the
login would find no room, and the tag answers 6982 where the statement says 9000 (R356, log entry 39). -/
theorem not_contactlessRowsTakeEffect : ¬ Obligations.ContactlessRowsTakeEffect := by
  unfold Obligations.ContactlessRowsTakeEffect
  intro h
  obtain ⟨hup, hactive, hmodule⟩ := exhaustedField_serves
  obtain ⟨hspace, hreserve⟩ := exhaustedField_full
  have hopen : ¬ (exhaustedField.counter : Int) < exhaustedField.v .loginBlockEnd 2 := Int.not_lt.mpr exhaustedField_unblocked
  obtain ⟨-, -, -, -, -, -, -, -, -, hstated, -⟩ :=
    h exhaustedField 0 false 0 [] 0 false .ok false 0 0 0 2 0 [] 0 0 [] 96 true 0 .host
  have hmodel : exec (.authenticate 2 0 96 true) exhaustedField =
      .next (fieldSay [] 0x6982 (exhaustedField.setV .fieldChal 0 0)) :=
    congrArg Host.Outcome.next (fieldAuth_exhausted hup hactive hmodule exhaustedField_unblocked hspace hreserve 2 true)
  rw [if_neg (by rw [hup]; decide), if_neg (by rw [hactive, hmodule]; decide), if_neg (by decide), if_neg (by decide)] at hstated
  dsimp only at hstated
  rw [if_neg hopen, if_pos exhaustedField_logsIn] at hstated
  rw [hmodel, Host.Outcome.next.injEq] at hstated
  have hreply := congrArg (fun t : State => t.fieldReply) hstated
  simp only [fieldReply_fieldSay] at hreply
  exact absurd hreply (by decide)

end Sys2Proof.Machine
end
